-- ==== Sys2Proof/Word.lean ====
section
/-! DEFINITION. The widths in which frames carry their fields (R176, R186). -/

namespace Sys2Proof

/-- One byte on a link line (R175: 8 data bits). -/
abbrev Byte := BitVec 8

/-- A two-byte field, `u2` or `s2` of the Message Layouts chapter. -/
abbrev Half := BitVec 16

/-- A four-byte field, `u4` or `s4`; also the device millisecond count (R162). -/
abbrev Word := BitVec 32

end Sys2Proof
end

