-- ==== Sys2Proof/Syntax.lean ====
section
/-! DEFINITION. The commands of the CS348: one constructor of `Instr` for each row of the table of operations
and events, with the operands the row needs; and `Request`, the content of a request frame's body. -/

namespace Sys2Proof

/-- The three link ports (R175). A session is named by its port (R147). -/
inductive PortId where
  | p1 | p2 | p3
  deriving DecidableEq, Repr

/-- The three axes (R1). -/
inductive AxisId where
  | a | b | v
  deriving DecidableEq, Repr

/-- The three step generators (R83). -/
inductive GenId where
  | g1 | g2 | gv
  deriving DecidableEq, Repr

/-- The two encoders: EA, counted by axis A with marker MKA, and EB, counted by axis B with marker MKB (R1). -/
inductive Encoder where
  | ea | eb
  deriving DecidableEq, Repr

/-- The four reference lines REF0 to REF3 (R123). -/
inductive RefLine where
  | ref0 | ref1 | ref2 | ref3
  deriving DecidableEq, Repr

/-- The outputs Q0 to Q15 (R68). -/
abbrev OutputId := Fin 16

/-- One thing for each port. -/
structure PerPort (α : Type) where
  p1 : α
  p2 : α
  p3 : α
  deriving DecidableEq, Repr

/-- One thing for each axis. -/
structure PerAxis (α : Type) where
  a : α
  b : α
  v : α
  deriving DecidableEq, Repr

/-- One thing for each generator. -/
structure PerGen (α : Type) where
  g1 : α
  g2 : α
  gv : α
  deriving DecidableEq, Repr

/-- The two lines of a quadrature pair (R3); `true` is the active level. -/
structure EncoderLines where
  phase1 : Bool
  phase2 : Bool
  deriving DecidableEq, Repr

/-- The levels of the field inputs (Table 0.2). Markers: `true` is active. Reference lines: `true` is high (R123). -/
structure InputLines where
  ea : EncoderLines
  eb : EncoderLines
  mka : Bool
  mkb : Bool
  ref0 : Bool
  ref1 : Bool
  ref2 : Bool
  ref3 : Bool
  haltAsserted : Bool
  deriving DecidableEq, Repr

/-- The two rate straps of a port; `true` is high (R175, Table 11.1). -/
structure Straps where
  strap1 : Bool
  strap2 : Bool
  deriving DecidableEq, Repr

/-- A window copy as a frame carries it: on-position s4, off-position s4, qualifier, lead u2 (R187). -/
structure RawWindow where
  on : Word
  off : Word
  qualifier : Byte
  lead : Half
  deriving DecidableEq, Repr

/-- The parameters of Queue Compare as a frame carries them (Table 12.1). -/
structure RawCompare where
  axis : Byte
  turn : Half
  position : Word
  crossing : Byte
  action : Byte
  argument : Byte
  width : Half
  tag : Half
  step : Word
  remaining : Half
  deriving DecidableEq, Repr

/-- The 28 bytes of a move record (Table 12.4), named by their offsets: the kind decides what each holds. -/
structure RawMove where
  tag : Half
  kind : Byte
  start : Byte
  at4 : Byte
  at5 : Word
  at9 : Word
  at13 : Word
  at17 : Half
  at19 : Half
  at21 : Word
  at25 : Byte
  at26 : Byte
  at27 : Byte
  deriving DecidableEq, Repr

/-- The content of a request frame's body (R187, Table 12.1): a listed request with its parameters, a listed
code with the wrong length, or an unlisted code (an empty body echoes code 0x00, R181). -/
inductive Request where
  | unknown (echo : Byte)
  | badLength (code : Byte)
  | openSession (station : Byte) (lease : Half) (subscriptions : Byte)
  | closeSession
  | renew
  | readPortStatus
  | setSubscriptions (subscriptions : Byte)
  | acknowledgeNotices (number : Half)
  | claim (resource wait : Byte)
  | release (resource : Byte)
  | cancelWait (resource : Byte)
  | readClaims
  | configureAxis (axis mode : Byte) (cycle : Word) (sense : Byte) (gate : Half)
  | presetAxis (axis : Byte) (turn : Half) (position : Word)
  | readAxis (axis : Byte)
  | armCapture (axis source edge count : Byte)
  | readCaptures (axis : Byte)
  | defineWindow (axis output : Byte) (copy : RawWindow)
  | editWindow (slot : Byte) (copy : RawWindow)
  | deleteWindow (slot : Byte)
  | commitWindows (axis timing : Byte)
  | cancelCommit (axis : Byte)
  | readWindow (slot : Byte)
  | queueCompare (fields : RawCompare)
  | withdrawCompare (id : Byte)
  | readCompares (axis index : Byte)
  | setOutputMode (output mode : Byte)
  | setOutputLevel (output level : Byte)
  | setFallback (output level : Byte)
  | pulseOutput (output : Byte) (width : Half)
  | clearOverlay (output : Byte)
  | readOutputs
  | configureGenerator (gen : Byte) (maxRate : Word) (stopDecel haltDecel : Half) (sense : Byte)
  | appendMove (gen : Byte) (record : RawMove)
  | stopGenerator (gen mode : Byte)
  | triggerGenerator (gen : Byte)
  | setGeneratorPosition (gen : Byte) (value : Word)
  | readGenerator (gen : Byte)
  | readHalt
  | clearHalt
  deriving DecidableEq, Repr

/-- The commands: one constructor for each row of the opcode table.

The first block are the events of the field lines, of the part's timers and of the link. The second block are
the requests: each names its port, the SEQ of its frame and the fields of its body, and stands for the
completion of that request frame on the port (log 1). -/
inductive Instr where
  /-- COLD_RESET (R161): the levels sampled as cold reset ends, and the rate straps. -/
  | coldReset (lines : InputLines) (straps : PerPort Straps)
  /-- ENCODER_TRANSITION (R3): the new levels of both lines of the pair. -/
  | encoderTransition (encoder : Encoder) (phase1 phase2 : Bool)
  /-- GATE_EXPIRY (R10). -/
  | gateExpiry (axis : AxisId)
  /-- MARKER_EDGE (R13): the new level of MKA (`ea`) or MKB (`eb`). -/
  | markerEdge (encoder : Encoder) (active : Bool)
  /-- REFERENCE_LINE_EDGE (R123): the new level of the line. -/
  | referenceLineEdge (line : RefLine) (high : Bool)
  /-- STEP (R93). -/
  | generatorStep (gen : GenId)
  /-- FOLLOW_BACKLOG_STEP (R99). -/
  | followBacklogStep (gen : GenId)
  /-- RAMP_TIMER_EXPIRY (R93). -/
  | rampTimerExpiry (gen : GenId)
  /-- DWELL_TIMER_EXPIRY (R101). -/
  | dwellTimerExpiry (gen : GenId)
  /-- PULSE_TIMER_EXPIRY (R72). -/
  | pulseTimerExpiry (output : OutputId)
  /-- HALT_ASSERTION (R126). -/
  | haltAssertion
  /-- HALT_RELEASE (R126). -/
  | haltRelease
  /-- LEASE_EXPIRY (R150). -/
  | leaseExpiry (port : PortId)
  /-- FRAME_COMPLETE (R178): the second CRC byte of a frame. -/
  | frameComplete (port : PortId) (crcLow : Byte)
  /-- GAP_ABORT (R178). -/
  | gapAbort (port : PortId)
  /-- LINK_BREAK (R179). -/
  | linkBreak (port : PortId)
  /-- FRAME_END (R184). -/
  | frameEnd (port : PortId)
  /-- RESEND_TIMER_EXPIRY (R171). -/
  | resendTimerExpiry (port : PortId)
  /-- BYTE_TAKEN (R177). -/
  | byteTaken (port : PortId) (byte : Byte)
  /-- LINE_RETURNS_TO_MARK (R179). -/
  | lineReturnsToMark (port : PortId)
  /-- DEVICE_MILLISECOND_INCREMENT (R162). -/
  | deviceMillisecondIncrement
  /-- UNKNOWN_REQUEST (R148): the whole body, an unlisted code and what follows it, or nothing at all. -/
  | unknownRequest (port : PortId) (seq : Byte) (body : List Byte)
  /-- OPEN_SESSION (R151). -/
  | openSession (port : PortId) (seq : Byte) (station : Byte) (lease : Half) (subscriptions : Byte)
  /-- CLOSE_SESSION (R153). -/
  | closeSession (port : PortId) (seq : Byte)
  /-- RENEW (R154). -/
  | renew (port : PortId) (seq : Byte)
  /-- READ_PORT_STATUS (R156). -/
  | readPortStatus (port : PortId) (seq : Byte)
  /-- SET_SUBSCRIPTIONS (R155). -/
  | setSubscriptions (port : PortId) (seq : Byte) (subscriptions : Byte)
  /-- ACKNOWLEDGE_NOTICES (R169). -/
  | acknowledgeNotices (port : PortId) (seq : Byte) (number : Half)
  /-- CLAIM (R135). -/
  | claim (port : PortId) (seq : Byte) (resource wait : Byte)
  /-- RELEASE (R138). -/
  | release (port : PortId) (seq : Byte) (resource : Byte)
  /-- CANCEL_WAIT (R141). -/
  | cancelWait (port : PortId) (seq : Byte) (resource : Byte)
  /-- READ_CLAIMS (R145). -/
  | readClaims (port : PortId) (seq : Byte)
  /-- CONFIGURE_AXIS (R17). -/
  | configureAxis (port : PortId) (seq : Byte) (axis mode : Byte) (cycle : Word) (sense : Byte) (gate : Half)
  /-- PRESET_AXIS (R18). -/
  | presetAxis (port : PortId) (seq : Byte) (axis : Byte) (turn : Half) (position : Word)
  /-- READ_AXIS (R19). -/
  | readAxis (port : PortId) (seq : Byte) (axis : Byte)
  /-- ARM_CAPTURE (R12). -/
  | armCapture (port : PortId) (seq : Byte) (axis source edge count : Byte)
  /-- READ_CAPTURES (R16). -/
  | readCaptures (port : PortId) (seq : Byte) (axis : Byte)
  /-- DEFINE_WINDOW (R25). -/
  | defineWindow (port : PortId) (seq : Byte) (axis output : Byte) (copy : RawWindow)
  /-- EDIT_WINDOW (R27). -/
  | editWindow (port : PortId) (seq : Byte) (slot : Byte) (copy : RawWindow)
  /-- DELETE_WINDOW (R28). -/
  | deleteWindow (port : PortId) (seq : Byte) (slot : Byte)
  /-- COMMIT_WINDOWS_NOW (R30): Commit Windows with timing NOW. -/
  | commitWindowsNow (port : PortId) (seq : Byte) (axis : Byte)
  /-- COMMIT_WINDOWS_AT_ROLLOVER (R31): Commit Windows with timing AT_ROLLOVER. -/
  | commitWindowsAtRollover (port : PortId) (seq : Byte) (axis : Byte)
  /-- CANCEL_COMMIT (R33). -/
  | cancelCommit (port : PortId) (seq : Byte) (axis : Byte)
  /-- READ_WINDOW (R45). -/
  | readWindow (port : PortId) (seq : Byte) (slot : Byte)
  /-- QUEUE_COMPARE (R52). -/
  | queueCompare (port : PortId) (seq : Byte) (fields : RawCompare)
  /-- WITHDRAW_COMPARE (R63). -/
  | withdrawCompare (port : PortId) (seq : Byte) (id : Byte)
  /-- READ_COMPARES (R64). -/
  | readCompares (port : PortId) (seq : Byte) (axis index : Byte)
  /-- SET_OUTPUT_MODE (R75). -/
  | setOutputMode (port : PortId) (seq : Byte) (output mode : Byte)
  /-- SET_OUTPUT_LEVEL (R76). -/
  | setOutputLevel (port : PortId) (seq : Byte) (output level : Byte)
  /-- SET_FALLBACK (R77). -/
  | setFallback (port : PortId) (seq : Byte) (output level : Byte)
  /-- PULSE_OUTPUT (R78). -/
  | pulseOutput (port : PortId) (seq : Byte) (output : Byte) (width : Half)
  /-- CLEAR_OVERLAY (R79). -/
  | clearOverlay (port : PortId) (seq : Byte) (output : Byte)
  /-- READ_OUTPUTS (R80). -/
  | readOutputs (port : PortId) (seq : Byte)
  /-- CONFIGURE_GENERATOR (R107). -/
  | configureGenerator (port : PortId) (seq : Byte) (gen : Byte) (maxRate : Word) (stopDecel haltDecel : Half)
      (sense : Byte)
  /-- APPEND_MOVE (R105). -/
  | appendMove (port : PortId) (seq : Byte) (gen : Byte) (record : RawMove)
  /-- STOP_GENERATOR_RAMP (R103): Stop Generator with mode RAMP. -/
  | stopGeneratorRamp (port : PortId) (seq : Byte) (gen : Byte)
  /-- STOP_GENERATOR_FINISH (R104): Stop Generator with mode FINISH. -/
  | stopGeneratorFinish (port : PortId) (seq : Byte) (gen : Byte)
  /-- TRIGGER_GENERATOR (R106). -/
  | triggerGenerator (port : PortId) (seq : Byte) (gen : Byte)
  /-- SET_GENERATOR_POSITION (R107). -/
  | setGeneratorPosition (port : PortId) (seq : Byte) (gen : Byte) (value : Word)
  /-- READ_GENERATOR (R112). -/
  | readGenerator (port : PortId) (seq : Byte) (gen : Byte)
  /-- READ_HALT (R131). -/
  | readHalt (port : PortId) (seq : Byte)
  /-- CLEAR_HALT (R129). -/
  | clearHalt (port : PortId) (seq : Byte)
  deriving DecidableEq, Repr

end Sys2Proof
end

