-- ==== Sys2Proof/Decode.lean ====
section
/-! DEFINITION. Reading a request frame's body (R186, R187, Table 12.1), total on any bytes; and
`decodeTableWord`, which reads nothing, because no row of the opcode table gives bits (log 16). -/

namespace Sys2Proof

/-- The byte at an offset of a body. -/
def fieldByte (body : List Byte) (at_ : Nat) : Byte := body.getD at_ 0

/-- The two-byte field at an offset, high byte first (R186). -/
def fieldHalf (body : List Byte) (at_ : Nat) : Half :=
  fieldByte body at_ ++ fieldByte body (at_ + 1)

/-- The four-byte field at an offset, high byte first (R186). -/
def fieldWord (body : List Byte) (at_ : Nat) : Word :=
  fieldHalf body at_ ++ fieldHalf body (at_ + 2)

/-- The window copy of 11 bytes at an offset (R187). -/
def fieldWindow (body : List Byte) (at_ : Nat) : RawWindow :=
  { on := fieldWord body at_, off := fieldWord body (at_ + 4), qualifier := fieldByte body (at_ + 8),
    lead := fieldHalf body (at_ + 9) }

/-- The parameters of Queue Compare, offsets as Table 12.8 counts them. -/
def fieldCompare (body : List Byte) : RawCompare :=
  { axis := fieldByte body 1, turn := fieldHalf body 2, position := fieldWord body 4, crossing := fieldByte body 8,
    action := fieldByte body 9, argument := fieldByte body 10, width := fieldHalf body 11, tag := fieldHalf body 13,
    step := fieldWord body 15, remaining := fieldHalf body 19 }

/-- The move record of 28 bytes at an offset (Table 12.4). -/
def fieldMove (body : List Byte) (at_ : Nat) : RawMove :=
  { tag := fieldHalf body at_, kind := fieldByte body (at_ + 2), start := fieldByte body (at_ + 3),
    at4 := fieldByte body (at_ + 4), at5 := fieldWord body (at_ + 5), at9 := fieldWord body (at_ + 9),
    at13 := fieldWord body (at_ + 13), at17 := fieldHalf body (at_ + 17), at19 := fieldHalf body (at_ + 19),
    at21 := fieldWord body (at_ + 21), at25 := fieldByte body (at_ + 25), at26 := fieldByte body (at_ + 26),
    at27 := fieldByte body (at_ + 27) }

/-- The body length each listed request code requires (Table 12.1); none for an unlisted code. -/
def requestLength (code : Byte) : Option Nat :=
  match code.toNat with
  | 0x01 => some 5
  | 0x02 => some 1
  | 0x03 => some 1
  | 0x04 => some 1
  | 0x05 => some 2
  | 0x06 => some 3
  | 0x10 => some 3
  | 0x11 => some 2
  | 0x12 => some 2
  | 0x13 => some 1
  | 0x20 => some 10
  | 0x21 => some 8
  | 0x22 => some 2
  | 0x23 => some 5
  | 0x24 => some 2
  | 0x30 => some 14
  | 0x31 => some 13
  | 0x32 => some 2
  | 0x33 => some 3
  | 0x34 => some 2
  | 0x35 => some 2
  | 0x40 => some 21
  | 0x41 => some 2
  | 0x42 => some 3
  | 0x50 => some 3
  | 0x51 => some 3
  | 0x52 => some 3
  | 0x53 => some 4
  | 0x54 => some 2
  | 0x55 => some 1
  | 0x60 => some 11
  | 0x61 => some 30
  | 0x62 => some 3
  | 0x63 => some 2
  | 0x64 => some 6
  | 0x65 => some 2
  | 0x70 => some 1
  | 0x71 => some 1
  | _ => none

/-- The request a listed code names, its parameters read from the body (Table 12.1). -/
def requestFields (code : Byte) (body : List Byte) : Request :=
  match code.toNat with
  | 0x01 => .openSession (fieldByte body 1) (fieldHalf body 2) (fieldByte body 4)
  | 0x02 => .closeSession
  | 0x03 => .renew
  | 0x04 => .readPortStatus
  | 0x05 => .setSubscriptions (fieldByte body 1)
  | 0x06 => .acknowledgeNotices (fieldHalf body 1)
  | 0x10 => .claim (fieldByte body 1) (fieldByte body 2)
  | 0x11 => .release (fieldByte body 1)
  | 0x12 => .cancelWait (fieldByte body 1)
  | 0x13 => .readClaims
  | 0x20 => .configureAxis (fieldByte body 1) (fieldByte body 2) (fieldWord body 3) (fieldByte body 7) (fieldHalf body 8)
  | 0x21 => .presetAxis (fieldByte body 1) (fieldHalf body 2) (fieldWord body 4)
  | 0x22 => .readAxis (fieldByte body 1)
  | 0x23 => .armCapture (fieldByte body 1) (fieldByte body 2) (fieldByte body 3) (fieldByte body 4)
  | 0x24 => .readCaptures (fieldByte body 1)
  | 0x30 => .defineWindow (fieldByte body 1) (fieldByte body 2) (fieldWindow body 3)
  | 0x31 => .editWindow (fieldByte body 1) (fieldWindow body 2)
  | 0x32 => .deleteWindow (fieldByte body 1)
  | 0x33 => .commitWindows (fieldByte body 1) (fieldByte body 2)
  | 0x34 => .cancelCommit (fieldByte body 1)
  | 0x35 => .readWindow (fieldByte body 1)
  | 0x40 => .queueCompare (fieldCompare body)
  | 0x41 => .withdrawCompare (fieldByte body 1)
  | 0x42 => .readCompares (fieldByte body 1) (fieldByte body 2)
  | 0x50 => .setOutputMode (fieldByte body 1) (fieldByte body 2)
  | 0x51 => .setOutputLevel (fieldByte body 1) (fieldByte body 2)
  | 0x52 => .setFallback (fieldByte body 1) (fieldByte body 2)
  | 0x53 => .pulseOutput (fieldByte body 1) (fieldHalf body 2)
  | 0x54 => .clearOverlay (fieldByte body 1)
  | 0x55 => .readOutputs
  | 0x60 => .configureGenerator (fieldByte body 1) (fieldWord body 2) (fieldHalf body 6) (fieldHalf body 8) (fieldByte body 10)
  | 0x61 => .appendMove (fieldByte body 1) (fieldMove body 2)
  | 0x62 => .stopGenerator (fieldByte body 1) (fieldByte body 2)
  | 0x63 => .triggerGenerator (fieldByte body 1)
  | 0x64 => .setGeneratorPosition (fieldByte body 1) (fieldWord body 2)
  | 0x65 => .readGenerator (fieldByte body 1)
  | 0x70 => .readHalt
  | 0x71 => .clearHalt
  | _ => .unknown code

/-- The request of a body (R187): an empty body echoes code 0x00 (R181), an unlisted code is unknown whatever
its length, and a listed code must have its length. -/
def Request.ofBody (body : List Byte) : Request :=
  match body with
  | [] => .unknown 0
  | code :: _ =>
    match requestLength code with
    | none => .unknown code
    | some n => if body.length = n then requestFields code body else .badLength code

/-- The request code a response echoes (R188). -/
def Request.code : Request → Byte
  | .unknown echo => echo
  | .badLength code => code
  | .openSession _ _ _ => 0x01
  | .closeSession => 0x02
  | .renew => 0x03
  | .readPortStatus => 0x04
  | .setSubscriptions _ => 0x05
  | .acknowledgeNotices _ => 0x06
  | .claim _ _ => 0x10
  | .release _ => 0x11
  | .cancelWait _ => 0x12
  | .readClaims => 0x13
  | .configureAxis _ _ _ _ _ => 0x20
  | .presetAxis _ _ _ => 0x21
  | .readAxis _ => 0x22
  | .armCapture _ _ _ _ => 0x23
  | .readCaptures _ => 0x24
  | .defineWindow _ _ _ => 0x30
  | .editWindow _ _ => 0x31
  | .deleteWindow _ => 0x32
  | .commitWindows _ _ => 0x33
  | .cancelCommit _ => 0x34
  | .readWindow _ => 0x35
  | .queueCompare _ => 0x40
  | .withdrawCompare _ => 0x41
  | .readCompares _ _ => 0x42
  | .setOutputMode _ _ => 0x50
  | .setOutputLevel _ _ => 0x51
  | .setFallback _ _ => 0x52
  | .pulseOutput _ _ => 0x53
  | .clearOverlay _ => 0x54
  | .readOutputs => 0x55
  | .configureGenerator _ _ _ _ _ => 0x60
  | .appendMove _ _ => 0x61
  | .stopGenerator _ _ => 0x62
  | .triggerGenerator _ => 0x63
  | .setGeneratorPosition _ _ => 0x64
  | .readGenerator _ => 0x65
  | .readHalt => 0x70
  | .clearHalt => 0x71

/-- The command a table word spells: none, because no row of the opcode table gives bits (log 16). -/
def decodeTableWord (_nbits _w : Nat) : Option Instr := none

end Sys2Proof
end

