-- ==== Sys2Proof/Config.lean ====
section
/-! DEFINITION. What the specification leaves open: the free choices, and the capacities of Table 0.1. -/

namespace Sys2Proof

/-- FREE VALUE (log 5, log 6, log 19): the n-th free choice of an order. Where one event reaches blocks that the
specification does not order among themselves (R9, R127, R164), or where it reads both ways (R181, R184), the
order taken is read off this number, and so is which records of a Read Outputs an event comes before (R80), and which
receivers take a change of the halt state later than others (R127). It has no body: nothing can be proved of it. -/
opaque Config.freeOrder : Nat → Nat

/-- FREE VALUE (log 21): what Read Generator sends as the steps issued of a move that has issued more than its four bytes
hold, which R112 and Table 12.6 do not say. It has no body. -/
opaque Config.issuedBeyond : Nat → Word

/-- Places of a session's notice queue (R166). -/
def Config.noticePlaces : Nat := 24

/-- The send window: notices sent and unacknowledged (R167). -/
def Config.sendWindow : Nat := 8

/-- Requests an intake queue holds (R180). -/
def Config.intakePlaces : Nat := 2

/-- Entries of the compare pool (R47). -/
def Config.comparePool : Nat := 32

/-- Waiting moves of a generator (R86). -/
def Config.movePlaces : Nat := 8

/-- Records of a capture log (R13). -/
def Config.capturePlaces : Nat := 8

/-- Places of a wait list (R134). -/
def Config.waitPlaces : Nat := 2

/-- Steps of a FOLLOW backlog (R99). -/
def Config.backlogPlaces : Nat := 64

/-- The bound of LINEAR positions, step counters, distances and home values (R2, R85, R87). -/
def Config.countBound : Int := 2000000000

/-- The bound of the gate accumulation and the velocity estimate (R10). -/
def Config.speedBound : Int := 2147483647

/-- The resend period in milliseconds (R171). -/
def Config.resendPeriod : Nat := 250

end Sys2Proof
end

