-- ==== Sys2Proof/Machine/State.lean ====
section
/-! DEFINITION. The state of the CS348 as plain data: every record of the chapters, the link ports, the field
lines, and the queue of waiting commands; the reasons a step can stop; and the state after cold reset. -/

namespace Sys2Proof.Machine

/-! ### Enumerated values (Table 12.5) -/

/-- A line level. -/
inductive Level where
  | low | high
  deriving DecidableEq, Repr

/-- A level of a serial line (R175). -/
inductive SerialLevel where
  | space | mark
  deriving DecidableEq, Repr

/-- Mode of an axis (R2). -/
inductive AxisMode where
  | linear | rotary
  deriving DecidableEq, Repr

/-- Count sense of an axis (R2) and direction sense of a generator (R84). -/
inductive Sense where
  | normal | inverted
  deriving DecidableEq, Repr

/-- Direction of an axis: that of its most recent count event (R1). -/
inductive AxisDir where
  | forward | reverse
  deriving DecidableEq, Repr

/-- State of an axis (R7). -/
inductive AxisStatus where
  | counting | overrange
  deriving DecidableEq, Repr

/-- Source of a capture record (section 1.4); an arming never has COMPARE (R12). -/
inductive CaptureSource where
  | marker
  | ref (line : RefLine)
  | compare
  deriving DecidableEq, Repr

/-- Edge of a capture arming (R12). -/
inductive CaptureEdge where
  | rising | falling | both
  deriving DecidableEq, Repr

/-- Direction qualifier of a window (R24). -/
inductive Qualifier where
  | forward | reverse | either
  deriving DecidableEq, Repr

/-- Slot state (R23). -/
inductive SlotStatus where
  | free | staged | live | liveEdited | retiring
  deriving DecidableEq, Repr

/-- Timing of a commit (R30). -/
inductive CommitTiming where
  | now | atRollover
  deriving DecidableEq, Repr

/-- Crossing of a compare entry (R53). -/
inductive Crossing where
  | up | down | either
  deriving DecidableEq, Repr

/-- Result of a firing (R54). -/
inductive CompareResult where
  | done | skippedNotOwner | logFull
  deriving DecidableEq, Repr

/-- Disposition of a fired entry (R59). -/
inductive Disposition where
  | removed | reArmed | repeatEnded | rangeEnded
  deriving DecidableEq, Repr

/-- Mode of an output channel (R68). -/
inductive OutputMode where
  | manual | cam
  deriving DecidableEq, Repr

/-- Overlay of an output channel (R72). -/
inductive Overlay where
  | none | high | low
  deriving DecidableEq, Repr

/-- Generator state (Table 5.2). -/
inductive GenState where
  | idle | armed | running | following | dwelling | searching | stopping | halted
  deriving DecidableEq, Repr

/-- Phase of a RUNNING move (R83). -/
inductive Phase where
  | rampUp | cruise | rampDown
  deriving DecidableEq, Repr

/-- Stop rate in force (R102). -/
inductive StopRate where
  | stop | halt
  deriving DecidableEq, Repr

/-- Start condition of a move record (R87). -/
inductive StartCondition where
  | immediate | onTrigger
  deriving DecidableEq, Repr

/-- Target mode of a POSITION move (R87). -/
inductive TargetMode where
  | absolute | relative
  deriving DecidableEq, Repr

/-- Direction of a step: UP moves the step counter up (R87). -/
inductive StepDir where
  | up | down
  deriving DecidableEq, Repr

/-- Causes of a move end (R92). -/
inductive EndCause where
  | complete | stopped | halted | endedByNext | followOverspeed | notFound | outOfRange
  deriving DecidableEq, Repr

/-- Phase of a reference search (R115). -/
inductive SearchPhase where
  | clearing | seek | creep | final
  deriving DecidableEq, Repr

/-- Not-found mark of a search (R121); absent is `Option.none`. -/
inductive NotFound where
  | limit | overrun
  deriving DecidableEq, Repr

/-- Source of a trigger (R91). -/
inductive TriggerSource where
  | request | compare
  deriving DecidableEq, Repr

/-- State of a claim record (R133). -/
inductive ClaimState where
  | free | held | releasing
  deriving DecidableEq, Repr

/-- Cause by which a claim came free (R140). -/
inductive ClaimCause where
  | released | sessionEnded
  deriving DecidableEq, Repr

/-- Halt state (R125). -/
inductive HaltState where
  | clear | active | latched
  deriving DecidableEq, Repr

/-- Cause of a change of the halt state (R128). -/
inductive HaltCause where
  | lineAsserted | lineReleased | cleared
  deriving DecidableEq, Repr

/-- Cause of a session end (R157). -/
inductive SessionCause where
  | closed | lapsed | brk
  deriving DecidableEq, Repr

/-- Status of a response (Table 12.2). -/
inductive Status where
  | done | queued | unknownRequest | badLength | noSession | sessionActive | stationInUse | notOwner | heldElsewhere
  | badValue | busy | halted | overrange | tableFull | queueFull | notFound
  deriving DecidableEq, Repr

/-- The 22 claimable resources (R133). -/
inductive Resource where
  | output (o : OutputId)
  | generator (g : GenId)
  | axis (x : AxisId)
  deriving DecidableEq, Repr

/-! ### Axes (chapter 1) -/

/-- A capture record (section 1.4). -/
structure CaptureRecord where
  source : CaptureSource
  position : Int
  velocity : Int
  time : Word
  deriving DecidableEq, Repr

/-- A capture arming (R12). -/
structure CaptureArming where
  source : CaptureSource
  edge : CaptureEdge
  remaining : Nat
  deriving DecidableEq, Repr

/-- An axis record (R1, Table 1.1); `gateLeft` is the gate timer in milliseconds (R10). -/
structure Axis where
  mode : AxisMode
  cycle : Nat
  sense : Sense
  position : Int
  turn : Int
  direction : AxisDir
  status : AxisStatus
  gateTime : Nat
  gateLeft : Nat
  accumulation : Int
  velocity : Int
  arming : Option CaptureArming
  log : List CaptureRecord
  lost : Nat
  lossReported : Bool
  deriving DecidableEq, Repr

/-- An axis at cold reset (R20, Table 1.6). -/
def Axis.cold : Axis :=
  { mode := .linear, cycle := 3600, sense := .normal, position := 0, turn := 0, direction := .forward,
    status := .counting, gateTime := 10, gateLeft := 10, accumulation := 0, velocity := 0, arming := none, log := [],
    lost := 0, lossReported := false }

/-! ### The cam window table (chapter 2) -/

/-- The values of a window (R22). -/
structure WindowCopy where
  on : Int
  off : Int
  qualifier : Qualifier
  lead : Nat
  deriving DecidableEq, Repr

/-- A window slot (R22, Table 2.1). -/
structure Slot where
  status : SlotStatus
  axis : AxisId
  output : OutputId
  active : Option WindowCopy
  staged : Option WindowCopy
  inside : Bool
  deriving DecidableEq, Repr

/-- A FREE slot (R46); its axis and output mean nothing (log 17). -/
def Slot.free : Slot :=
  { status := .free, axis := .a, output := 0, active := none, staged := none, inside := false }

/-! ### The compare list (chapter 3) -/

/-- Action of a compare entry with its argument (Table 3.2). -/
inductive CompareAction where
  | notify
  | outHigh (o : OutputId)
  | outLow (o : OutputId)
  | outPulse (o : OutputId) (width : Nat)
  | outClear (o : OutputId)
  | triggerGen (g : GenId)
  | capture
  deriving DecidableEq, Repr

/-- Repeat of a compare entry (R47): 65535 remaining is without limit. -/
structure CompareRepeat where
  step : Int
  remaining : Nat
  deriving DecidableEq, Repr

/-- A compare entry (R47, Table 3.1); its target is held as the extended position (R50). -/
structure CompareEntry where
  id : Nat
  owner : PortId
  tag : Half
  target : Int
  crossing : Crossing
  action : CompareAction
  rep : Option CompareRepeat
  deriving DecidableEq, Repr

/-! ### Output channels (chapter 4) -/

/-- A channel record (R68, Table 4.1); `pulse` is the pulse timer in milliseconds, `line` the level on Qn. -/
structure Channel where
  mode : OutputMode
  manual : Level
  overlay : Overlay
  pulse : Option Nat
  fallback : Level
  cam : Bool
  halt : Bool
  line : Level
  deriving DecidableEq, Repr

/-- A channel at cold reset (R82). -/
def Channel.cold (haltAsserted : Bool) : Channel :=
  { mode := .manual, manual := .low, overlay := .none, pulse := none, fallback := .low, cam := false,
    halt := haltAsserted, line := .low }

/-! ### Step generators (chapters 5 and 6) -/

/-- The fields of a HOME record (R113, Table 6.1). -/
structure HomeFields where
  direction : StepDir
  searchSpeed : Nat
  creepSpeed : Nat
  accel : Nat
  decel : Nat
  line : RefLine
  markerAxis : Option Encoder
  markerCount : Nat
  limit : Nat
  home : Int
  deriving DecidableEq, Repr

/-- The kind of a move with its fields (R87, Table 5.3). -/
inductive MoveKind where
  | position (mode : TargetMode) (target : Int) (startSpeed peak accel decel : Nat)
  | velocity (dir : StepDir) (startSpeed peak accel decel : Nat) (limit : Option Nat)
  | follow (source : AxisId) (num : Int) (den : Nat) (limit : Option Nat)
  | dwell (ms : Nat)
  | home (f : HomeFields)
  deriving DecidableEq, Repr

/-- A move record (R87). -/
structure MoveRecord where
  tag : Half
  start : StartCondition
  kind : MoveKind
  deriving DecidableEq, Repr

/-- The search record of a HOME move (R115, Table 6.2). -/
structure SearchRecord where
  phase : SearchPhase
  motion : StepDir
  found : Bool
  markers : Nat
  steps : Nat
  mark : Option NotFound
  deriving DecidableEq, Repr

/-- The current move with its progress (R83): whether it has started, the steps issued, the remaining steps
where it has a distance, its direction, and the search record of a HOME move that has started. -/
structure CurrentMove where
  record : MoveRecord
  started : Bool
  issued : Nat
  remaining : Option Nat
  dir : StepDir
  search : Option SearchRecord
  deriving DecidableEq, Repr

/-- A generator record (R83, Table 5.1) with its ramp and dwell timers in milliseconds and the lines of G1 and
G2 (R84). `stepPulses`, `intervalSpeed` and `firstStepDue` are the model's own (log 4, log 7). -/
structure Generator where
  maxRate : Nat
  stopDecel : Nat
  haltDecel : Nat
  sense : Sense
  counter : Int
  state : GenState
  phase : Option Phase
  speed : Nat
  stopRate : Option StopRate
  current : Option CurrentMove
  endByNext : Bool
  queue : List MoveRecord
  pendingTrigger : Bool
  accumulator : Nat
  backlog : Nat
  backlogDir : StepDir
  halt : Bool
  rampLeft : Option Nat
  dwellLeft : Option Nat
  dirLine : Level
  stepLine : Level
  stepPulses : Nat
  intervalSpeed : Nat
  firstStepDue : Bool
  deriving DecidableEq, Repr

/-- A generator at cold reset (R84, R111). -/
def Generator.cold (haltAsserted : Bool) : Generator :=
  { maxRate := 1000, stopDecel := 100, haltDecel := 1000, sense := .normal, counter := 0,
    state := if haltAsserted then .halted else .idle, phase := none, speed := 0, stopRate := none, current := none,
    endByNext := false, queue := [], pendingTrigger := false, accumulator := 0, backlog := 0, backlogDir := .up,
    halt := haltAsserted, rampLeft := none, dwellLeft := none, dirLine := .low, stepLine := .low, stepPulses := 0,
    intervalSpeed := 0, firstStepDue := false }

/-! ### Claims (chapter 8) -/

/-- A claim record (R133, Table 8.1); `former` is a station, 0 for none. -/
structure Claim where
  state : ClaimState
  owner : Option PortId
  former : Nat
  waiters : List PortId
  deriving DecidableEq, Repr

/-- A FREE claim record (R146). -/
def Claim.free : Claim := { state := .free, owner := none, former := 0, waiters := [] }

/-- The 22 claim records (R133). -/
structure ClaimTable where
  outputs : Vector Claim 16
  gens : PerGen Claim
  axes : PerAxis Claim
  deriving DecidableEq, Repr

/-! ### Sessions and notices (chapters 9 and 10) -/

/-- A set of the four broadcast kinds (R147). -/
structure Subscriptions where
  sessionEnded : Bool
  haltChanged : Bool
  axisOverrange : Bool
  claimFreed : Bool
  deriving DecidableEq, Repr

/-- A session record (R147, Table 9.1); `leaseLeft` is the lease timer in milliseconds, absent when stopped;
`closing` says that a Close Session of the session has been taken (R153). -/
structure Session where
  isOpen : Bool
  station : Nat
  lease : Nat
  leaseLeft : Option Nat
  subs : Subscriptions
  closing : Bool
  deriving DecidableEq, Repr

/-- A session record in state NONE (R147, R161). -/
def Session.closed : Session :=
  { isOpen := false, station := 0, lease := 0, leaseLeft := none,
    subs := { sessionEnded := false, haltChanged := false, axisOverrange := false, claimFreed := false },
    closing := false }

/-- The fourteen notice kinds with their kind fields (Table 12.7). Search fields are those of R124; fields that
do not apply stand at the value that is sent as 0 (R188). -/
inductive NoticeKind where
  | compareFired (id : Nat) (tag : Half) (axis : AxisId) (position : Int) (direction : AxisDir) (action : CompareAction)
      (result : CompareResult) (disposition : Disposition) (newTurn newPosition : Int) (remaining : Nat)
  | compareWithdrawn (id : Nat) (tag : Half) (axis : AxisId) (turn position : Int)
  | commitDone (axis : AxisId) (timing : CommitTiming) (changed : Nat) (position : Int)
  | moveStarted (gen : GenId) (tag : Half) (kind : MoveKind) (counter : Int) (byTrigger : Bool)
      (phase : Option SearchPhase)
  | moveEnded (gen : GenId) (tag : Half) (kind : MoveKind) (cause : EndCause) (counter : Int) (started : Bool)
      (search : Option SearchRecord)
  | queueFlushed (gen : GenId) (count : Nat)
  | triggerLost (gen : GenId) (source : TriggerSource) (state : GenState)
  | captureDone (axis : AxisId) (source : CaptureSource) (count : Nat)
  | captureLost (axis : AxisId) (source : CaptureSource)
  | claimGranted (resource : Resource) (station : Nat) (cause : ClaimCause)
  | claimFreed (resource : Resource) (station : Nat) (cause : ClaimCause)
  | axisOverrange (axis : AxisId) (position : Int) (direction : AxisDir)
  | sessionEnded (station : Nat) (port : PortId) (cause : SessionCause)
  | haltChanged (new old : HaltState) (cause : HaltCause) (station : Nat)
  deriving DecidableEq, Repr

/-- A notice in a queue (R163): UNSENT while `sentAt` is absent, else SENT at that count. -/
structure Notice where
  number : Nat
  kind : NoticeKind
  lostBefore : Nat
  time : Word
  sentAt : Option Word
  deriving DecidableEq, Repr

/-- A session's notice queue (R165, R166) and its resend timer, held as the count at which it runs out (R171). -/
structure NoticeQueue where
  items : List Notice
  next : Nat
  wrapped : Bool
  lost : Nat
  resendAt : Option Word
  deriving DecidableEq, Repr

/-- The queue of a session just opened (R173); a port in state NONE holds it too, and it means nothing there. -/
def NoticeQueue.fresh : NoticeQueue := { items := [], next := 1, wrapped := false, lost := 0, resendAt := none }

/-! ### Link ports (chapter 11) -/

/-- The bit rate a port's straps select (Table 11.1). -/
inductive LineRate where
  | r115200 | r460800 | r921600 | r2000000
  deriving DecidableEq, Repr

/-- The receiver (R177, Table 11.3): HUNT; HEADER expecting TYPE, SEQ or LEN; BODY with the bytes so far; CHECK
expecting the first or the second CRC byte. -/
inductive Receiver where
  | hunt
  | headerType
  | headerSeq (type : Byte)
  | headerLen (type seq : Byte)
  | body (type seq len : Byte) (got : List Byte)
  | checkHigh (type seq len : Byte) (body : List Byte)
  | checkLow (type seq len : Byte) (body : List Byte) (crcHigh : Byte)
  deriving DecidableEq, Repr

/-- A request in the intake queue (R180). -/
structure Intake where
  seq : Byte
  request : Request
  deriving DecidableEq, Repr

/-- The entry of the retransmission cache (R182): a SEQ and the full response body. -/
structure CacheEntry where
  seq : Byte
  body : List Byte
  deriving DecidableEq, Repr

/-- A response handed to the transmitter (R184); `closes` marks the DONE of a Close Session (R153). -/
structure Response where
  seq : Byte
  body : List Byte
  closes : Bool
  deriving DecidableEq, Repr

/-- What the transmitter is sending: the response of the head of the intake queue, a notice, or a response whose
intake slot a link break has emptied while its frame was in transmission (R179, log 14). -/
inductive TxKind where
  | response (closes : Bool)
  | notice (number : Nat)
  | orphan
  deriving DecidableEq, Repr

/-- A frame in transmission, with its bytes (R176). -/
structure TxFrame where
  kind : TxKind
  bytes : List Byte
  deriving DecidableEq, Repr

/-- The five fault counters of a port (R178). -/
structure Faults where
  gapAbort : Nat
  length : Nat
  crc : Nat
  foreign : Nat
  overrun : Nat
  deriving DecidableEq, Repr

/-- Fault counters at 0 (R178). -/
def Faults.zero : Faults := { gapAbort := 0, length := 0, crc := 0, foreign := 0, overrun := 0 }

/-- One port: its session and notices, and the five pieces of state of its transport (chapter 11), with the
sampled rate and whether the line stands at space after a break (R179, log 13). -/
structure Port where
  session : Session
  notices : NoticeQueue
  rate : LineRate
  rx : Receiver
  atSpace : Bool
  intake : List Intake
  cache : Option CacheEntry
  tx : Option TxFrame
  waiting : Option Response
  faults : Faults
  deriving DecidableEq, Repr

/-- A port at cold reset (R161, R174, R175, R177, R180, R183, R185). -/
def Port.cold (rate : LineRate) : Port :=
  { session := Session.closed, notices := NoticeQueue.fresh, rate := rate, rx := .hunt, atSpace := false, intake := [],
    cache := none, tx := none, waiting := none, faults := Faults.zero }

/-! ### The machine -/

/-- What takes a change of the halt state (R127): a channel or a generator. -/
inductive HaltReceiver where
  | output (o : OutputId)
  | generator (g : GenId)
  deriving DecidableEq, Repr

/-- The whole state of the part, with the queue of waiting commands.

`choices`, `vEvents`, `vTaking`, `handing` and `clearing` are the model's own: the number of free choices taken (log 5); the
count events GV has handed to axis V that the axis has not taken yet, with whether it is taking one (log 7); and the receivers
that have still to take the latest change of the halt state (R127, log 19), with the port whose Clear Halt waits for them with
its response (R129). -/
structure State where
  now : Word
  lines : InputLines
  axes : PerAxis Axis
  slots : Vector Slot 48
  camLevels : Vector Bool 16
  commits : PerPort (PerAxis Bool)
  compares : PerAxis (List CompareEntry)
  nextCompareId : Nat
  channels : Vector Channel 16
  gens : PerGen Generator
  halt : HaltState
  handing : List HaltReceiver
  clearing : Option PortId
  claims : ClaimTable
  ports : PerPort Port
  vEvents : List AxisDir
  vTaking : Bool
  choices : Nat
  pending : List Instr
  deriving DecidableEq, Repr

/-- The part stops with no fault: every command of the table ends in a next state, and what the controllers get
wrong is answered with a status or counted. The type has no constructor. -/
inductive Fault : Type
  deriving DecidableEq, Repr

/-- Why a command has no meaning. No arm of exec answers with it. -/
inductive Refusal where
  /-- Raised by exec's arm of a command that has no meaning yet; safe, since the machine stops. -/
  | notModelled (mnemonic : String)
  deriving DecidableEq, Repr

/-- The rate of Table 11.1. -/
def Straps.rate (s : Straps) : LineRate :=
  match s.strap1, s.strap2 with
  | false, false => .r115200
  | false, true => .r460800
  | true, false => .r921600
  | true, true => .r2000000

/-- The state as cold reset ends (R161), with the levels and straps sampled then (R20, R132, R175). -/
def State.cold (lines : InputLines) (straps : PerPort Straps) : State :=
  { now := 0
    lines := lines
    axes := { a := Axis.cold, b := Axis.cold, v := Axis.cold }
    slots := Vector.replicate 48 Slot.free
    camLevels := Vector.replicate 16 false
    commits :=
      { p1 := { a := false, b := false, v := false }, p2 := { a := false, b := false, v := false },
        p3 := { a := false, b := false, v := false } }
    compares := { a := [], b := [], v := [] }
    nextCompareId := 1
    channels := Vector.replicate 16 (Channel.cold lines.haltAsserted)
    gens :=
      { g1 := Generator.cold lines.haltAsserted, g2 := Generator.cold lines.haltAsserted,
        gv := Generator.cold lines.haltAsserted }
    halt := if lines.haltAsserted then .active else .clear
    handing := []
    clearing := none
    claims :=
      { outputs := Vector.replicate 16 Claim.free, gens := { g1 := Claim.free, g2 := Claim.free, gv := Claim.free },
        axes := { a := Claim.free, b := Claim.free, v := Claim.free } }
    ports :=
      { p1 := Port.cold (Straps.rate straps.p1), p2 := Port.cold (Straps.rate straps.p2),
        p3 := Port.cold (Straps.rate straps.p3) }
    vEvents := []
    vTaking := false
    choices := 0
    pending := [] }

/-- DESIGN CHOICE, unsafe (log 8): the levels State.reset takes as sampled: every line low or inactive, HALT
released. -/
def InputLines.quiet : InputLines :=
  { ea := { phase1 := false, phase2 := false }, eb := { phase1 := false, phase2 := false }, mka := false, mkb := false,
    ref0 := false, ref1 := false, ref2 := false, ref3 := false, haltAsserted := false }

/-- DESIGN CHOICE, unsafe (log 8): the straps State.reset takes as sampled: both low on every port. -/
def Straps.allLow : PerPort Straps :=
  { p1 := { strap1 := false, strap2 := false }, p2 := { strap1 := false, strap2 := false },
    p3 := { strap1 := false, strap2 := false } }

/-- The machine right after cold reset, HALT released (R161); its command queue is empty. -/
def State.reset : State := State.cold InputLines.quiet Straps.allLow

end Sys2Proof.Machine
end

