-- ==== Sys2Proof/Machine/Flags.lean ====
section
/-! DEFINITION. Every value the rules compute from others: extended positions, the count event, the velocity
estimate, the range test of a window, the effective level, ramp speeds, edges. Pure functions; no state. -/

namespace Sys2Proof.Machine

/-- A count that stops at 65535 (R13, R166, R178). -/
def count16 (n : Nat) : Nat := min n 65535

/-- A value kept between the bounds of the accumulation and the velocity estimate (R10). -/
def saturate (i : Int) : Int := max (-Config.speedBound) (min Config.speedBound i)

/-- Whether a value lies between the bounds of a LINEAR position or a step counter (R2, R85). -/
def inCountRange (i : Int) : Bool := decide (-Config.countBound ≤ i) && decide (i ≤ Config.countBound)

/-! ### Axes -/

/-- The extended position of a turn and a position on an axis (R2). -/
def Axis.extendedOf (a : Axis) (turn position : Int) : Int :=
  match a.mode with
  | .rotary => turn * (a.cycle : Int) + position
  | .linear => position

/-- The extended position of an axis (R2). -/
def Axis.extended (a : Axis) : Int := a.extendedOf a.turn a.position

/-- The turn of an extended position (R59): the division by L rounded down; 0 on a LINEAR axis. -/
def Axis.turnOf (a : Axis) (x : Int) : Int :=
  match a.mode with
  | .rotary => Int.fdiv x a.cycle
  | .linear => 0

/-- The position of an extended position (R59): the remainder, 0 to L-1; the whole of it on a LINEAR axis. -/
def Axis.positionOf (a : Axis) (x : Int) : Int :=
  match a.mode with
  | .rotary => Int.fmod x a.cycle
  | .linear => x

/-- Whether an extended position lies in the range of the axis (R59). -/
def Axis.inRange (a : Axis) (x : Int) : Bool :=
  match a.mode with
  | .rotary => decide (-32768 * (a.cycle : Int) ≤ x) && decide (x ≤ 32767 * (a.cycle : Int) + (a.cycle : Int) - 1)
  | .linear => inCountRange x

/-- Whether a turn and a position may be set on the axis (R18, R50). -/
def Axis.validPlace (a : Axis) (turn position : Int) : Bool :=
  match a.mode with
  | .rotary => decide (0 ≤ position) && decide (position < (a.cycle : Int)) && decide (-32768 ≤ turn) && decide (turn ≤ 32767)
  | .linear => inCountRange position && decide (turn = 0)

/-- The count of an event (R10): +1 forward, -1 reverse. -/
def AxisDir.count : AxisDir → Int
  | .forward => 1
  | .reverse => -1

/-- The opposite direction. -/
def AxisDir.opposite : AxisDir → AxisDir
  | .forward => .reverse
  | .reverse => .forward

/-- Where a count event takes an axis in COUNTING (R5, R6, Table 1.2): the new turn and position, and whether
the event is a rollover; none where it would leave the range (R7). -/
def Axis.advance (a : Axis) (d : AxisDir) : Option (Int × Int × Bool) :=
  match a.mode, d with
  | .linear, .forward => if a.position < Config.countBound then some (a.turn, a.position + 1, false) else none
  | .linear, .reverse => if -Config.countBound < a.position then some (a.turn, a.position - 1, false) else none
  | .rotary, .forward =>
    if a.position < (a.cycle : Int) - 1 then some (a.turn, a.position + 1, false)
    else if a.turn < 32767 then some (a.turn + 1, 0, true)
    else none
  | .rotary, .reverse =>
    if 0 < a.position then some (a.turn, a.position - 1, false)
    else if -32768 < a.turn then some (a.turn - 1, (a.cycle : Int) - 1, true)
    else none

/-- The direction of a quadrature transition (R3): forward when it belongs to the order in which phase 1 leads
phase 2; none where no line or both lines have changed. -/
def quadrature (old new : EncoderLines) : Option AxisDir :=
  match old.phase1, old.phase2, new.phase1, new.phase2 with
  | false, false, true, false => some .forward
  | true, false, true, true => some .forward
  | true, true, false, true => some .forward
  | false, true, false, false => some .forward
  | true, false, false, false => some .reverse
  | true, true, true, false => some .reverse
  | false, true, true, true => some .reverse
  | false, false, false, true => some .reverse
  | _, _, _, _ => none

/-- The event direction under a count sense (R3): INVERTED exchanges the signs. -/
def Sense.event (s : Sense) (d : AxisDir) : AxisDir :=
  match s with
  | .normal => d
  | .inverted => d.opposite

/-- The count event of axis V for a step of GV (R4). -/
def Sense.stepEvent (s : Sense) (d : StepDir) : AxisDir :=
  match d with
  | .up => s.event .forward
  | .down => s.event .reverse

/-- The velocity estimate at a gate expiry (R10). -/
def velocityEstimate (accumulation : Int) (gateTime : Nat) : Int :=
  saturate (Int.tdiv (accumulation * 1000) gateTime)

/-- Whether a change of a line to the given level matches an armed edge (R13). -/
def CaptureEdge.takes (e : CaptureEdge) (rising : Bool) : Bool :=
  match e with
  | .rising => rising
  | .falling => !rising
  | .both => true

/-! ### Windows -/

/-- A slot that counts toward the cam level (R23). -/
def SlotStatus.counts : SlotStatus → Bool
  | .free => false
  | .staged => false
  | .live => true
  | .liveEdited => true
  | .retiring => true

/-- The lead offset (R38): velocity × lead / 1,000,000, truncated toward zero. -/
def leadOffset (velocity : Int) (lead : Nat) : Int := Int.tdiv (velocity * (lead : Int)) 1000000

/-- Whether a direction qualifier matches a direction (R39). -/
def Qualifier.admits (q : Qualifier) (d : AxisDir) : Bool :=
  match q, d with
  | .either, _ => true
  | .forward, .forward => true
  | .forward, .reverse => false
  | .reverse, .reverse => true
  | .reverse, .forward => false

/-- The lead-compensated position (R40, R41). -/
def Axis.leadPosition (a : Axis) (lead : Nat) : Int :=
  match a.mode with
  | .rotary => Int.emod (a.position + leadOffset a.velocity lead) a.cycle
  | .linear => a.position + leadOffset a.velocity lead

/-- The range test at a position (R40, R41): a LINEAR window has its on-position below its off-position, so the
wrapping case is the ROTARY axis's alone. -/
def WindowCopy.covers (w : WindowCopy) (c : Int) : Bool :=
  if w.on < w.off then decide (w.on ≤ c) && decide (c < w.off) else decide (w.on ≤ c) || decide (c < w.off)

/-- Whether a window with these values is inside (R39). -/
def WindowCopy.insideOn (w : WindowCopy) (a : Axis) : Bool :=
  decide (a.status = .counting) && w.qualifier.admits a.direction && w.covers (a.leadPosition w.lead)

/-- Whether values are valid on an axis (R24). -/
def WindowCopy.validOn (w : WindowCopy) (a : Axis) : Bool :=
  decide (w.on ≠ w.off) && decide (w.lead ≤ 10000) &&
    match a.mode with
    | .rotary => decide (0 ≤ w.on) && decide (w.on < (a.cycle : Int)) && decide (0 ≤ w.off) && decide (w.off < (a.cycle : Int))
    | .linear => inCountRange w.on && inCountRange w.off && decide (w.on < w.off)

/-! ### Compares -/

/-- Whether a crossing matches an event (R53). -/
def Crossing.admits (c : Crossing) (d : AxisDir) : Bool :=
  match c, d with
  | .either, _ => true
  | .up, .forward => true
  | .up, .reverse => false
  | .down, .reverse => true
  | .down, .forward => false

/-- Whether an entry is due at an arrival (R53). -/
def CompareEntry.due (e : CompareEntry) (x : Int) (d : AxisDir) : Bool :=
  decide (e.target = x) && e.crossing.admits d

/-- The resource an action acts on (Table 3.2). -/
def CompareAction.resource : CompareAction → Option Resource
  | .notify => none
  | .outHigh o => some (.output o)
  | .outLow o => some (.output o)
  | .outPulse o _ => some (.output o)
  | .outClear o => some (.output o)
  | .triggerGen g => some (.generator g)
  | .capture => none

/-! ### Channels -/

/-- The level a cam level composes as (R68). -/
def camAsLevel (c : Bool) : Level := if c then .high else .low

/-- The effective level of a channel (R69). -/
def Channel.effective (c : Channel) : Level :=
  if c.halt then c.fallback
  else
    match c.overlay with
    | .high => .high
    | .low => .low
    | .none =>
      match c.mode with
      | .cam => camAsLevel c.cam
      | .manual => c.manual

/-! ### Generators -/

/-- The opposite step direction. -/
def StepDir.opposite : StepDir → StepDir
  | .up => .down
  | .down => .up

/-- The step counter after a step (R84). -/
def StepDir.move (d : StepDir) (counter : Int) : Int :=
  match d with
  | .up => counter + 1
  | .down => counter - 1

/-- The level of the direction line for a step (R84). -/
def Sense.dirLevel (s : Sense) (d : StepDir) : Level :=
  match s, d with
  | .normal, .up => .high
  | .normal, .down => .low
  | .inverted, .up => .low
  | .inverted, .down => .high

/-- The braking distance (R95): (v² - s²)/(2·d·1000), rounded up. -/
def brakingDistance (v s d : Nat) : Nat := (v * v - s * s + (2000 * d - 1)) / (2000 * d)

/-- A rise of speed not above a ceiling (R95, R96, R118). -/
def riseTo (v by_ ceiling : Nat) : Nat := min (v + by_) ceiling

/-- A fall of speed not below a floor (R95). -/
def fallTo (v by_ floor : Nat) : Nat := max (v - by_) floor

/-- Speed and phase at a ramp timer expiry of a move with remaining steps (R95). A move that its RAMP_DOWN has brought
to its start speed goes on at that speed in RAMP_DOWN (log 18). -/
def profileSpeed (phase : Option Phase) (v startSpeed peak accel decel remaining : Nat) : Nat × Phase :=
  if remaining ≤ brakingDistance v startSpeed decel ∨ phase = some .rampDown ∧ v ≤ startSpeed then
    (fallTo v decel startSpeed, .rampDown)
  else if v < peak then (riseTo v accel peak, .rampUp)
  else (v, .cruise)

/-- Speed and phase at a ramp timer expiry of a VELOCITY move without a distance limit (R96): CRUISE at the peak. -/
def velocitySpeed (v peak accel : Nat) : Nat × Phase :=
  let v' := riseTo v accel peak
  (v', if v' < peak then .rampUp else .cruise)

/-- The phase in which a move starts (R94, R96). -/
def startPhase (startSpeed peak : Nat) : Phase := if startSpeed < peak then .rampUp else .cruise

/-- The floor of a move in STOPPING (R102): its start speed, the creep speed of a HOME move. -/
def MoveKind.floor : MoveKind → Nat
  | .position _ _ s _ _ _ => s
  | .velocity _ s _ _ _ _ => s
  | .home f => f.creepSpeed
  | .follow _ _ _ _ => 0
  | .dwell _ => 0

/-- The distance limit of a move (R87): the steps that a VELOCITY or FOLLOW move may issue. -/
def MoveKind.limit : MoveKind → Option Nat
  | .velocity _ _ _ _ _ limit => limit
  | .follow _ _ _ limit => limit
  | .position _ _ _ _ _ _ => none
  | .dwell _ => none
  | .home _ => none

/-- The signed distance of a POSITION move (R94). -/
def positionDistance (mode : TargetMode) (target counter : Int) : Int :=
  match mode with
  | .relative => target
  | .absolute => target - counter

/-- The direction of a distance (R94). -/
def distanceDir (d : Int) : StepDir := if 0 < d then .up else .down

/-- What one source count event makes of a FOLLOW accumulator (R98): the accumulator reduced into 0 to
denominator-1, the number of due steps and their direction. Taking the denominator off while the sum is at or
above it, or adding it while the sum is below 0, is division with remainder. -/
def followReduce (accumulator : Nat) (num : Int) (den : Nat) (d : AxisDir) : Nat × Nat × StepDir :=
  let sum := (accumulator : Int) + d.count * num
  let due := Int.ediv sum den
  ((Int.emod sum den).toNat, due.natAbs, if 0 ≤ due then .up else .down)

/-- The direction of a backlog by its count: that of its steps, and UP, which is sent as 0, where it is empty (R99, R188;
log 17). -/
def backlogDirection (count : Nat) (dir : StepDir) : StepDir := if count = 0 then .up else dir

/-- One due step joining a backlog (R99): none where the count would become 65. -/
def joinBacklog (dir : StepDir) (b : Nat × StepDir) : Option (Nat × StepDir) :=
  if b.1 = 0 ∨ b.2 = dir then (if b.1 + 1 ≤ Config.backlogPlaces then some (b.1 + 1, dir) else none)
  else some (b.1 - 1, backlogDirection (b.1 - 1) b.2)

/-- Due steps joining a backlog one after another (R98, R99). -/
def joinMany (dir : StepDir) : Nat → Nat × StepDir → Option (Nat × StepDir)
  | 0, b => some b
  | n + 1, b =>
    match joinBacklog dir b with
    | some b' => joinMany dir n b'
    | none => none

/-- A search record as MOVE_ENDED reports it for a HOME move that never started (R124). -/
def SearchRecord.unstarted (f : HomeFields) : SearchRecord :=
  { phase := .seek, motion := f.direction, found := false, markers := 0, steps := 0, mark := none }

/-! ### Notices and the link -/

/-- Whether a number has been posted since the session opened (R165). -/
def NoticeQueue.posted (q : NoticeQueue) (n : Nat) : Bool := q.wrapped || (decide (1 ≤ n) && decide (n < q.next))

/-- The notices of a queue that are SENT (R163). -/
def NoticeQueue.sentCount (q : NoticeQueue) : Nat := (q.items.filter fun n => n.sentAt.isSome).length

/-- The count at which the resend timer runs out (R171): 250 ms after the send time of the oldest SENT notice. -/
def NoticeQueue.resendDue (q : NoticeQueue) : Option Word :=
  (q.items.findSome? fun n => n.sentAt).map fun t => t + BitVec.ofNat 32 Config.resendPeriod

/-- Whether the device millisecond count has reached a due count, by their difference modulo 2^32 (R162). -/
def reached (now due : Word) : Bool := decide ((now - due).toNat < 2147483648)

/-- One bit of the CRC register (R176: polynomial 0x1021, most significant bit first). -/
def crcBit (c : Half) : Half := if c.msb then (c <<< 1) ^^^ 0x1021 else c <<< 1

/-- One byte entering the CRC (R176). -/
def crcByte (c : Half) (b : Byte) : Half :=
  crcBit (crcBit (crcBit (crcBit (crcBit (crcBit (crcBit (crcBit (c ^^^ (b ++ (0 : Byte))))))))))

/-- The CRC of a string of bytes (R176: initial value 0xFFFF). -/
def crc16 (bytes : List Byte) : Half := bytes.foldl crcByte 0xFFFF

end Sys2Proof.Machine
end

