-- ==== Sys2Proof/Machine/Operands.lean ====
section
/-! DEFINITION. Reading the parameters of a request: each function answers none where the value is one that the
owning rule refuses BAD_VALUE (R186). -/

namespace Sys2Proof.Machine

/-- An output id (Table 12.3). -/
def outputOf (b : Byte) : Option OutputId := if h : b.toNat < 16 then some ⟨b.toNat, h⟩ else none

/-- A generator id (Table 12.3). -/
def genOf (b : Byte) : Option GenId :=
  match b.toNat with
  | 0x10 => some .g1
  | 0x11 => some .g2
  | 0x12 => some .gv
  | _ => none

/-- An axis id (Table 12.3). -/
def axisOf (b : Byte) : Option AxisId :=
  match b.toNat with
  | 0x18 => some .a
  | 0x19 => some .b
  | 0x1A => some .v
  | _ => none

/-- A resource id (Table 12.3). -/
def resourceOf (b : Byte) : Option Resource :=
  match outputOf b, genOf b, axisOf b with
  | some o, _, _ => some (.output o)
  | none, some g, _ => some (.generator g)
  | none, none, some x => some (.axis x)
  | none, none, none => none

/-- A wait flag (Table 12.5). -/
def flagOf (b : Byte) : Option Bool :=
  match b.toNat with
  | 0 => some false
  | 1 => some true
  | _ => none

/-- A slot number (R26). -/
def slotOf (b : Byte) : Option (Fin 48) := if h : b.toNat < 48 then some ⟨b.toNat, h⟩ else none

/-- Table 12.5. -/
def axisModeOf (b : Byte) : Option AxisMode :=
  match b.toNat with
  | 0 => some .linear
  | 1 => some .rotary
  | _ => none

/-- Table 12.5. -/
def senseOf (b : Byte) : Option Sense :=
  match b.toNat with
  | 0 => some .normal
  | 1 => some .inverted
  | _ => none

/-- Table 12.5; COMPARE is no source of an arming (R12). -/
def armSourceOf (b : Byte) : Option CaptureSource :=
  match b.toNat with
  | 0 => some .marker
  | 1 => some (.ref .ref0)
  | 2 => some (.ref .ref1)
  | 3 => some (.ref .ref2)
  | 4 => some (.ref .ref3)
  | _ => none

/-- Table 12.5. -/
def edgeOf (b : Byte) : Option CaptureEdge :=
  match b.toNat with
  | 0 => some .rising
  | 1 => some .falling
  | 2 => some .both
  | _ => none

/-- Table 12.5. -/
def qualifierOf (b : Byte) : Option Qualifier :=
  match b.toNat with
  | 0 => some .forward
  | 1 => some .reverse
  | 2 => some .either
  | _ => none

/-- Table 12.5. -/
def timingOf (b : Byte) : Option CommitTiming :=
  match b.toNat with
  | 0 => some .now
  | 1 => some .atRollover
  | _ => none

/-- Table 12.5. -/
def crossingOf (b : Byte) : Option Crossing :=
  match b.toNat with
  | 0 => some .up
  | 1 => some .down
  | 2 => some .either
  | _ => none

/-- Table 12.5. -/
def outputModeOf (b : Byte) : Option OutputMode :=
  match b.toNat with
  | 0 => some .manual
  | 1 => some .cam
  | _ => none

/-- Table 12.5. -/
def levelOf (b : Byte) : Option Level :=
  match b.toNat with
  | 0 => some .low
  | 1 => some .high
  | _ => none

/-- Table 12.5. -/
def stepDirOf (b : Byte) : Option StepDir :=
  match b.toNat with
  | 0 => some .up
  | 1 => some .down
  | _ => none

/-- Table 12.5. -/
def targetModeOf (b : Byte) : Option TargetMode :=
  match b.toNat with
  | 0 => some .absolute
  | 1 => some .relative
  | _ => none

/-- Table 12.5. -/
def startConditionOf (b : Byte) : Option StartCondition :=
  match b.toNat with
  | 0 => some .immediate
  | 1 => some .onTrigger
  | _ => none

/-- Table 12.4, offset 25. -/
def refLineOf (b : Byte) : Option RefLine :=
  match b.toNat with
  | 0 => some .ref0
  | 1 => some .ref1
  | 2 => some .ref2
  | 3 => some .ref3
  | _ => none

/-- The marker axis of a HOME record (R114): absent (0xFF), A or B. -/
def markerAxisOf (b : Byte) : Option (Option Encoder) :=
  match b.toNat with
  | 0xFF => some none
  | 0x18 => some (some .ea)
  | 0x19 => some (some .eb)
  | _ => none

/-- The subscriptions of a byte (R187): none where a bit outside the four kinds is set. -/
def subscriptionsOf (b : Byte) : Option Subscriptions :=
  if b &&& 0xF0 = 0 then
    some
      { sessionEnded := b.getLsbD 0, haltChanged := b.getLsbD 1, axisOverrange := b.getLsbD 2, claimFreed := b.getLsbD 3 }
  else none

/-- A station (R151). -/
def stationOf (b : Byte) : Option Nat := if 1 ≤ b.toNat ∧ b.toNat ≤ 15 then some b.toNat else none

/-- A lease period (R151). -/
def leaseOf (h : Half) : Option Nat :=
  if 50 ≤ h.toNat ∧ h.toNat ≤ 5000 ∧ h.toNat % 10 = 0 then some h.toNat else none

/-- A pulse width (R50, R74). -/
def widthOf (h : Half) : Option Nat := if 1 ≤ h.toNat ∧ h.toNat ≤ 10000 then some h.toNat else none

/-- A cycle length (R17). -/
def cycleOf (w : Word) : Option Nat := if 16 ≤ w.toNat ∧ w.toNat ≤ 1048576 then some w.toNat else none

/-- A gate time (R17). -/
def gateOf (h : Half) : Option Nat := if 1 ≤ h.toNat ∧ h.toNat ≤ 1000 then some h.toNat else none

/-- A rate in steps/s per ms (R88, R107): 1 to 65,535. -/
def rateOf (h : Half) : Option Nat := if 1 ≤ h.toNat then some h.toNat else none

/-- A max rate (R107). -/
def maxRateOf (w : Word) : Option Nat := if 2 ≤ w.toNat ∧ w.toNat ≤ 250000 then some w.toNat else none

/-- A speed up to a ceiling (R88, R114). -/
def speedOf (ceiling : Nat) (w : Word) : Option Nat := if 2 ≤ w.toNat ∧ w.toNat ≤ ceiling then some w.toNat else none

/-- A position, distance or home value of a generator (R87, R107, R114). -/
def countOf (w : Word) : Option Int := if inCountRange w.toInt then some w.toInt else none

/-- An optional distance limit (R87, R186): 0 is absent. -/
def limitOf (w : Word) : Option (Option Nat) :=
  if w.toNat = 0 then some none else if w.toNat ≤ 2000000000 then some (some w.toNat) else none

/-- The values of a window, valid on an axis (R24). -/
def windowOf (a : Axis) (raw : RawWindow) : Option WindowCopy :=
  match qualifierOf raw.qualifier with
  | none => none
  | some q =>
    let w : WindowCopy := { on := raw.on.toInt, off := raw.off.toInt, qualifier := q, lead := raw.lead.toNat }
    if w.validOn a then some w else none

/-- The action of a compare entry with its argument (R50, R187): the argument is read for the output and
generator actions only, the width for OUT_PULSE only. -/
def compareActionOf (action argument : Byte) (width : Half) : Option CompareAction :=
  match action.toNat with
  | 0 => some .notify
  | 1 => (outputOf argument).map .outHigh
  | 2 => (outputOf argument).map .outLow
  | 3 =>
    match outputOf argument, widthOf width with
    | some o, some w => some (.outPulse o w)
    | _, _ => none
  | 4 => (outputOf argument).map .outClear
  | 5 => (genOf argument).map .triggerGen
  | 6 => some .capture
  | _ => none

/-- The repeat of a compare entry (R50, R187): remaining 0 is no repeat, and the step is then not read. -/
def compareRepeatOf (step : Word) (remaining : Half) : Option (Option CompareRepeat) :=
  if remaining.toNat = 0 then some none
  else if step.toInt = 0 ∨ step.toInt < -Config.speedBound then none
  else some (some { step := step.toInt, remaining := remaining.toNat })

/-- The target of a compare entry on an axis, as its extended position (R50). -/
def compareTargetOf (a : Axis) (turn : Half) (position : Word) : Option Int :=
  if a.validPlace turn.toInt position.toInt then some (a.extendedOf turn.toInt position.toInt) else none

/-- The speeds and rates of a POSITION or VELOCITY record (R88): start, peak, accel, decel. -/
def profileOf (maxRate : Nat) (raw : RawMove) : Option (Nat × Nat × Nat × Nat) :=
  match speedOf maxRate raw.at9, speedOf maxRate raw.at13, rateOf raw.at17, rateOf raw.at19 with
  | some s, some peak, some accel, some decel => if s ≤ peak then some (s, peak, accel, decel) else none
  | _, _, _, _ => none

/-- A POSITION record (R87). -/
def positionKindOf (maxRate : Nat) (raw : RawMove) : Option MoveKind :=
  match targetModeOf raw.at4, countOf raw.at5, profileOf maxRate raw with
  | some mode, some target, some (s, peak, accel, decel) => some (.position mode target s peak accel decel)
  | _, _, _ => none

/-- A VELOCITY record (R87). -/
def velocityKindOf (maxRate : Nat) (raw : RawMove) : Option MoveKind :=
  match stepDirOf raw.at4, profileOf maxRate raw, limitOf raw.at21 with
  | some dir, some (s, peak, accel, decel), some limit => some (.velocity dir s peak accel decel limit)
  | _, _, _ => none

/-- A FOLLOW record (R87, R88): the numerator stands at offset 5, the denominator at offset 7 (Table 12.4); GV does
not follow V. -/
def followKindOf (g : GenId) (raw : RawMove) : Option MoveKind :=
  let num := (raw.at5.extractLsb' 16 16).toInt
  let den := (raw.at5.extractLsb' 0 16).toNat
  match axisOf raw.at4, limitOf raw.at21 with
  | some source, some limit =>
    if num ≠ 0 ∧ -32767 ≤ num ∧ 1 ≤ den ∧ den ≤ 32767 ∧ ¬(g = .gv ∧ source = .v) then some (.follow source num den limit)
    else none
  | _, _ => none

/-- A DWELL record (R87): its duration stands at offset 5 (Table 12.4). -/
def dwellKindOf (raw : RawMove) : Option MoveKind :=
  let ms := (raw.at5.extractLsb' 16 16).toNat
  if 1 ≤ ms ∧ ms ≤ 60000 then some (.dwell ms) else none

/-- A HOME record (R113, R114). -/
def homeKindOf (maxRate : Nat) (raw : RawMove) : Option MoveKind :=
  match stepDirOf raw.at4, countOf raw.at5, speedOf maxRate raw.at13, rateOf raw.at17, rateOf raw.at19,
    refLineOf raw.at25, markerAxisOf raw.at26 with
  | some dir, some home, some search, some accel, some decel, some line, some marker =>
    match speedOf search raw.at9 with
    | none => none
    | some creep =>
      if raw.at27.toNat ≤ 15 ∧ (1 ≤ raw.at27.toNat → marker.isSome = true) ∧ 1 ≤ raw.at21.toNat ∧
          raw.at21.toNat ≤ 2000000000 then
        some
          (.home
            { direction := dir, searchSpeed := search, creepSpeed := creep, accel := accel, decel := decel, line := line,
              markerAxis := marker, markerCount := raw.at27.toNat, limit := raw.at21.toNat, home := home })
      else none
  | _, _, _, _, _, _, _ => none

/-- The kind of a record by its number (Table 12.5). -/
def moveKindOf (g : GenId) (maxRate : Nat) (raw : RawMove) : Option MoveKind :=
  match raw.kind.toNat with
  | 0 => positionKindOf maxRate raw
  | 1 => velocityKindOf maxRate raw
  | 2 => followKindOf g raw
  | 3 => dwellKindOf raw
  | 4 => homeKindOf maxRate raw
  | _ => none

/-- A valid move record for a generator with this max rate (R88, R114). -/
def moveOf (g : GenId) (maxRate : Nat) (raw : RawMove) : Option MoveRecord :=
  match startConditionOf raw.start, moveKindOf g maxRate raw with
  | some start, some kind => some { tag := raw.tag, start := start, kind := kind }
  | _, _ => none

end Sys2Proof.Machine
end

