-- ==== Sys2Proof/Machine/Layouts.lean ====
section
/-! DEFINITION. The byte layouts the part sends (chapter 12, R176): enumerated numbers, resource ids, move
records, notice bodies and whole frames. -/

namespace Sys2Proof

/-- The id of a generator (Table 12.3). -/
def GenId.code : GenId → Byte
  | .g1 => 0x10
  | .g2 => 0x11
  | .gv => 0x12

/-- The id of an axis (Table 12.3). -/
def AxisId.code : AxisId → Byte
  | .a => 0x18
  | .b => 0x19
  | .v => 0x1A

/-- The number of a port in SESSION_ENDED (Table 12.7). -/
def PortId.code : PortId → Byte
  | .p1 => 1
  | .p2 => 2
  | .p3 => 3

/-- Table 12.4, offset 25. -/
def RefLine.code : RefLine → Byte
  | .ref0 => 0
  | .ref1 => 1
  | .ref2 => 2
  | .ref3 => 3

end Sys2Proof

namespace Sys2Proof.Machine

/-- `n` bytes of a number, high byte first; a negative number in two's complement (R186). -/
def bytesOf : Nat → Int → List Byte
  | 0, _ => []
  | n + 1, i => BitVec.ofInt 8 (Int.fdiv i (256 ^ n)) :: bytesOf n i

/-- A flag byte (R188). -/
def flagBytes (b : Bool) : List Byte := [if b then 1 else 0]

/-! ### Numbers of Tables 12.2, 12.3 and 12.5 -/

/-- Status codes (Table 12.2). -/
def Status.code : Status → Byte
  | .done => 0x00
  | .queued => 0x01
  | .unknownRequest => 0x10
  | .badLength => 0x11
  | .noSession => 0x12
  | .sessionActive => 0x13
  | .stationInUse => 0x14
  | .notOwner => 0x20
  | .heldElsewhere => 0x21
  | .badValue => 0x22
  | .busy => 0x23
  | .halted => 0x24
  | .overrange => 0x25
  | .tableFull => 0x30
  | .queueFull => 0x31
  | .notFound => 0x32

/-- The id of a resource (Table 12.3). -/
def Resource.code : Resource → Byte
  | .output o => BitVec.ofNat 8 o.val
  | .generator g => g.code
  | .axis x => x.code

/-- Table 12.5. -/
def AxisMode.code : AxisMode → Byte
  | .linear => 0
  | .rotary => 1

/-- Table 12.5. -/
def Sense.code : Sense → Byte
  | .normal => 0
  | .inverted => 1

/-- Table 12.5. -/
def AxisDir.code : AxisDir → Byte
  | .forward => 0
  | .reverse => 1

/-- Table 12.5. -/
def AxisStatus.code : AxisStatus → Byte
  | .counting => 0
  | .overrange => 1

/-- Table 12.5. -/
def CaptureSource.code : CaptureSource → Byte
  | .marker => 0
  | .ref .ref0 => 1
  | .ref .ref1 => 2
  | .ref .ref2 => 3
  | .ref .ref3 => 4
  | .compare => 5

/-- Table 12.5. -/
def Qualifier.code : Qualifier → Byte
  | .forward => 0
  | .reverse => 1
  | .either => 2

/-- Table 12.5. -/
def SlotStatus.code : SlotStatus → Byte
  | .free => 0
  | .staged => 1
  | .live => 2
  | .liveEdited => 3
  | .retiring => 4

/-- Table 12.5. -/
def CommitTiming.code : CommitTiming → Byte
  | .now => 0
  | .atRollover => 1

/-- Table 12.5. -/
def Crossing.code : Crossing → Byte
  | .up => 0
  | .down => 1
  | .either => 2

/-- Table 12.5. -/
def CompareAction.code : CompareAction → Byte
  | .notify => 0
  | .outHigh _ => 1
  | .outLow _ => 2
  | .outPulse _ _ => 3
  | .outClear _ => 4
  | .triggerGen _ => 5
  | .capture => 6

/-- Table 12.5. -/
def CompareResult.code : CompareResult → Byte
  | .done => 0
  | .skippedNotOwner => 1
  | .logFull => 2

/-- Table 12.5. -/
def Disposition.code : Disposition → Byte
  | .removed => 0
  | .reArmed => 1
  | .repeatEnded => 2
  | .rangeEnded => 3

/-- Table 12.5. -/
def OutputMode.code : OutputMode → Byte
  | .manual => 0
  | .cam => 1

/-- Table 12.5. -/
def Level.code : Level → Byte
  | .low => 0
  | .high => 1

/-- Table 12.5. -/
def Overlay.code : Overlay → Byte
  | .none => 0
  | .high => 1
  | .low => 2

/-- Table 12.5. -/
def GenState.code : GenState → Byte
  | .idle => 0
  | .armed => 1
  | .running => 2
  | .following => 3
  | .dwelling => 4
  | .searching => 5
  | .stopping => 6
  | .halted => 7

/-- Table 12.5. -/
def Phase.code : Phase → Byte
  | .rampUp => 0
  | .cruise => 1
  | .rampDown => 2

/-- Table 12.5: stop rate in force, 0 for absent. -/
def StopRate.code : StopRate → Byte
  | .stop => 1
  | .halt => 2

/-- Table 12.5. -/
def MoveKind.code : MoveKind → Byte
  | .position _ _ _ _ _ _ => 0
  | .velocity _ _ _ _ _ _ => 1
  | .follow _ _ _ _ => 2
  | .dwell _ => 3
  | .home _ => 4

/-- Table 12.5. -/
def StartCondition.code : StartCondition → Byte
  | .immediate => 0
  | .onTrigger => 1

/-- Table 12.5. -/
def TargetMode.code : TargetMode → Byte
  | .absolute => 0
  | .relative => 1

/-- Table 12.5. -/
def StepDir.code : StepDir → Byte
  | .up => 0
  | .down => 1

/-- Table 12.5. -/
def EndCause.code : EndCause → Byte
  | .complete => 0
  | .stopped => 1
  | .halted => 2
  | .endedByNext => 3
  | .followOverspeed => 4
  | .notFound => 5
  | .outOfRange => 6

/-- Table 12.5. -/
def SearchPhase.code : SearchPhase → Byte
  | .clearing => 0
  | .seek => 1
  | .creep => 2
  | .final => 3

/-- Table 12.5: not-found mark, 0 for absent. -/
def NotFound.code : NotFound → Byte
  | .limit => 1
  | .overrun => 2

/-- Table 12.5. -/
def TriggerSource.code : TriggerSource → Byte
  | .request => 0
  | .compare => 1

/-- Table 12.5. -/
def ClaimState.code : ClaimState → Byte
  | .free => 0
  | .held => 1
  | .releasing => 2

/-- Table 12.5. -/
def ClaimCause.code : ClaimCause → Byte
  | .released => 0
  | .sessionEnded => 1

/-- Table 12.5. -/
def HaltState.code : HaltState → Byte
  | .clear => 0
  | .active => 1
  | .latched => 2

/-- Table 12.5. -/
def HaltCause.code : HaltCause → Byte
  | .lineAsserted => 0
  | .lineReleased => 1
  | .cleared => 2

/-- Table 12.5. -/
def SessionCause.code : SessionCause → Byte
  | .closed => 0
  | .lapsed => 1
  | .brk => 2

/-! ### Records -/

/-- A window copy, or eleven zero bytes where it is absent (Table 12.6, R188). -/
def windowBytes : Option WindowCopy → List Byte
  | none => bytesOf 11 0
  | some w => bytesOf 4 w.on ++ bytesOf 4 w.off ++ [w.qualifier.code] ++ bytesOf 2 w.lead

/-- A limit or width, 0 where absent (R186). -/
def optBytes (n : Nat) : Option Nat → List Byte
  | none => bytesOf n 0
  | some v => bytesOf n v

/-- A marker axis, 0xFF where absent (R186, Table 12.4). -/
def markerByte : Option Encoder → Byte
  | none => 0xFF
  | some .ea => AxisId.code .a
  | some .eb => AxisId.code .b

/-- The bytes 4 to 27 of a move record by its kind (Table 12.4); unassigned bytes are 0 (log 17). -/
def MoveKind.bytes : MoveKind → List Byte
  | .position mode target s peak accel decel =>
    [mode.code] ++ bytesOf 4 target ++ bytesOf 4 s ++ bytesOf 4 peak ++ bytesOf 2 accel ++ bytesOf 2 decel ++ bytesOf 7 0
  | .velocity dir s peak accel decel limit =>
    [dir.code] ++ bytesOf 4 0 ++ bytesOf 4 s ++ bytesOf 4 peak ++ bytesOf 2 accel ++ bytesOf 2 decel ++ optBytes 4 limit ++
      bytesOf 3 0
  | .follow source num den limit =>
    [source.code] ++ bytesOf 2 num ++ bytesOf 2 den ++ bytesOf 12 0 ++ optBytes 4 limit ++ bytesOf 3 0
  | .dwell ms => bytesOf 1 0 ++ bytesOf 2 ms ++ bytesOf 21 0
  | .home f =>
    [f.direction.code] ++ bytesOf 4 f.home ++ bytesOf 4 f.creepSpeed ++ bytesOf 4 f.searchSpeed ++ bytesOf 2 f.accel ++
      bytesOf 2 f.decel ++ bytesOf 4 f.limit ++ [f.line.code, markerByte f.markerAxis] ++ bytesOf 1 f.markerCount

/-- A move record, 28 bytes (Table 12.4); zeros where there is none (R188). -/
def moveBytes : Option MoveRecord → List Byte
  | none => bytesOf 28 0
  | some r => bytesOf 2 r.tag.toNat ++ [r.kind.code, r.start.code] ++ r.kind.bytes

/-- The search fields of MOVE_ENDED (Table 12.7); zeros for a move that is not HOME (R188). -/
def searchEndBytes : Option SearchRecord → List Byte
  | none => bytesOf 7 0
  | some r => [r.phase.code] ++ bytesOf 4 r.steps ++ bytesOf 1 r.markers ++ [(r.mark.map NotFound.code).getD 0]

/-- The kind and kind fields of a notice (Table 12.7). -/
def NoticeKind.kindAndFields : NoticeKind → Byte × List Byte
  | .compareFired id tag axis position direction action result disposition newTurn newPosition remaining =>
    (0x01, bytesOf 1 id ++ bytesOf 2 tag.toNat ++ [axis.code] ++ bytesOf 5 position ++
      [direction.code, action.code, result.code, disposition.code] ++ bytesOf 2 newTurn ++ bytesOf 4 newPosition ++
      bytesOf 2 remaining)
  | .compareWithdrawn id tag axis turn position =>
    (0x02, bytesOf 1 id ++ bytesOf 2 tag.toNat ++ [axis.code] ++ bytesOf 2 turn ++ bytesOf 4 position ++
      [ClaimCause.code .released])
  | .commitDone axis timing changed position => (0x03, [axis.code, timing.code] ++ bytesOf 1 changed ++ bytesOf 5 position)
  | .moveStarted gen tag kind counter byTrigger phase =>
    (0x04, [gen.code] ++ bytesOf 2 tag.toNat ++ [kind.code] ++ bytesOf 4 counter ++ flagBytes byTrigger ++
      [(phase.map SearchPhase.code).getD 0])
  | .moveEnded gen tag kind cause counter started search =>
    (0x05, [gen.code] ++ bytesOf 2 tag.toNat ++ [kind.code, cause.code] ++ bytesOf 4 counter ++ flagBytes started ++
      searchEndBytes search)
  | .queueFlushed gen count => (0x06, [gen.code] ++ bytesOf 1 count)
  | .triggerLost gen source state => (0x07, [gen.code, source.code, state.code])
  | .captureDone axis source count => (0x08, [axis.code, source.code] ++ bytesOf 1 count)
  | .captureLost axis source => (0x09, [axis.code, source.code])
  | .claimGranted resource station cause => (0x0A, [resource.code] ++ bytesOf 1 station ++ [cause.code])
  | .claimFreed resource station cause => (0x0B, [resource.code] ++ bytesOf 1 station ++ [cause.code])
  | .axisOverrange axis position direction => (0x0C, [axis.code] ++ bytesOf 5 position ++ [direction.code])
  | .sessionEnded station port cause => (0x0D, bytesOf 1 station ++ [port.code, cause.code])
  | .haltChanged new old cause station => (0x0E, [new.code, old.code, cause.code] ++ bytesOf 1 station)

/-- The body of a notice frame (R188): the nine-byte header, then the kind fields. -/
def Notice.bytes (n : Notice) : List Byte :=
  let (kind, fields) := n.kind.kindAndFields
  bytesOf 2 n.number ++ [kind] ++ bytesOf 2 n.lostBefore ++ bytesOf 4 n.time.toNat ++ fields

/-- A frame (R176, Table 11.2): SYNC, TYPE, SEQ, LEN, BODY, CRC. -/
def frameBytes (type seq : Byte) (body : List Byte) : List Byte :=
  let covered := [type, seq, BitVec.ofNat 8 body.length] ++ body
  [0xC7] ++ covered ++ bytesOf 2 (crc16 covered).toNat

/-- The level of a data bit on a serial line: 1 is mark, 0 is space (log 23). -/
def bitLevel (bit : Bool) : SerialLevel := if bit then .mark else .space

/-- A character on a serial line, one level for each of its ten bit times (R175): a start bit at space, the data bits
least significant first, no parity bit, a stop bit at mark. -/
def characterLevels (b : Byte) : List SerialLevel :=
  [.space] ++ (List.finRange 8).map (fun i => bitLevel b[i]) ++ [.mark]

/-- The byte that data bits spell, least significant first. -/
def byteOfLevels : List SerialLevel → Byte
  | [] => 0
  | l :: rest => (byteOfLevels rest <<< 1) ||| (if l = .mark then 1 else 0)

/-- The byte of a received character (R175): none where its stop bit is found at space. -/
def characterByte (levels : List SerialLevel) : Option Byte :=
  if levels.length = 10 ∧ levels.head? = some .space ∧ levels.getLast? = some .mark then
    some (byteOfLevels (levels.tail.take 8))
  else none

/-- What the transmitter puts on its line for a frame (R175): its characters back to back. DESIGN CHOICE (log 25): R175 allows
up to one character time of idle line between two bytes of a frame, and none stands here; unsafe for a claim about the bit
time at which a byte after the first stands on the line. -/
def TxFrame.levels (f : TxFrame) : List SerialLevel := f.bytes.flatMap characterLevels

/-- The level of a port's transmit line (R175, R185): that of a bit time of the frame in transmission, counted from its
start without idle time between its bytes (log 25), and mark where the frame has ended or nothing is in transmission. -/
def Port.transmitLevel (q : Port) (bitTime : Nat) : SerialLevel :=
  match q.tx with
  | none => .mark
  | some f => (f.levels[bitTime]?).getD .mark

/-- TYPE of a response frame (Table 11.2). -/
def typeResponse : Byte := 0x52

/-- TYPE of a notice frame (Table 11.2). -/
def typeNotice : Byte := 0x53

/-- TYPE of a request frame (Table 11.2). -/
def typeRequest : Byte := 0x51

/-- The response frame of a response (R176). -/
def Response.frame (r : Response) : TxFrame :=
  { kind := .response r.closes, bytes := frameBytes typeResponse r.seq r.body }

/-- The frame of a notice: its SEQ is 0 (R176, R188). -/
def Notice.frame (n : Notice) : TxFrame := { kind := .notice n.number, bytes := frameBytes typeNotice 0 n.bytes }

end Sys2Proof.Machine
end

