-- ==== Sys2Proof/Machine/Ops.lean ====
section
/-! DEFINITION. The named operations over the state that the blocks share: access to the records, the free order
of independent parts, posting notices, and the transmitter. -/

namespace Sys2Proof

/-- The thing of a port. -/
def PerPort.get {α : Type} (t : PerPort α) : PortId → α
  | .p1 => t.p1
  | .p2 => t.p2
  | .p3 => t.p3

/-- The things with that of one port replaced. -/
def PerPort.set {α : Type} (t : PerPort α) (i : PortId) (x : α) : PerPort α :=
  match i with
  | .p1 => { t with p1 := x }
  | .p2 => { t with p2 := x }
  | .p3 => { t with p3 := x }

/-- The thing of an axis. -/
def PerAxis.get {α : Type} (t : PerAxis α) : AxisId → α
  | .a => t.a
  | .b => t.b
  | .v => t.v

/-- The things with that of one axis replaced. -/
def PerAxis.set {α : Type} (t : PerAxis α) (i : AxisId) (x : α) : PerAxis α :=
  match i with
  | .a => { t with a := x }
  | .b => { t with b := x }
  | .v => { t with v := x }

/-- The thing of a generator. -/
def PerGen.get {α : Type} (t : PerGen α) : GenId → α
  | .g1 => t.g1
  | .g2 => t.g2
  | .gv => t.gv

/-- The things with that of one generator replaced. -/
def PerGen.set {α : Type} (t : PerGen α) (i : GenId) (x : α) : PerGen α :=
  match i with
  | .g1 => { t with g1 := x }
  | .g2 => { t with g2 := x }
  | .gv => { t with gv := x }

/-- The ports in order. -/
def allPorts : List PortId := [.p1, .p2, .p3]

/-- The axes in order. -/
def allAxes : List AxisId := [.a, .b, .v]

/-- The generators in order. -/
def allGens : List GenId := [.g1, .g2, .gv]

/-- The axis an encoder counts for (R1). -/
def Encoder.axis : Encoder → AxisId
  | .ea => .a
  | .eb => .b

/-- The level of a reference line (R123); `true` is high. -/
def InputLines.ref (l : InputLines) : RefLine → Bool
  | .ref0 => l.ref0
  | .ref1 => l.ref1
  | .ref2 => l.ref2
  | .ref3 => l.ref3

/-- The lines with a reference line at a level. -/
def InputLines.setRef (l : InputLines) (r : RefLine) (high : Bool) : InputLines :=
  match r with
  | .ref0 => { l with ref0 := high }
  | .ref1 => { l with ref1 := high }
  | .ref2 => { l with ref2 := high }
  | .ref3 => { l with ref3 := high }

/-- The two lines of an encoder. -/
def InputLines.pair (l : InputLines) : Encoder → EncoderLines
  | .ea => l.ea
  | .eb => l.eb

/-- The lines with an encoder's pair at new levels. -/
def InputLines.setPair (l : InputLines) (e : Encoder) (x : EncoderLines) : InputLines :=
  match e with
  | .ea => { l with ea := x }
  | .eb => { l with eb := x }

/-- The level of an encoder's marker; `true` is active. -/
def InputLines.marker (l : InputLines) : Encoder → Bool
  | .ea => l.mka
  | .eb => l.mkb

/-- The lines with a marker at a level. -/
def InputLines.setMarker (l : InputLines) (e : Encoder) (active : Bool) : InputLines :=
  match e with
  | .ea => { l with mka := active }
  | .eb => { l with mkb := active }

end Sys2Proof

namespace Sys2Proof.Machine

/-! ### Access to the records -/

/-- Every element of a vector changed by a function. -/
def mapVector {α : Type} {n : Nat} (f : α → α) (v : Vector α n) : Vector α n := ⟨⟨v.toList.map f⟩, by simp⟩

/-- A vector by its elements. -/
def vectorOf {α : Type} {n : Nat} (f : Fin n → α) : Vector α n := ⟨⟨(List.finRange n).map f⟩, by simp⟩

/-- The record of a port. -/
def State.port (s : State) (p : PortId) : Port := s.ports.get p

/-- The state with a port's record changed. -/
def State.modPort (s : State) (p : PortId) (f : Port → Port) : State := { s with ports := s.ports.set p (f (s.port p)) }

/-- The session record of a port (R147). -/
def State.session (s : State) (p : PortId) : Session := (s.port p).session

/-- The state with a session record changed. -/
def State.modSession (s : State) (p : PortId) (f : Session → Session) : State :=
  s.modPort p fun q => { q with session := f q.session }

/-- The record of an axis (R1). -/
def State.axis (s : State) (x : AxisId) : Axis := s.axes.get x

/-- The state with an axis record changed. -/
def State.modAxis (s : State) (x : AxisId) (f : Axis → Axis) : State := { s with axes := s.axes.set x (f (s.axis x)) }

/-- The record of a generator (R83). -/
def State.gen (s : State) (g : GenId) : Generator := s.gens.get g

/-- The state with a generator record changed. -/
def State.modGen (s : State) (g : GenId) (f : Generator → Generator) : State :=
  { s with gens := s.gens.set g (f (s.gen g)) }

/-- The record of a channel (R68). -/
def State.channel (s : State) (o : OutputId) : Channel := s.channels[o]

/-- The claim record of a resource (R133). -/
def ClaimTable.get (t : ClaimTable) : Resource → Claim
  | .output o => t.outputs[o]
  | .generator g => t.gens.get g
  | .axis x => t.axes.get x

/-- The claim records with one replaced. -/
def ClaimTable.set (t : ClaimTable) (r : Resource) (c : Claim) : ClaimTable :=
  match r with
  | .output o => { t with outputs := t.outputs.set o c }
  | .generator g => { t with gens := t.gens.set g c }
  | .axis x => { t with axes := t.axes.set x c }

/-- The claim record of a resource. -/
def State.claim (s : State) (r : Resource) : Claim := s.claims.get r

/-- The state with a claim record replaced. -/
def State.setClaim (s : State) (r : Resource) (c : Claim) : State := { s with claims := s.claims.set r c }

/-- The session that holds a resource (R134): the owner of a record in HELD. -/
def State.holder (s : State) (r : Resource) : Option PortId :=
  match (s.claim r).state with
  | .held => (s.claim r).owner
  | .free => none
  | .releasing => none

/-- Whether a session holds a resource (R134). -/
def State.holds (s : State) (p : PortId) (r : Resource) : Bool := decide (s.holder r = some p)

/-- The station of a port's session, 0 where there is none (R147). -/
def State.station (s : State) (p : PortId) : Nat := (s.session p).station

/-- The station of the holder of a resource, or 0 (R45, R80). -/
def State.holderStation (s : State) (r : Resource) : Nat :=
  match s.holder r with
  | some p => s.station p
  | none => 0

/-- The 22 resources in the order of their ids (R133, Table 12.3). -/
def allResources : List Resource :=
  ((List.finRange 16).map Resource.output) ++ (allGens.map Resource.generator) ++ (allAxes.map Resource.axis)

/-! ### The order of independent parts (log 5) -/

/-- A list with an element put in at a place. -/
def insertAt {α : Type} (k : Nat) (x : α) (l : List α) : List α := l.take k ++ x :: l.drop k

/-- The order that a number picks among all the orders of a list. -/
def permuted {α : Type} : Nat → List α → List α
  | _, [] => []
  | n, x :: xs => insertAt (n % (xs.length + 1)) x (permuted (n / (xs.length + 1)) xs)

/-- Parts taken one after another. -/
def inTurn (parts : List (State → State)) (s : State) : State := parts.foldl (fun t f => f t) s

/-- Parts that the specification does not order, each taken whole: where there are two or more, in the order the
next free choice picks (log 5). -/
def inAnyOrder (parts : List (State → State)) (s : State) : State :=
  match parts with
  | [] => s
  | [f] => f s
  | f :: g :: rest => inTurn (permuted (Config.freeOrder s.choices) (f :: g :: rest)) { s with choices := s.choices + 1 }

/-- Parts of one event, each marked with whether its place in the order can be seen. A part that posts no notice
and touches nothing another part reads is taken first; the others in any order. -/
def takeParts (parts : List (Bool × (State → State))) (s : State) : State :=
  inAnyOrder ((parts.filter fun f => f.1).map fun f => f.2)
    (inTurn ((parts.filter fun f => !f.1).map fun f => f.2) s)

/-- One of two ways to go on between which the specification leaves the choice (log 6). The choice comes first, so that the
free choices of the way itself, and those of the next command, are the ones that follow it. -/
def State.eitherWay (s : State) (f g : State → State) : State :=
  if f s = g s then f s
  else
    let t := { s with choices := s.choices + 1 }
    if Config.freeOrder s.choices % 2 = 0 then f t else g t

/-! ### Notices (R164 to R168) -/

/-- A posting that finds room (R165, R166): the notice joins the tail, UNSENT, with the next number, the device
time and the lost count, which becomes 0. -/
def NoticeQueue.join (q : NoticeQueue) (kind : NoticeKind) (now : Word) : NoticeQueue :=
  { q with
    items := q.items ++ [{ number := q.next, kind := kind, lostBefore := q.lost, time := now, sentAt := none }]
    next := if 65535 ≤ q.next then 1 else q.next + 1
    wrapped := q.wrapped || decide (65535 ≤ q.next)
    lost := 0 }

/-- A posting that finds the queue full (R166): dropped and counted. -/
def NoticeQueue.drop (q : NoticeQueue) : NoticeQueue := { q with lost := count16 (q.lost + 1) }

/-- A posting to a queue (R166). -/
def NoticeQueue.post (q : NoticeQueue) (kind : NoticeKind) (now : Word) : NoticeQueue :=
  if q.items.length < Config.noticePlaces then q.join kind now else q.drop

/-- The oldest UNSENT notice of a list, and the list with it SENT at a count (R168). -/
def sendOldest (now : Word) : List Notice → Option (Notice × List Notice)
  | [] => none
  | n :: rest =>
    match n.sentAt with
    | none => some (n, { n with sentAt := some now } :: rest)
    | some _ =>
      match sendOldest now rest with
      | none => none
      | some (m, rest') => some (m, n :: rest')

/-- The queue with its resend timer following the oldest SENT notice (R171). -/
def NoticeQueue.followResend (q : NoticeQueue) : NoticeQueue := { q with resendAt := q.resendDue }

/-- Whether the notice unit offers a notice of the port's session and the transmitter starts it at once (R168,
R184): the session open with no Close Session taken, the window with room, the transmitter idle with no response
waiting. -/
def Port.mayStartNotice (q : Port) : Bool :=
  q.session.isOpen && !q.session.closing && decide (q.notices.sentCount < Config.sendWindow) && q.tx.isNone &&
    q.waiting.isNone

/-- The port after the notice unit has offered its oldest UNSENT notice (R168, R184). -/
def Port.offer (q : Port) (now : Word) : Port :=
  if q.mayStartNotice then
    match sendOldest now q.notices.items with
    | some (n, items) => { q with notices := { q.notices with items := items }.followResend, tx := some n.frame }
    | none => q
  else q

/-- The offer at a port. -/
def State.offer (s : State) (p : PortId) : State := s.modPort p fun q => q.offer s.now

/-- A notice posted to the session of a port (R164, R166): discarded where there is no session, else queued or
dropped, and offered to the transmitter. -/
def State.post (s : State) (p : PortId) (kind : NoticeKind) : State :=
  if (s.session p).isOpen then
    (s.modPort p fun q => { q with notices := q.notices.post kind s.now }).offer p
  else s

/-- A notice posted to the holder of a resource, discarded where it has none (R15, R92). -/
def State.postHolder (s : State) (r : Resource) (kind : NoticeKind) : State :=
  match s.holder r with
  | some p => s.post p kind
  | none => s

/-- A broadcast notice (R164): posted to every open session whose subscriptions hold the kind. -/
def State.broadcast (s : State) (wants : Subscriptions → Bool) (kind : NoticeKind) : State :=
  allPorts.foldl (fun t p => if (t.session p).isOpen && wants (t.session p).subs then t.post p kind else t) s

/-! ### The transmitter (R184) -/

/-- A response handed to the transmitter: it starts at once on an idle transmitter, and waits otherwise. -/
def State.respond (s : State) (p : PortId) (r : Response) : State :=
  s.modPort p fun q =>
    match q.tx with
    | none => { q with tx := some r.frame }
    | some _ => { q with waiting := some r }

/-- The response put into the cache (R182); that of a Close Session that passed its checks is not. -/
def State.remember (s : State) (p : PortId) (seq : Byte) (body : List Byte) (closes : Bool) : State :=
  if closes then s else s.modPort p fun q => { q with cache := some { seq := seq, body := body } }

/-- The next frame at the end of a frame: a waiting response first, else an offered notice. -/
def State.startNext (s : State) (p : PortId) : State :=
  match (s.port p).waiting with
  | some r => s.modPort p fun q => { q with tx := some r.frame, waiting := none }
  | none => s.offer p

/-! ### Answers -/

/-- What a request comes to: its status, and the results that follow it in the response body (R188). -/
structure Reply where
  status : Status
  results : List Byte
  deriving DecidableEq, Repr

/-- A reply of a status alone (R188). -/
def Reply.only (st : Status) : Reply := { status := st, results := [] }

/-- A reply DONE with results. -/
def Reply.done (results : List Byte) : Reply := { status := .done, results := results }

end Sys2Proof.Machine
end

