-- ==== Sys2Proof/Machine/Compares.lean ====
section
/-! DEFINITION. The compare pool (chapter 3): the three ordered lists, ids, the compare requests and removals.
Firing stands with the count event in Counting.lean. -/

namespace Sys2Proof.Machine

/-- The compare list of an axis (R48). -/
def State.compareList (s : State) (x : AxisId) : List CompareEntry := s.compares.get x

/-- The state with the compare list of an axis replaced. -/
def State.setCompareList (s : State) (x : AxisId) (l : List CompareEntry) : State :=
  { s with compares := s.compares.set x l }

/-- The number of entries in the pool (R47). -/
def State.poolSize (s : State) : Nat := s.compares.a.length + s.compares.b.length + s.compares.v.length

/-- Whether an entry in use carries an id (R49). -/
def State.idInUse (s : State) (id : Nat) : Bool :=
  allAxes.any fun x => (s.compareList x).any fun e => decide (e.id = id)

/-- The id after an id (R49): 1 follows 255. -/
def idAfter (id : Nat) : Nat := if 255 ≤ id then 1 else id + 1

/-- The first id not in use from a candidate on (R49), looking at most at `n` candidates. -/
def State.findId (s : State) : Nat → Nat → Nat
  | 0, id => id
  | n + 1, id => if s.idInUse id then s.findId n (idAfter id) else id

/-- An entry put into a list after every entry whose target is lower than or equal to its own (R52, R60). -/
def insertEntry (e : CompareEntry) : List CompareEntry → List CompareEntry
  | [] => [e]
  | h :: t => if h.target ≤ e.target then h :: insertEntry e t else e :: h :: t

/-- A list without the entry of an id. -/
def removeId (id : Nat) (l : List CompareEntry) : List CompareEntry := l.filter fun e => decide (e.id ≠ id)

/-- Queue Compare (R51, R52, Table 3.3). -/
def queueCompareRequest (p : PortId) (raw : RawCompare) (s : State) : State × Reply :=
  match axisOf raw.axis with
  | none => (s, .only .badValue)
  | some x =>
    match crossingOf raw.crossing, compareActionOf raw.action raw.argument raw.width,
      compareTargetOf (s.axis x) raw.turn raw.position, compareRepeatOf raw.step raw.remaining with
    | some crossing, some action, some target, some rep =>
      if action.resource.all (s.holds p) then
        if (s.axis x).status = .overrange then (s, .only .overrange)
        else if Config.comparePool ≤ s.poolSize then (s, .only .tableFull)
        else
          let id := s.findId 255 s.nextCompareId
          let entry : CompareEntry :=
            { id := id, owner := p, tag := raw.tag, target := target, crossing := crossing, action := action, rep := rep }
          ({ s.setCompareList x (insertEntry entry (s.compareList x)) with nextCompareId := idAfter id },
            .done (bytesOf 1 id))
      else (s, .only .notOwner)
    | _, _, _, _ => (s, .only .badValue)

/-- Whether a session owns an entry with an id (R63). -/
def State.ownsEntry (s : State) (p : PortId) (id : Nat) : Bool :=
  allAxes.any fun x => (s.compareList x).any fun e => decide (e.id = id) && decide (e.owner = p)

/-- The lists with the entries a test picks removed. -/
def State.removeEntries (s : State) (drop : CompareEntry → Bool) : State :=
  { s with
    compares :=
      { a := s.compares.a.filter fun e => !drop e, b := s.compares.b.filter fun e => !drop e,
        v := s.compares.v.filter fun e => !drop e } }

/-- Withdraw Compare (R63). -/
def withdrawCompareRequest (p : PortId) (id : Byte) (s : State) : State × Reply :=
  if s.ownsEntry p id.toNat then
    (s.removeEntries fun e => decide (e.id = id.toNat) && decide (e.owner = p), .only .done)
  else (s, .only .notFound)

/-- The argument of an action as its resource id, 0 where it has none (Table 12.6, R188). -/
def CompareAction.argumentCode (a : CompareAction) : Nat :=
  match a.resource with
  | some r => r.code.toNat
  | none => 0

/-- The pulse width of an action, 0 where it has none (Table 12.6, R186). -/
def CompareAction.width : CompareAction → Nat
  | .outPulse _ w => w
  | .notify => 0
  | .outHigh _ => 0
  | .outLow _ => 0
  | .outClear _ => 0
  | .triggerGen _ => 0
  | .capture => 0

/-- An entry in Read Compares, 18 bytes (Table 12.6). -/
def State.entryBytes (s : State) (e : CompareEntry) : List Byte :=
  bytesOf 1 e.id ++ bytesOf 2 e.tag.toNat ++
    [BitVec.ofNat 8 (s.station e.owner * 16 + e.crossing.code.toNat),
      BitVec.ofNat 8 (e.action.code.toNat * 32 + e.action.argumentCode)] ++
    bytesOf 2 e.action.width ++ bytesOf 5 e.target ++
    match e.rep with
    | some r => bytesOf 4 r.step ++ bytesOf 2 r.remaining
    | none => bytesOf 6 0

/-- Read Compares (R64). -/
def readComparesRequest (axis index : Byte) (s : State) : State × Reply :=
  match axisOf axis with
  | none => (s, .only .badValue)
  | some x =>
    if 31 < index.toNat then (s, .only .badValue)
    else
      let shown := ((s.compareList x).drop index.toNat).take 6
      (s, .done (bytesOf 1 (s.compareList x).length ++ bytesOf 1 shown.length ++ shown.flatMap s.entryBytes))

/-- Whether an entry is one of a session's that acts on a resource (R65). -/
def CompareEntry.actsFor (e : CompareEntry) (p : PortId) (r : Resource) : Bool :=
  decide (e.owner = p) && decide (e.action.resource = some r)

/-- COMPARE_WITHDRAWN for an entry of an axis (R65). -/
def State.withdrawnNotice (s : State) (x : AxisId) (e : CompareEntry) : NoticeKind :=
  .compareWithdrawn e.id e.tag x ((s.axis x).turnOf e.target) ((s.axis x).positionOf e.target)

/-- A release removes the session's entries that act on the resource, list A first, then B, then V, with
COMPARE_WITHDRAWN for each (R65). -/
def State.withdrawFor (s : State) (p : PortId) (r : Resource) : State :=
  let notices := allAxes.flatMap fun x =>
    ((s.compareList x).filter fun e => e.actsFor p r).map (s.withdrawnNotice x)
  notices.foldl (fun t n => t.post p n) (s.removeEntries fun e => e.actsFor p r)

/-- A session end removes every entry the session owns, without notice (R66). -/
def State.dropEntries (s : State) (p : PortId) : State := s.removeEntries fun e => decide (e.owner = p)

end Sys2Proof.Machine
end

