-- ==== Sys2Proof/Machine/Outputs.lean ====
section
/-! DEFINITION. The output channels (chapter 4): the arrivals of R70, the holder's requests, and the record that Read Outputs gives of a channel. -/

namespace Sys2Proof.Machine

/-- An arrival at a channel (R70): fields change, then the level is recomputed once and the line takes it (R69). -/
def State.arrive (s : State) (o : OutputId) (f : Channel → Channel) : State :=
  { s with channels := s.channels.set o { f s.channels[o] with line := (f s.channels[o]).effective } }

/-- OUT_HIGH (R73): overlay HIGH, pulse timer cancelled. -/
def Channel.outHigh (c : Channel) : Channel := { c with overlay := .high, pulse := none }

/-- OUT_LOW (R73): overlay LOW, pulse timer cancelled. -/
def Channel.outLow (c : Channel) : Channel := { c with overlay := .low, pulse := none }

/-- OUT_PULSE and Pulse Output (R73, R78): overlay HIGH, pulse timer started or restarted with the width. -/
def Channel.outPulse (width : Nat) (c : Channel) : Channel := { c with overlay := .high, pulse := some width }

/-- OUT_CLEAR, Clear Overlay and the expiry of the pulse timer (R72, R73, R79): overlay NONE, no timer. -/
def Channel.outClear (c : Channel) : Channel := { c with overlay := .none, pulse := none }

/-- A cam level hand-over (R43, R68). -/
def Channel.takeCam (level : Bool) (c : Channel) : Channel := { c with cam := level }

/-- A halt change (R71): halt in force in ACTIVE and LATCHED. -/
def Channel.takeHalt (inForce : Bool) (c : Channel) : Channel := { c with halt := inForce }

/-- The channel's part of a cleanup (R81). -/
def Channel.cleanup (c : Channel) : Channel :=
  { c with overlay := .none, pulse := none, mode := .manual, manual := c.fallback }

/-- A halt change at those of the sixteen channels that are among its receivers (R71). -/
def State.channelsTakeHalt (s : State) (receivers : List HaltReceiver) (inForce : Bool) : State :=
  let takes (c : Channel) : Channel := { c.takeHalt inForce with line := (c.takeHalt inForce).effective }
  { s with
    channels := vectorOf fun o => if HaltReceiver.output o ∈ receivers then takes s.channels[o] else s.channels[o] }

/-- The checks of the holder's output requests (Table 4.4) and the arrival that follows. -/
def State.outputRequest (s : State) (p : PortId) (output : Byte) (change : Option (Channel → Channel)) : State × Reply :=
  match outputOf output with
  | none => (s, .only .badValue)
  | some o =>
    if s.holds p (.output o) then
      match change with
      | none => (s, .only .badValue)
      | some f => (s.arrive o f, .only .done)
    else (s, .only .notOwner)

/-- Set Output Mode (R75). -/
def setOutputModeRequest (p : PortId) (output mode : Byte) (s : State) : State × Reply :=
  s.outputRequest p output ((outputModeOf mode).map fun m c => { c with mode := m })

/-- Set Output Level (R76). -/
def setOutputLevelRequest (p : PortId) (output level : Byte) (s : State) : State × Reply :=
  s.outputRequest p output ((levelOf level).map fun l c => { c with manual := l })

/-- Set Fallback (R77). -/
def setFallbackRequest (p : PortId) (output level : Byte) (s : State) : State × Reply :=
  s.outputRequest p output ((levelOf level).map fun l c => { c with fallback := l })

/-- Pulse Output (R78). -/
def pulseOutputRequest (p : PortId) (output : Byte) (width : Half) (s : State) : State × Reply :=
  s.outputRequest p output ((widthOf width).map Channel.outPulse)

/-- Clear Overlay (R79). -/
def clearOverlayRequest (p : PortId) (output : Byte) (s : State) : State × Reply :=
  s.outputRequest p output (some Channel.outClear)

/-- The record of a channel in Read Outputs (R80, Table 12.6). A running pulse has 1 ms left at least, rounded up, also one
whose expiry is due and not yet taken (log 3). -/
def State.channelBytes (s : State) (o : OutputId) : List Byte :=
  let c := s.channel o
  [BitVec.ofNat 8
      (s.holderStation (.output o) * 16 + c.overlay.code.toNat * 4 + c.mode.code.toNat * 2 + c.manual.code.toNat),
    BitVec.ofNat 8
      (c.fallback.code.toNat * 8 + c.cam.toNat * 4 + c.line.code.toNat * 2 + c.pulse.isSome.toNat)] ++
    optBytes 2 (c.pulse.map fun n => max n 1)

/-- The expiry of a pulse timer that has run out (R72): the overlay becomes NONE and the level is recomputed. -/
def State.pulseExpires (s : State) (o : OutputId) : State :=
  if (s.channel o).pulse = some 0 then s.arrive o Channel.outClear else s

end Sys2Proof.Machine
end

