-- ==== Sys2Proof/Machine/Windows.lean ====
section
/-! DEFINITION. The cam window table (chapter 2): slots, commits, evaluation, the cam level, and its requests. -/

namespace Sys2Proof.Machine

/-- The cam level of an output by its windows (R43): the OR of the inside flags of those that count. -/
def State.camOf (s : State) (o : OutputId) : Bool :=
  s.slots.toList.any fun w => w.status.counts && decide (w.output = o) && w.inside

/-- The cam level of an output recomposed (R43): a changed level is handed to its channel. -/
def State.recompose (s : State) (o : OutputId) : State :=
  if s.camOf o = s.camLevels[o] then s
  else State.arrive { s with camLevels := s.camLevels.set o (s.camOf o) } o (Channel.takeCam (s.camOf o))

/-- Cam levels of several outputs recomposed, one at a time (R43). -/
def State.recomposeAll (s : State) (os : List OutputId) : State := os.foldl State.recompose s

/-- The outputs of the windows on an axis. -/
def State.outputsOn (s : State) (x : AxisId) : List OutputId :=
  (s.slots.toList.filter fun w => decide (w.axis = x) && decide (w.status ≠ .free)).map Slot.output

/-- A counting window with its inside flag recomputed by its active copy (R37, R39). -/
def Slot.evaluated (a : Axis) (w : Slot) : Slot :=
  if w.status.counts then
    { w with inside := match w.active with
        | some c => c.insideOn a
        | none => false }
  else w

/-- The windows of an axis that a test picks evaluated, without recomposing (R37). -/
def State.evaluateSlots (s : State) (x : AxisId) (pick : Slot → Bool) : State :=
  { s with slots := mapVector (fun w => if decide (w.axis = x) && pick w then w.evaluated (s.axis x) else w) s.slots }

/-- An evaluation of all counting windows on an axis (R37), with the hand-over of changed cam levels (R43). -/
def State.evaluateAxis (s : State) (x : AxisId) : State :=
  (s.evaluateSlots x fun _ => true).recomposeAll (s.outputsOn x)

/-! ### Commits -/

/-- Whether a slot is changed by a commit (R29). -/
def SlotStatus.changes : SlotStatus → Bool
  | .free => false
  | .staged => true
  | .live => false
  | .liveEdited => true
  | .retiring => true

/-- A slot after a commit (R29). -/
def Slot.committed (w : Slot) : Slot :=
  match w.status with
  | .staged => { w with status := .live, active := w.staged, staged := none }
  | .liveEdited => { w with status := .live, active := w.staged, staged := none }
  | .retiring => Slot.free
  | .live => w
  | .free => w

/-- Whether a slot is one of a session's windows on an axis (R29): its output is held by the session. -/
def State.ownWindow (s : State) (p : PortId) (x : AxisId) (w : Slot) : Bool :=
  decide (w.status ≠ .free) && decide (w.axis = x) && s.holds p (.output w.output)

/-- The commit of a session on an axis applied (R29): its windows change, those now LIVE are evaluated, changed
cam levels are handed over, and COMMIT_DONE is posted (R36). -/
def State.applyCommit (s : State) (p : PortId) (x : AxisId) (timing : CommitTiming) : State :=
  let own := s.ownWindow p x
  let count := (s.slots.toList.filter fun w => own w && w.status.changes).length
  let outputs := (s.slots.toList.filter own).map Slot.output
  let changed : State := { s with slots := mapVector (fun w => if own w then w.committed else w) s.slots }
  let evaluated := changed.evaluateSlots x fun w => decide (w.status = .live) && s.holds p (.output w.output)
  (evaluated.recomposeAll outputs).post p (.commitDone x timing count (s.axis x).extended)

/-- Whether a session has a pending commit on an axis (R31). -/
def State.hasCommit (s : State) (p : PortId) (x : AxisId) : Bool := (s.commits.get p).get x

/-- The pending commit of a session on an axis set or removed. -/
def State.setCommit (s : State) (p : PortId) (x : AxisId) (b : Bool) : State :=
  { s with commits := s.commits.set p ((s.commits.get p).set x b) }

/-- Whether any session has a pending commit on an axis. -/
def State.anyCommit (s : State) (x : AxisId) : Bool := allPorts.any fun p => s.hasCommit p x

/-- The pending commits of an axis applied and removed at a rollover (R32). -/
def State.applyPending (s : State) (x : AxisId) : State :=
  allPorts.foldl (fun t p => if t.hasCommit p x then (t.applyCommit p x .atRollover).setCommit p x false else t) s

/-- The cam engine's part of a count event (R9, R32): pending commits at a rollover, then every window. -/
def State.camEvent (s : State) (x : AxisId) (rollover : Bool) : State :=
  (if rollover then s.applyPending x else s).evaluateAxis x

/-! ### Erasure -/

/-- The windows of an output erased (R44): their slots become FREE and the cam level false. -/
def State.eraseWindows (s : State) (o : OutputId) : State :=
  State.recompose { s with slots := mapVector (fun w => if w.output = o then Slot.free else w) s.slots } o

/-- The pending commits of a session dropped (R35). -/
def State.dropCommits (s : State) (p : PortId) : State :=
  { s with commits := s.commits.set p { a := false, b := false, v := false } }

/-! ### Requests -/

/-- The lowest-numbered FREE slot (R25). -/
def State.freeSlot (s : State) : Option (Fin 48) :=
  (List.finRange 48).find? fun i => decide (s.slots[i].status = .free)

/-- Define Window (R25, Table 2.3). -/
def defineWindowRequest (p : PortId) (axis output : Byte) (raw : RawWindow) (s : State) : State × Reply :=
  match axisOf axis, outputOf output with
  | some x, some o =>
    if s.holds p (.output o) then
      match windowOf (s.axis x) raw with
      | none => (s, .only .badValue)
      | some w =>
        if s.hasCommit p x then (s, .only .busy)
        else
          match s.freeSlot with
          | none => (s, .only .tableFull)
          | some i =>
            let slot : Slot := { status := .staged, axis := x, output := o, active := none, staged := some w, inside := false }
            ({ s with slots := s.slots.set i slot }, .done (bytesOf 1 i.val))
    else (s, .only .notOwner)
  | _, _ => (s, .only .badValue)

/-- A slot that a request of a session names (R26, R28): not FREE, and its output held by the session. -/
def State.namesOwn (s : State) (p : PortId) (i : Fin 48) : Bool :=
  decide (s.slots[i].status ≠ .free) && s.holds p (.output s.slots[i].output)

/-- The slot after an edit (R27, Table 2.5). -/
def Slot.edited (w : WindowCopy) (slot : Slot) : Slot :=
  match slot.status with
  | .staged => { slot with staged := some w }
  | .live => { slot with status := .liveEdited, staged := some w }
  | .liveEdited => { slot with staged := some w }
  | .retiring => { slot with status := .liveEdited, staged := some w }
  | .free => slot

/-- Edit Window (R26, R27, Table 2.4). -/
def editWindowRequest (p : PortId) (slot : Byte) (raw : RawWindow) (s : State) : State × Reply :=
  match slotOf slot with
  | none => (s, .only .badValue)
  | some i =>
    if s.namesOwn p i then
      match windowOf (s.axis s.slots[i].axis) raw with
      | none => (s, .only .badValue)
      | some w =>
        if s.hasCommit p s.slots[i].axis then (s, .only .busy)
        else ({ s with slots := s.slots.set i (s.slots[i].edited w) }, .only .done)
    else (s, .only .notFound)

/-- The slot after a deletion (R28). -/
def Slot.deleted (slot : Slot) : Slot :=
  match slot.status with
  | .staged => Slot.free
  | .live => { slot with status := .retiring }
  | .liveEdited => { slot with status := .retiring, staged := none }
  | .retiring => slot
  | .free => slot

/-- Delete Window (R28). -/
def deleteWindowRequest (p : PortId) (slot : Byte) (s : State) : State × Reply :=
  match slotOf slot with
  | none => (s, .only .badValue)
  | some i =>
    if s.namesOwn p i then
      if s.hasCommit p s.slots[i].axis then (s, .only .busy)
      else ({ s with slots := s.slots.set i s.slots[i].deleted }, .only .done)
    else (s, .only .notFound)

/-- Commit Windows (R30, R31, Table 2.7). -/
def commitWindowsRequest (p : PortId) (axis timing : Byte) (s : State) : State × Reply :=
  match axisOf axis, timingOf timing with
  | some x, some t =>
    if t = .atRollover ∧ (s.axis x).mode = .linear then (s, .only .badValue)
    else if s.hasCommit p x then (s, .only .busy)
    else
      match t with
      | .now => (s.applyCommit p x .now, .only .done)
      | .atRollover => (s.setCommit p x true, .only .done)
  | _, _ => (s, .only .badValue)

/-- Cancel Commit (R33). -/
def cancelCommitRequest (p : PortId) (axis : Byte) (s : State) : State × Reply :=
  match axisOf axis with
  | none => (s, .only .badValue)
  | some x => if s.hasCommit p x then (s.setCommit p x false, .only .done) else (s, .only .notFound)

/-- Whether the holder of an output has a pending commit on an axis (R45). -/
def State.holderHasCommit (s : State) (o : OutputId) (x : AxisId) : Bool :=
  match s.holder (.output o) with
  | some p => s.hasCommit p x
  | none => false

/-- The flags byte of Read Window (Table 12.6). -/
def State.slotFlags (s : State) (w : Slot) : Byte :=
  BitVec.ofNat 8
    (w.active.isSome.toNat * 16 + w.staged.isSome.toNat * 8 + (decide (w.status = .retiring)).toNat * 4 +
      w.inside.toNat * 2 + (s.holderHasCommit w.output w.axis).toNat)

/-- Read Window (R45): a FREE slot returns its axis, output and station as 0. -/
def readWindowRequest (slot : Byte) (s : State) : State × Reply :=
  match slotOf slot with
  | none => (s, .only .badValue)
  | some i =>
    let w := s.slots[i]
    if w.status = .free then (s, .done ([SlotStatus.code .free] ++ bytesOf 26 0))
    else
      (s,
        .done
          ([w.status.code, w.axis.code, Resource.code (.output w.output)] ++ bytesOf 1 (s.holderStation (.output w.output)) ++
            [s.slotFlags w] ++ windowBytes w.active ++ windowBytes w.staged))

end Sys2Proof.Machine
end

