-- ==== Sys2Proof/Machine/Claims.lean ====
section
/-! DEFINITION. Claims and wait lists (chapter 8): cleanup, hand-over, and the claim requests. -/

namespace Sys2Proof.Machine

/-- The hand-over of a claim (R140): to the oldest waiter with CLAIM_GRANTED, else FREE with CLAIM_FREED. -/
def State.handOver (s : State) (r : Resource) (station : Nat) (cause : ClaimCause) : State :=
  match (s.claim r).waiters with
  | w :: rest =>
    (s.setClaim r { state := .held, owner := some w, former := 0, waiters := rest }).post w (.claimGranted r station cause)
  | [] => (s.setClaim r Claim.free).broadcast (fun u => u.claimFreed) (.claimFreed r station cause)

/-- The cleanup of an axis (R21). -/
def Axis.cleanup (a : Axis) : Axis := { a with arming := none, log := [], lost := 0, lossReported := false }

/-- The parts of a cleanup but that of the compare unit (R139, Table 8.4): the channel's part (R81) and the erasure
(R44) of an output, the pending trigger of a generator (R111), the captures of an axis (R21). R81 and R139 do not order
the parts: the erasure here comes before the channel's part, and the compare unit's before both (log 20). -/
def State.cleanup (s : State) (r : Resource) : State :=
  match r with
  | .output o => (s.eraseWindows o).arrive o Channel.cleanup
  | .generator g => s.modGen g fun n => { n with pendingTrigger := false }
  | .axis x => s.modAxis x Axis.cleanup

/-- A generator's report of its entry into IDLE (R92, R143): a RELEASING claim is cleaned up and handed over. -/
def State.reportIdle (s : State) (g : GenId) : State :=
  match (s.claim (.generator g)).state with
  | .releasing => (s.cleanup (.generator g)).handOver (.generator g) (s.claim (.generator g)).former .sessionEnded
  | .free => s
  | .held => s

/-- The place of a session in a wait list, counted from 1 (R135). -/
def Claim.place (c : Claim) (p : PortId) : Nat := c.waiters.findIdx (fun w => decide (w = p)) + 1

/-- Claim (R135, Table 8.2). -/
def claimRequest (p : PortId) (resource wait : Byte) (s : State) : State × Reply :=
  match resourceOf resource, flagOf wait with
  | some r, some w =>
    let c := s.claim r
    let answer (st : Status) (station place : Nat) : Reply :=
      { status := st, results := bytesOf 1 station ++ bytesOf 1 place }
    if s.holds p r then (s, answer .done (s.station p) 0)
    else if p ∈ c.waiters then (s, answer .busy (s.holderStation r) (c.place p))
    else if c.state = .free then
      (s.setClaim r { state := .held, owner := some p, former := 0, waiters := c.waiters }, answer .done (s.station p) 0)
    else if w = false then (s, answer .heldElsewhere (s.holderStation r) 0)
    else if Config.waitPlaces ≤ c.waiters.length then (s, answer .queueFull (s.holderStation r) 0)
    else
      (s.setClaim r { c with waiters := c.waiters ++ [p] }, answer .queued (s.holderStation r) (c.waiters.length + 1))
  | _, _ => (s, .only .badValue)

/-- Whether a resource may be released (R138): a generator only from IDLE. -/
def State.releasable (s : State) (r : Resource) : Bool :=
  match r with
  | .output _ => true
  | .generator g => decide ((s.gen g).state = .idle)
  | .axis _ => true

/-- Release (R138, Table 8.3): the cleanup, with the entries withdrawn, then the hand-over. -/
def releaseRequest (p : PortId) (resource : Byte) (s : State) : State × Reply :=
  match resourceOf resource with
  | none => (s, .only .badValue)
  | some r =>
    if s.holds p r then
      if s.releasable r then (((s.withdrawFor p r).cleanup r).handOver r (s.station p) .released, .only .done)
      else (s, .only .busy)
    else (s, .only .notOwner)

/-- Cancel Wait (R141). -/
def cancelWaitRequest (p : PortId) (resource : Byte) (s : State) : State × Reply :=
  match resourceOf resource with
  | none => (s, .only .badValue)
  | some r =>
    let c := s.claim r
    if p ∈ c.waiters then (s.setClaim r { c with waiters := c.waiters.filter fun w => decide (w ≠ p) }, .only .done)
    else (s, .only .notFound)

/-- The station of the n-th waiter, 0 where there is none. -/
def State.waiterStation (s : State) (c : Claim) (n : Nat) : Nat :=
  match c.waiters[n]? with
  | some w => s.station w
  | none => 0

/-- A record in Read Claims (Table 12.6). -/
def State.claimBytes (s : State) (r : Resource) : List Byte :=
  let c := s.claim r
  [BitVec.ofNat 8 (c.state.code.toNat * 16 + c.waiters.length), BitVec.ofNat 8 (s.holderStation r * 16 + c.former),
    BitVec.ofNat 8 (s.waiterStation c 0 * 16 + s.waiterStation c 1)]

/-- Read Claims (R145). -/
def readClaimsRequest (s : State) : State × Reply := (s, .done (allResources.flatMap s.claimBytes))

end Sys2Proof.Machine
end

