-- ==== Sys2Proof/Machine/Generators.lean ====
section
/-! DEFINITION. The step generators (chapters 5 and 6): the end and the start of moves, one step, stopping,
triggers, the ramp timer, and the generator requests. -/

namespace Sys2Proof.Machine

/-- A notice to the holder of a generator (R92). -/
def State.postGen (s : State) (g : GenId) (kind : NoticeKind) : State := s.postHolder (.generator g) kind

/-- The current move changed, where there is one. -/
def Generator.modMove (n : Generator) (f : CurrentMove → CurrentMove) : Generator := { n with current := n.current.map f }

/-- The direction in which the next step goes: the backlog's for a FOLLOW move (R99), the search's for a HOME move
(R115), the move's own otherwise. -/
def Generator.motion (n : Generator) (m : CurrentMove) : StepDir :=
  match m.record.kind, m.search with
  | .follow _ _ _ _, _ => n.backlogDir
  | .home _, some r => r.motion
  | .home f, none => f.direction
  | .position _ _ _ _ _ _, _ => m.dir
  | .velocity _ _ _ _ _ _, _ => m.dir
  | .dwell _, _ => m.dir

/-! ### The end of a move -/

/-- The search fields of MOVE_ENDED (R124): those of the search record; for a HOME move that never started, as for
a search that never stepped; none for other kinds. A completed search has reached FINAL. -/
def CurrentMove.endSearch (m : CurrentMove) (cause : EndCause) : Option SearchRecord :=
  match m.record.kind with
  | .home f =>
    match m.search with
    | some r => some (if cause = .complete then { r with phase := .final } else r)
    | none => some (SearchRecord.unstarted f)
  | .position _ _ _ _ _ _ => none
  | .velocity _ _ _ _ _ _ => none
  | .follow _ _ _ _ => none
  | .dwell _ => none

/-- The generator with its current move taken away (R92, point 1): speed 0, mark clear, accumulator and backlog
discarded, timers stopped. -/
def Generator.withoutMove (n : Generator) : Generator :=
  { n with
    phase := none, speed := 0, stopRate := none, current := none, endByNext := false, accumulator := 0, backlog := 0,
    backlogDir := .up, rampLeft := none, dwellLeft := none, firstStepDue := false }

/-- A flush of the queue (R89): QUEUE_FLUSHED where it discards at least one record. -/
def State.flush (s : State) (g : GenId) : State :=
  let count := (s.gen g).queue.length
  let t := s.modGen g fun n => { n with queue := [] }
  if count = 0 then t else t.postGen g (.queueFlushed g count)

/-- The flush of a stop, a halt, an end out of range or a failed search: queue and pending trigger (R85, R103, R108,
R110, R121). -/
def State.flushAll (s : State) (g : GenId) : State := (s.flush g).modGen g fun n => { n with pendingTrigger := false }

/-- The current move of a generator ended (R92, points 1 and 3): removed, and MOVE_ENDED posted. A flush that comes
with the end has been made before (R89). -/
def State.closeMove (s : State) (g : GenId) (cause : EndCause) : State :=
  match (s.gen g).current with
  | none => s
  | some m =>
    (s.modGen g Generator.withoutMove).postGen g
      (.moveEnded g m.record.tag m.record.kind cause (s.gen g).counter m.started (m.endSearch cause))

/-- A generator left without a move (R92, point 4): HALTED while halt is in force, else IDLE, which it reports to
the claim table. -/
def State.settle (s : State) (g : GenId) : State :=
  if (s.gen g).halt then s.modGen g fun n => { n with state := .halted }
  else (s.modGen g fun n => { n with state := .idle }).reportIdle g

/-- The cause with which a stop ends a move (R102, R121). -/
def Generator.stopCause (n : Generator) (m : CurrentMove) : EndCause :=
  match n.stopRate, m.search.bind SearchRecord.mark with
  | some .halt, _ => .halted
  | _, some _ => .notFound
  | _, none => .stopped

/-- Whether the speed of a generator is at or below the floor of its current move (R102). -/
def Generator.atFloor (n : Generator) : Bool :=
  match n.current with
  | some m => decide (n.speed ≤ m.record.kind.floor)
  | none => true

/-- Motion ended by a stop (R102): the move ends with the stop's cause. -/
def State.closeStopped (s : State) (g : GenId) : State :=
  match (s.gen g).current with
  | none => s
  | some m => s.closeMove g ((s.gen g).stopCause m)

/-- The entry into STOPPING (R102), and whether motion ends at it because the speed is at the floor already. -/
def State.brake (s : State) (g : GenId) (rate : StopRate) : State × Bool :=
  let t := s.modGen g fun n => { n with state := .stopping, phase := none, stopRate := some rate }
  if (t.gen g).atFloor then (t.closeStopped g, true) else (t, false)

/-! ### One step -/

/-- What a step means for the current move. -/
inductive StepEnd where
  /-- The move goes on. -/
  | goesOn
  /-- The remaining steps have come to 0 (R94, R96, R100, R102). -/
  | noneLeft
  /-- The step would leave the counter's range and is not issued (R85). -/
  | outOfRange
  /-- The search has exceeded its limit (R121). -/
  | overLimit
  deriving DecidableEq, Repr

/-- The progress of a move after one issued step (R83, R115): search steps are counted in SEARCHING only. -/
def CurrentMove.stepped (m : CurrentMove) (searching : Bool) : CurrentMove :=
  { m with
    issued := m.issued + 1
    remaining := m.remaining.map fun k => k - 1
    search := m.search.map fun r => if searching then { r with steps := r.steps + 1 } else r }

/-- What a step means for a move, by its progress after it. -/
def CurrentMove.stepEnd (m : CurrentMove) (searching : Bool) : StepEnd :=
  if m.remaining = some 0 then .noneLeft
  else
    match m.record.kind, m.search with
    | .home f, some r => if searching = true ∧ f.limit < r.steps then .overLimit else .goesOn
    | .home _, none => .goesOn
    | .position _ _ _ _ _ _, _ => .goesOn
    | .velocity _ _ _ _ _ _, _ => .goesOn
    | .follow _ _ _ _, _ => .goesOn
    | .dwell _, _ => .goesOn

/-- The fields of a generator after one issued step (R84, R99): counter, direction line and step pulse of G1 and G2,
the backlog of a FOLLOW move, and the move's progress. -/
def Generator.stepped (n : Generator) (g : GenId) (m : CurrentMove) : Generator :=
  let dir := n.motion m
  let moved : Generator :=
    { n with
      counter := dir.move n.counter
      current := some (m.stepped (decide (n.state = .searching)))
      backlog := if n.state = .following then n.backlog - 1 else n.backlog
      backlogDir := if n.state = .following then backlogDirection (n.backlog - 1) n.backlogDir else n.backlogDir
      intervalSpeed := n.speed
      firstStepDue := false }
  match g with
  | .gv => moved
  | .g1 => { moved with dirLine := n.sense.dirLevel dir, stepLine := .low, stepPulses := n.stepPulses + 1 }
  | .g2 => { moved with dirLine := n.sense.dirLevel dir, stepLine := .low, stepPulses := n.stepPulses + 1 }

/-- One step of a generator (R84, R85): issued, or found to leave the counter's range. GV hands its step to axis V
as a count event (R4), which the axis takes once the step is complete at GV (log 7). -/
def State.issueStep (s : State) (g : GenId) : State × StepEnd :=
  match (s.gen g).current with
  | none => (s, .goesOn)
  | some m =>
    let n := s.gen g
    if inCountRange ((n.motion m).move n.counter) then
      let t := s.modGen g fun n => n.stepped g m
      let u : State := if g = .gv then { t with vEvents := t.vEvents ++ [n.sense.stepEvent (n.motion m)] } else t
      (u, (m.stepped (decide (n.state = .searching))).stepEnd (decide (n.state = .searching)))
    else (s, .outOfRange)

/-- The not-found mark set in the search record (R121). -/
def Generator.markSearch (n : Generator) (k : NotFound) : Generator :=
  n.modMove fun m => { m with search := m.search.map fun r => { r with mark := some k } }

/-- The failure of a search (R121): mark, flush, STOPPING at the stop rate; and whether motion ends at once. -/
def State.failSearch (s : State) (g : GenId) (k : NotFound) : State × Bool :=
  ((s.modGen g fun n => n.markSearch k).flushAll g).brake g .stop

/-- What follows a step (R85, R94, R100, R102, R121), and whether the current move has ended. -/
def State.afterStep (s : State) (g : GenId) (e : StepEnd) : State × Bool :=
  match e with
  | .goesOn => (s, false)
  | .noneLeft => if (s.gen g).state = .stopping then (s.closeStopped g, true) else (s.closeMove g .complete, true)
  | .outOfRange => ((s.flushAll g).closeMove g .outOfRange, true)
  | .overLimit => s.failSearch g .limit

/-! ### The start of a move -/

/-- The search record of a HOME move at its start (R116). -/
def HomeFields.startSearch (f : HomeFields) (lineHigh : Bool) : SearchRecord :=
  { phase := if lineHigh then .clearing else .seek, motion := if lineHigh then f.direction.opposite else f.direction,
    found := false, markers := 0, steps := 0, mark := none }

/-- The generator as a move starts (R90, R93 to R101): state, speed, phase, timers, mark and progress. -/
def Generator.started (n : Generator) (r : MoveRecord) (lines : InputLines) : Generator :=
  let move (remaining : Option Nat) (dir : StepDir) (search : Option SearchRecord) : Option CurrentMove :=
    some { record := r, started := true, issued := 0, remaining := remaining, dir := dir, search := search }
  match r.kind with
  | .position mode target startSpeed peak _ _ =>
    let d := positionDistance mode target n.counter
    { n with
      state := .running, phase := some (startPhase startSpeed peak), speed := startSpeed, rampLeft := some 1,
      endByNext := false, current := move (some d.natAbs) (distanceDir d) none }
  | .velocity dir startSpeed peak _ _ limit =>
    { n with
      state := .running, phase := some (startPhase startSpeed peak), speed := startSpeed, rampLeft := some 1,
      endByNext := !n.queue.isEmpty, current := move limit dir none }
  | .follow _ _ _ limit =>
    { n with
      state := .following, accumulator := 0, backlog := 0, backlogDir := .up, current := move limit .up none }
  | .dwell ms => { n with state := .dwelling, dwellLeft := some ms, current := move none .up none }
  | .home f =>
    { n with
      state := .searching, speed := f.creepSpeed, rampLeft := some 1,
      current := move none f.direction (some (f.startSearch (lines.ref f.line))) }

/-- The phase that MOVE_STARTED carries for a HOME move (R124). -/
def MoveKind.startedPhase (k : MoveKind) (lines : InputLines) : Option SearchPhase :=
  match k with
  | .home f => some (f.startSearch (lines.ref f.line)).phase
  | .position _ _ _ _ _ _ => none
  | .velocity _ _ _ _ _ _ => none
  | .follow _ _ _ _ => none
  | .dwell _ => none

/-- The first step of a move (R93), issued as the move starts; GV's waits while axis V is taking a count event
(R56, log 7). Answers whether the move has ended. -/
def State.firstStep (s : State) (g : GenId) : State × Bool :=
  if g = .gv ∧ s.vTaking = true then (s.modGen g fun n => { n with firstStepDue := true }, false)
  else (s.issueStep g).1.afterStep g (s.issueStep g).2

/-- The start of a move (R90): MOVE_STARTED, the state of its kind, and its first actions. Answers whether the move
has ended at once: a POSITION move of distance 0 (R94), a FOLLOW move with a record waiting (R100), or at its
first step. -/
def State.startMove (s : State) (g : GenId) (r : MoveRecord) (byTrigger : Bool) : State × Bool :=
  let n := s.gen g
  let t :=
    (s.modGen g fun n => n.started r s.lines).postGen g
      (.moveStarted g r.tag r.kind n.counter byTrigger (r.kind.startedPhase s.lines))
  match r.kind with
  | .position mode target _ _ _ _ =>
    if positionDistance mode target n.counter = 0 then (t.closeMove g .complete, true) else t.firstStep g
  | .velocity _ _ _ _ _ _ => t.firstStep g
  | .follow _ _ _ _ => if n.queue.isEmpty then (t, false) else (t.closeMove g .endedByNext, true)
  | .dwell _ => (t, false)
  | .home _ => t.firstStep g

/-- The pending trigger consumed by an ON_TRIGGER move that starts; an IMMEDIATE move leaves it (R90). -/
def State.consumeTrigger (s : State) (g : GenId) (r : MoveRecord) : State :=
  match r.start with
  | .onTrigger => s.modGen g fun n => { n with pendingTrigger := false }
  | .immediate => s

/-- A generator without a current move takes its queue (R90, R92 point 4): the head becomes current and starts or
is ARMED, its distance limit still whole (R96, log 22); a move that ends at once makes way for the next; an empty
queue leaves the generator settled. The first argument bounds the records taken: the length of the queue. -/
def State.takeQueue (g : GenId) : Nat → State → State
  | 0, s => s.settle g
  | k + 1, s =>
    match (s.gen g).queue with
    | [] => s.settle g
    | r :: rest =>
      let t := s.modGen g fun n => { n with queue := rest }
      if r.start = .onTrigger ∧ (t.gen g).pendingTrigger = false then
        t.modGen g fun n =>
          { n with
            state := .armed
            current :=
              some { record := r, started := false, issued := 0, remaining := r.kind.limit, dir := .up, search := none } }
      else
        let u := (t.consumeTrigger g r).startMove g r (decide (r.start = .onTrigger))
        if u.2 then State.takeQueue g k u.1 else u.1

/-- The next record of a generator without a current move. -/
def State.nextMove (s : State) (g : GenId) : State := State.takeQueue g (s.gen g).queue.length s

/-- The end of the current move, with what follows it (R92). -/
def State.endMove (s : State) (g : GenId) (cause : EndCause) : State := (s.closeMove g cause).nextMove g

/-- What follows where a move may have ended. -/
def State.thenNext (r : State × Bool) (g : GenId) : State := if r.2 then r.1.nextMove g else r.1

/-! ### Triggers -/

/-- Arrival of a trigger (R91, Table 5.4). -/
def State.trigger (s : State) (g : GenId) (source : TriggerSource) : State :=
  let n := s.gen g
  let lost := s.postGen g (.triggerLost g source n.state)
  let held := if n.pendingTrigger then lost else s.modGen g fun n => { n with pendingTrigger := true }
  match n.state with
  | .armed =>
    match n.current with
    | some m => State.thenNext (s.startMove g m.record true) g
    | none => s
  | .idle => held
  | .running => held
  | .following => held
  | .dwelling => held
  | .searching => held
  | .stopping => lost
  | .halted => lost

/-! ### Stopping -/

/-- Stop Generator RAMP (R103, Table 5.5) and the owner-loss stop (R110). -/
def State.rampStop (s : State) (g : GenId) : State :=
  match (s.gen g).state with
  | .idle => s
  | .armed => (s.flushAll g).endMove g .stopped
  | .dwelling => (s.flushAll g).endMove g .stopped
  | .following => (s.flushAll g).endMove g .stopped
  | .running => State.thenNext ((s.flushAll g).brake g .stop) g
  | .searching => State.thenNext ((s.flushAll g).brake g .stop) g
  | .stopping => s
  | .halted => s

/-- Halt entry at a generator (R108, Table 5.7). -/
def State.haltEntry (s : State) (g : GenId) : State :=
  let t := (s.modGen g fun n => { n with halt := true }).flushAll g
  match (s.gen g).state with
  | .idle => t.modGen g fun n => { n with state := .halted }
  | .armed => t.endMove g .halted
  | .dwelling => t.endMove g .halted
  | .following => t.endMove g .halted
  | .running => State.thenNext (t.brake g .halt) g
  | .searching => State.thenNext (t.brake g .halt) g
  | .stopping => t.modGen g fun n => { n with stopRate := some .halt }
  | .halted => t

/-- The clear at a generator (R109): a HALTED generator enters IDLE and reports it. -/
def State.haltClear (s : State) (g : GenId) : State :=
  let t := s.modGen g fun n => { n with halt := false }
  if (s.gen g).state = .halted then (t.modGen g fun n => { n with state := .idle }).reportIdle g else t

/-! ### The ramp timer -/

/-- A ramp timer expiry of a RUNNING move (R95 to R97): the new speed and phase; none where a superseded VELOCITY
move has come to its start speed. -/
def Generator.runningRamp (n : Generator) (m : CurrentMove) : Option (Nat × Phase) :=
  match m.record.kind with
  | .position _ _ s peak accel decel => some (profileSpeed n.phase n.speed s peak accel decel (m.remaining.getD 0))
  | .velocity _ s peak accel decel _ =>
    if n.endByNext then (if n.speed ≤ s + decel then none else some (n.speed - decel, .rampDown))
    else
      match m.remaining with
      | some left => some (profileSpeed n.phase n.speed s peak accel decel left)
      | none => some (velocitySpeed n.speed peak accel)
  | .follow _ _ _ _ => some (n.speed, .cruise)
  | .dwell _ => some (n.speed, .cruise)
  | .home _ => some (n.speed, .cruise)

/-- A ramp timer expiry of a search (R117 to R119): SEEK rises to the search speed, or falls to the creep speed and
into CREEP once the reference is found; CLEARING and CREEP keep the speed. -/
def Generator.searchRamp (n : Generator) : Generator :=
  match n.current with
  | none => n
  | some m =>
    match m.record.kind, m.search with
    | .home f, some r =>
      if r.phase = .seek then
        if r.found then
          if n.speed ≤ f.creepSpeed + f.decel then
            { n with speed := f.creepSpeed, current := some { m with search := some { r with phase := .creep } } }
          else { n with speed := n.speed - f.decel }
        else { n with speed := riseTo n.speed f.accel f.searchSpeed }
      else n
    | _, _ => n

/-- The rate of the stop in force (R102). -/
def Generator.stopDecelNow (n : Generator) : Nat :=
  match n.stopRate with
  | some .halt => n.haltDecel
  | some .stop => n.stopDecel
  | none => n.stopDecel

/-- A ramp timer expiry (R93): the speed and phase change by the rules of the move or of the stop; the timer starts
its next millisecond. -/
def State.rampTick (s : State) (g : GenId) : State :=
  let t := s.modGen g fun n => { n with rampLeft := some 1 }
  let n := t.gen g
  match n.state with
  | .running =>
    match n.current with
    | none => t
    | some m =>
      match n.runningRamp m with
      | some (v, ph) => t.modGen g fun n => { n with speed := v, phase := some ph }
      | none => t.endMove g .endedByNext
  | .searching => t.modGen g Generator.searchRamp
  | .stopping =>
    let u := if n.atFloor then t else t.modGen g fun n => { n with speed := n.speed - n.stopDecelNow }
    if (u.gen g).atFloor then (u.closeStopped g).nextMove g else u
  | .idle => s
  | .armed => s
  | .following => s
  | .dwelling => s
  | .halted => s

/-- Whether a generator issues steps at its speed (R93). -/
def GenState.moving : GenState → Bool
  | .running => true
  | .searching => true
  | .stopping => true
  | .idle => false
  | .armed => false
  | .following => false
  | .dwelling => false
  | .halted => false

/-- One step taken with what follows it. -/
def State.takeStep (s : State) (g : GenId) : State :=
  State.thenNext ((s.issueStep g).1.afterStep g (s.issueStep g).2) g

/-! ### Source events of FOLLOW moves -/

/-- Whether a generator follows an axis now (R9). -/
def Generator.followsNow (n : Generator) (x : AxisId) : Bool :=
  decide (n.state = .following) &&
    match n.current with
    | some m =>
      match m.record.kind with
      | .follow source _ _ _ => decide (source = x)
      | .position _ _ _ _ _ _ => false
      | .velocity _ _ _ _ _ _ => false
      | .dwell _ => false
      | .home _ => false
    | none => false

/-- A source count event at a generator (R98, R99): the accumulator and the backlog, or the end
FOLLOW_OVERSPEED, which flushes the queue and leaves the pending trigger (log 12). A generator that does not follow
the axis is not touched. -/
def State.followEvent (s : State) (x : AxisId) (d : AxisDir) (g : GenId) : State :=
  let n := s.gen g
  if n.followsNow x then
    match n.current with
    | some m =>
      match m.record.kind with
      | .follow _ num den _ =>
        let (acc, due, dir) := followReduce n.accumulator num den d
        match joinMany dir due (n.backlog, n.backlogDir) with
        | some (count, bdir) => s.modGen g fun n => { n with accumulator := acc, backlog := count, backlogDir := bdir }
        | none => (s.flush g).endMove g .followOverspeed
      | .position _ _ _ _ _ _ => s
      | .velocity _ _ _ _ _ _ => s
      | .dwell _ => s
      | .home _ => s
    | none => s
  else s

/-! ### Edges of a search (R117 to R121) -/

/-- The current search of a generator in SEARCHING. -/
def Generator.searchNow (n : Generator) : Option (CurrentMove × HomeFields × SearchRecord) :=
  if n.state = .searching then
    match n.current with
    | none => none
    | some m =>
      match m.record.kind, m.search with
      | .home f, some r => some (m, f, r)
      | _, _ => none
  else none

/-- The search record of the current move replaced. -/
def Generator.setSearch (n : Generator) (r : SearchRecord) : Generator := n.modMove fun m => { m with search := some r }

/-- FINAL (R120): the step counter takes the home value and the move ends COMPLETE. -/
def State.searchDone (s : State) (g : GenId) (f : HomeFields) : State :=
  (s.modGen g fun n => { n with counter := f.home }).endMove g .complete

/-- An edge of a reference line at the search of a generator (R117 to R119). -/
def State.refEdgeAt (s : State) (line : RefLine) (rising : Bool) (g : GenId) : State :=
  match (s.gen g).searchNow with
  | none => s
  | some (_, f, r) =>
    if f.line = line then
      match r.phase, rising with
      | .clearing, false =>
        s.modGen g fun n => n.setSearch { r with phase := .seek, motion := f.direction, found := false }
      | .seek, true =>
        if r.found then s
        else
          s.modGen g fun n =>
            n.setSearch { r with found := true, phase := if n.speed ≤ f.creepSpeed then .creep else .seek }
      | .seek, false => if r.found = true ∧ f.markerCount = 0 then State.thenNext (s.failSearch g .overrun) g else s
      | .creep, false => if f.markerCount = 0 then s.searchDone g f else s
      | .clearing, true => s
      | .creep, true => s
      | .final, _ => s
    else s

/-- A rising edge of a marker input at the search of a generator (R119). -/
def State.markerEdgeAt (s : State) (e : Encoder) (g : GenId) : State :=
  match (s.gen g).searchNow with
  | none => s
  | some (_, f, r) =>
    if f.markerAxis = some e ∧ r.phase = .creep ∧ 1 ≤ f.markerCount then
      let t := s.modGen g fun n => n.setSearch { r with markers := r.markers + 1 }
      if r.markers + 1 = f.markerCount then t.searchDone g f else t
    else s

/-! ### Requests -/

/-- The checks of the holder's generator requests: the generator (priority 1), the claim (priority 2). -/
def State.genRequest (s : State) (p : PortId) (gen : Byte) (k : GenId → State × Reply) : State × Reply :=
  match genOf gen with
  | none => (s, .only .badValue)
  | some g => if s.holds p (.generator g) then k g else (s, .only .notOwner)

/-- Configure Generator (R107). -/
def configureGeneratorRequest (p : PortId) (gen : Byte) (maxRate : Word) (stopDecel haltDecel : Half) (sense : Byte)
    (s : State) : State × Reply :=
  s.genRequest p gen fun g =>
    match maxRateOf maxRate, rateOf stopDecel, rateOf haltDecel, senseOf sense with
    | some m, some sd, some hd, some d =>
      if (s.gen g).state = .idle then
        (s.modGen g fun n => { n with maxRate := m, stopDecel := sd, haltDecel := hd, sense := d }, .only .done)
      else (s, .only .busy)
    | _, _, _, _ => (s, .only .badValue)

/-- Set Generator Position (R107). -/
def setGeneratorPositionRequest (p : PortId) (gen : Byte) (value : Word) (s : State) : State × Reply :=
  s.genRequest p gen fun g =>
    match countOf value with
    | none => (s, .only .badValue)
    | some v =>
      if (s.gen g).state = .idle then (s.modGen g fun n => { n with counter := v }, .only .done) else (s, .only .busy)

/-- The record appended and what follows at once (R105): an IDLE generator takes it, a RUNNING VELOCITY move is
marked, a FOLLOW move ends, in ARMED too (log 11). -/
def State.append (s : State) (g : GenId) (r : MoveRecord) : State :=
  let t := s.modGen g fun n => { n with queue := n.queue ++ [r] }
  if (s.gen g).state = .idle then t.nextMove g
  else
    match (s.gen g).current with
    | none => t
    | some m =>
      match m.record.kind with
      | .velocity _ _ _ _ _ _ =>
        if (s.gen g).state = .running then t.modGen g fun n => { n with endByNext := true } else t
      | .follow _ _ _ _ => t.endMove g .endedByNext
      | .position _ _ _ _ _ _ => t
      | .dwell _ => t
      | .home _ => t

/-- Append Move (R105, Table 5.6). -/
def appendMoveRequest (p : PortId) (gen : Byte) (raw : RawMove) (s : State) : State × Reply :=
  s.genRequest p gen fun g =>
    if (s.gen g).halt then (s, .only .halted)
    else if (s.gen g).state = .stopping then (s, .only .busy)
    else
      match moveOf g (s.gen g).maxRate raw with
      | none => (s, .only .badValue)
      | some r =>
        if Config.movePlaces ≤ (s.gen g).queue.length then (s, .only .queueFull)
        else (s.append g r, .done (bytesOf 1 ((s.append g r).gen g).queue.length))

/-- Stop Generator (R103, R104): mode 0 is RAMP, 1 is FINISH (Table 12.5). -/
def stopGeneratorRequest (p : PortId) (gen mode : Byte) (s : State) : State × Reply :=
  s.genRequest p gen fun g =>
    match mode.toNat with
    | 0 => (s.rampStop g, .only .done)
    | 1 => (s.flush g, .only .done)
    | _ => (s, .only .badValue)

/-- Trigger Generator (R106). -/
def triggerGeneratorRequest (p : PortId) (gen : Byte) (s : State) : State × Reply :=
  s.genRequest p gen fun g => if s.halt = .clear then (s.trigger g .request, .only .done) else (s, .only .halted)

/-- The search record in Read Generator (Table 12.6); zeros where there is none (R188). -/
def searchBytes : Option SearchRecord → List Byte
  | none => bytesOf 9 0
  | some r =>
    [r.phase.code, r.motion.code] ++ flagBytes r.found ++ bytesOf 1 r.markers ++ bytesOf 4 r.steps ++
      [(r.mark.map NotFound.code).getD 0]

/-- The steps issued as Read Generator sends them; past four bytes a free value (log 21). -/
def issuedBytes (issued : Nat) : List Byte :=
  bytesOf 4 (if issued < 4294967296 then issued else (Config.issuedBeyond issued).toNat : Nat)

/-- The results of Read Generator (Table 12.6). -/
def Generator.bytes (n : Generator) : List Byte :=
  bytesOf 4 n.maxRate ++ bytesOf 2 n.stopDecel ++ bytesOf 2 n.haltDecel ++ [n.sense.code] ++ bytesOf 4 n.counter ++
    [n.state.code, (n.phase.map Phase.code).getD 0, (n.stopRate.map StopRate.code).getD 0] ++ bytesOf 4 n.speed ++
    [BitVec.ofNat 8
        (n.current.isSome.toNat * 8 + n.endByNext.toNat * 4 + n.pendingTrigger.toNat * 2 + n.halt.toNat)] ++
    moveBytes (n.current.map CurrentMove.record) ++ issuedBytes ((n.current.map CurrentMove.issued).getD 0) ++
    bytesOf 4 (((n.current.bind CurrentMove.remaining).getD 0 : Nat)) ++ bytesOf 1 n.queue.length ++
    n.queue.flatMap (fun r => bytesOf 2 r.tag.toNat) ++ bytesOf 2 n.accumulator ++ bytesOf 1 n.backlog ++
    [n.backlogDir.code] ++ searchBytes (n.current.bind CurrentMove.search)

/-- Read Generator (R112). -/
def readGeneratorRequest (gen : Byte) (s : State) : State × Reply :=
  match genOf gen with
  | none => (s, .only .badValue)
  | some g => (s, .done (s.gen g).bytes)

end Sys2Proof.Machine
end

