-- ==== Sys2Proof/Machine/Counting.lean ====
section
/-! DEFINITION. Count events (chapter 1) and what they reach: captures, the firing of compare entries (chapter 3),
cam evaluation and FOLLOW moves; the events of axis V; the encoder and the velocity gate. -/

namespace Sys2Proof.Machine

/-! ### Captures (R13 to R15) -/

/-- The capture record of an axis at a position, at a device time (section 1.4). -/
def Axis.recordAt (a : Axis) (source : CaptureSource) (position : Int) (now : Word) : CaptureRecord :=
  { source := source, position := position, velocity := a.velocity, time := now }

/-- A record for the log of an axis (R13, R14, R15): appended while the log holds fewer than 8; else lost and
counted, and reported by the first loss since the flag was cleared. Answers whether it was appended. -/
def State.logCapture (s : State) (x : AxisId) (source : CaptureSource) (position : Int) : State × Bool :=
  let a := s.axis x
  if a.log.length < Config.capturePlaces then
    (s.modAxis x fun a => { a with log := a.log ++ [a.recordAt source position s.now] }, true)
  else
    let t := s.modAxis x fun a => { a with lost := count16 (a.lost + 1), lossReported := true }
    (if a.lossReported then t else t.postHolder (.axis x) (.captureLost x source), false)

/-- The arming of an axis that an edge on a source qualifies for (R13). -/
def Axis.armedFor (a : Axis) (source : CaptureSource) (rising : Bool) : Option CaptureArming :=
  match a.arming with
  | none => none
  | some m => if m.source = source ∧ m.edge.takes rising = true then some m else none

/-- The arming with one capture less to take, removed at 0 (R13). -/
def CaptureArming.less (m : CaptureArming) : Option CaptureArming :=
  if m.remaining ≤ 1 then none else some { m with remaining := m.remaining - 1 }

/-- An edge on a capture source at an axis (R13): a qualifying edge logs a record and counts the arming down, with
CAPTURE_DONE when it is removed. -/
def State.captureEdge (s : State) (x : AxisId) (source : CaptureSource) (rising : Bool) : State :=
  match (s.axis x).armedFor source rising with
  | none => s
  | some m =>
    let (t, logged) := s.logCapture x source (s.axis x).extended
    if logged then
      let u := t.modAxis x fun a => { a with arming := m.less }
      if m.less.isNone then u.postHolder (.axis x) (.captureDone x source (u.axis x).log.length) else u
    else t

/-! ### Firing (R53 to R60) -/

/-- An output action of a compare entry (R55): taken where the owner holds the output at the firing. -/
def State.outAction (s : State) (owner : PortId) (o : OutputId) (f : Channel → Channel) : State × CompareResult :=
  if s.holds owner (.output o) then (s.arrive o f, .done) else (s, .skippedNotOwner)

/-- The action of a due entry with its result (R55 to R57). -/
def State.fireAction (s : State) (x : AxisId) (e : CompareEntry) : State × CompareResult :=
  match e.action with
  | .notify => (s, .done)
  | .outHigh o => s.outAction e.owner o Channel.outHigh
  | .outLow o => s.outAction e.owner o Channel.outLow
  | .outPulse o w => s.outAction e.owner o (Channel.outPulse w)
  | .outClear o => s.outAction e.owner o Channel.outClear
  | .triggerGen g => if s.holds e.owner (.generator g) then (s.trigger g .compare, .done) else (s, .skippedNotOwner)
  | .capture => ((s.logCapture x .compare e.target).1, if (s.logCapture x .compare e.target).2 then .done else .logFull)

/-- The disposition of a fired entry, with the entry re-armed where it is (R59). -/
def CompareEntry.settle (e : CompareEntry) (a : Axis) : Disposition × Option CompareEntry :=
  match e.rep with
  | none => (.removed, none)
  | some r =>
    if r.remaining ≤ 1 then (.repeatEnded, none)
    else if a.inRange (e.target + r.step) then
      (.reArmed,
        some
          { e with
            target := e.target + r.step
            rep := some { r with remaining := if 65535 ≤ r.remaining then r.remaining else r.remaining - 1 } })
    else (.rangeEnded, none)

/-- A list after a firing (R59, R60): the entry taken out, and inserted again where it is re-armed. -/
def refile (e : CompareEntry) (again : Option CompareEntry) (l : List CompareEntry) : List CompareEntry :=
  match again with
  | some e' => insertEntry e' (removeId e.id l)
  | none => removeId e.id l

/-- COMPARE_FIRED (R58): the new target and the remaining count go with RE_ARMED only (R188). -/
def CompareEntry.firedNotice (e : CompareEntry) (x : AxisId) (a : Axis) (d : AxisDir) (result : CompareResult)
    (disposition : Disposition) (again : Option CompareEntry) : NoticeKind :=
  match again with
  | some e' =>
    .compareFired e.id e.tag x e.target d e.action result disposition (a.turnOf e'.target) (a.positionOf e'.target)
      ((e'.rep.map CompareRepeat.remaining).getD 0)
  | none => .compareFired e.id e.tag x e.target d e.action result disposition 0 0 0

/-- One due entry fires (R54): the action, the disposition, then the notice to the owner. DESIGN CHOICE (log 26): a notice
that the action brings about at another block (MOVE_STARTED, TRIGGER_LOST, CAPTURE_LOST) is posted before COMPARE_FIRED, where
R164 leaves the postings of different blocks unordered; unsafe for a claim about the order of the two. -/
def State.fire (s : State) (x : AxisId) (d : AxisDir) (e : CompareEntry) : State :=
  let (t, result) := s.fireAction x e
  let (disposition, again) := e.settle (s.axis x)
  (t.setCompareList x (refile e again (t.compareList x))).post e.owner
    (e.firedNotice x (s.axis x) d result disposition again)

/-- The entries of an axis due at an arrival (R53), in list order. -/
def State.dueEntries (s : State) (x : AxisId) (d : AxisDir) : List CompareEntry :=
  (s.compareList x).filter fun e => e.due (s.axis x).extended d

/-- The compare unit's part of a count event (R54): the due entries, fixed at its start, fire in list order. -/
def State.compareEvent (s : State) (x : AxisId) (d : AxisDir) : State :=
  (s.dueEntries x d).foldl (fun t e => t.fire x d e) s

/-! ### The count event (R5 to R9) -/

/-- The direction and the gate accumulation after a count event (R7, R8, R10). -/
def Axis.counted (a : Axis) (d : AxisDir) : Axis :=
  { a with direction := d, accumulation := saturate (a.accumulation + d.count) }

/-- Whether a record is a FOLLOW move of an axis. -/
def MoveRecord.follows (r : MoveRecord) (x : AxisId) : Bool :=
  match r.kind with
  | .follow source _ _ _ => decide (source = x)
  | .position _ _ _ _ _ _ => false
  | .velocity _ _ _ _ _ _ => false
  | .dwell _ => false
  | .home _ => false

/-- Whether a generator could take the event of an axis: its current move or a waiting one follows the axis. -/
def Generator.mayFollow (n : Generator) (x : AxisId) : Bool :=
  (match n.current with
    | some m => m.record.follows x
    | none => false) ||
    n.queue.any fun r => r.follows x

/-- The parts of a count event at the generators (R9). -/
def State.followParts (s : State) (x : AxisId) (d : AxisDir) : List (Bool × (State → State)) :=
  allGens.map fun g => ((s.gen g).mayFollow x, fun t => t.followEvent x d g)

/-- AXIS_OVERRANGE posted (R7). -/
def State.postOverrange (s : State) (x : AxisId) (d : AxisDir) : State :=
  s.broadcast (fun u => u.axisOverrange) (.axisOverrange x (s.axis x).extended d)

/-- One count event taken by an axis (R5 to R9): its own fields, then the cam engine, the compare unit and the
FOLLOW moves, which the axis does not order (log 5). -/
def State.countEvent (s : State) (x : AxisId) (d : AxisDir) : State :=
  let t := s.modAxis x fun a => a.counted d
  match (s.axis x).status, (s.axis x).advance d with
  | .overrange, _ => takeParts (t.followParts x d) t
  | .counting, some (turn, position, rollover) =>
    let u := t.modAxis x fun a => { a with turn := turn, position := position }
    takeParts
      ((rollover && u.anyCommit x, fun v => v.camEvent x rollover) ::
        (!(u.dueEntries x d).isEmpty, fun v => v.compareEvent x d) :: u.followParts x d)
      u
  | .counting, none =>
    let u := t.modAxis x fun a => { a with status := .overrange }
    takeParts
      ((false, fun v => v.evaluateAxis x) :: (true, fun v => v.postOverrange x d) :: u.followParts x d)
      u

/-! ### The events of axis V (R4, R56; log 7) -/

/-- A first step that GV has put off, issued once axis V has taken its event (R56). -/
def State.deferredStep (s : State) : State := if (s.gen .gv).firstStepDue then s.takeStep .gv else s

/-- The count events that GV has handed to axis V taken one after another, each whole (R4, R9), at most as many
turns as the first argument says. -/
def State.drainSteps : Nat → State → State
  | 0, s => s
  | n + 1, s =>
    match s.vEvents with
    | [] => s
    | d :: rest =>
      let t := State.countEvent { s with vEvents := rest, vTaking := true } .v d
      State.drainSteps n (State.deferredStep { t with vTaking := false })

/-- Every count event of axis V that a command has brought about, taken. Each move that starts on the way gives one
first step, and no record is appended meanwhile, so that the bound is never reached. DESIGN CHOICE (log 27): they are taken
after every other part of the command, where R9, R54, R143 and R164 leave the order open; unsafe for a claim about that order. -/
def State.drain (s : State) : State :=
  State.drainSteps (s.vEvents.length + (s.gen .gv).queue.length + 2) s

/-! ### The encoder and the gate -/

/-- New levels on both lines of a pair (R3): the decoder takes them as its starting point, and a change of one line
is a count event. DESIGN CHOICE (log 27): where a firing of that event starts a move of GV, the count event of V from the
move's first step comes after the later due entries, the cam engine and the FOLLOW moves, which R54 does not say. -/
def State.encoderLevels (s : State) (e : Encoder) (new : EncoderLines) : State :=
  let t : State := { s with lines := s.lines.setPair e new }
  match quadrature (s.lines.pair e) new with
  | none => t
  | some d => (t.countEvent e.axis ((s.axis e.axis).sense.event d)).drain

/-- The fields of an axis after a gate expiry (R10, points 1 to 3). -/
def Axis.gated (a : Axis) : Axis :=
  { a with velocity := velocityEstimate a.accumulation a.gateTime, accumulation := 0, gateLeft := a.gateTime }

/-- The expiry of the gate timer of an axis, once it has run out (R10); before that, nothing (log 3). -/
def State.gateExpires (s : State) (x : AxisId) : State :=
  if (s.axis x).gateLeft = 0 then (s.modAxis x Axis.gated).evaluateAxis x else s

end Sys2Proof.Machine
end

