-- ==== Sys2Proof/Machine/Axes.lean ====
section
/-! DEFINITION. The five axis requests (chapter 1). -/

namespace Sys2Proof.Machine

/-- The checks of the holder's axis requests: the axis (priority 1), the axis claim (priority 2). -/
def State.axisRequest (s : State) (p : PortId) (axis : Byte) (k : AxisId → State × Reply) : State × Reply :=
  match axisOf axis with
  | none => (s, .only .badValue)
  | some x => if s.holds p (.axis x) then k x else (s, .only .notOwner)

/-- The count sense of a Configure Axis, valid on an axis: V is never INVERTED (R4, Table 1.4). -/
def axisSenseOf (x : AxisId) (b : Byte) : Option Sense :=
  match senseOf b with
  | none => none
  | some d => if x = .v ∧ d = .inverted then none else some d

/-- Whether a window slot, a compare entry or a pending commit refers to an axis (Table 1.4, priority 4). -/
def State.axisReferred (s : State) (x : AxisId) : Bool :=
  (s.slots.toList.any fun w => decide (w.status ≠ .free) && decide (w.axis = x)) || !(s.compareList x).isEmpty ||
    s.anyCommit x

/-- The gate restarted (R11): the accumulation becomes 0 and the timer starts a full gate time. -/
def Axis.restartGate (a : Axis) : Axis := { a with accumulation := 0, gateLeft := a.gateTime }

/-- An axis configured (R17). -/
def Axis.configured (a : Axis) (mode : AxisMode) (cycle : Nat) (sense : Sense) (gate : Nat) : Axis :=
  Axis.restartGate
    { a with
      mode := mode, cycle := cycle, sense := sense, gateTime := gate, position := 0, turn := 0, status := .counting,
      velocity := 0 }

/-- Configure Axis (R17, Table 1.4). -/
def configureAxisRequest (p : PortId) (axis mode : Byte) (cycle : Word) (sense : Byte) (gate : Half) (s : State) :
    State × Reply :=
  s.axisRequest p axis fun x =>
    match axisModeOf mode, cycleOf cycle, axisSenseOf x sense, gateOf gate with
    | some m, some l, some d, some g =>
      if s.axisReferred x then (s, .only .busy) else (s.modAxis x fun a => a.configured m l d g, .only .done)
    | _, _, _, _ => (s, .only .badValue)

/-- An axis preset (R18). -/
def Axis.preset (a : Axis) (turn position : Int) : Axis :=
  Axis.restartGate { a with turn := turn, position := position, status := .counting }

/-- Preset Axis (R18, Table 1.5): the windows on the axis are evaluated at once; no compare, no commit and no FOLLOW
move hears of it. -/
def presetAxisRequest (p : PortId) (axis : Byte) (turn : Half) (position : Word) (s : State) : State × Reply :=
  s.axisRequest p axis fun x =>
    if (s.axis x).validPlace turn.toInt position.toInt then
      ((s.modAxis x fun a => a.preset turn.toInt position.toInt).evaluateAxis x, .only .done)
    else (s, .only .badValue)

/-- The results of Read Axis (Table 12.6). -/
def Axis.bytes (a : Axis) : List Byte :=
  [a.mode.code] ++ bytesOf 4 a.cycle ++ [a.sense.code] ++ bytesOf 4 a.position ++ bytesOf 2 a.turn ++
    bytesOf 5 a.extended ++ [a.direction.code, a.status.code] ++ bytesOf 4 a.velocity ++ bytesOf 2 a.gateTime

/-- Read Axis (R19). -/
def readAxisRequest (axis : Byte) (s : State) : State × Reply :=
  match axisOf axis with
  | none => (s, .only .badValue)
  | some x => (s, .done (s.axis x).bytes)

/-- The source of an Arm Capture, valid on an axis: V has no marker (Table 1.3). -/
def axisSourceOf (x : AxisId) (b : Byte) : Option CaptureSource :=
  match armSourceOf b with
  | none => none
  | some source => if x = .v ∧ source = .marker then none else some source

/-- The count of an Arm Capture (R12). -/
def armCountOf (b : Byte) : Option Nat := if 1 ≤ b.toNat ∧ b.toNat ≤ 8 then some b.toNat else none

/-- Arm Capture (R12, Table 1.3). -/
def armCaptureRequest (p : PortId) (axis source edge count : Byte) (s : State) : State × Reply :=
  s.axisRequest p axis fun x =>
    match axisSourceOf x source, edgeOf edge, armCountOf count with
    | some c, some e, some n =>
      (s.modAxis x fun a => { a with arming := some { source := c, edge := e, remaining := n } }, .only .done)
    | _, _, _ => (s, .only .badValue)

/-- A capture record in Read Captures (Table 12.6). -/
def CaptureRecord.bytes (r : CaptureRecord) : List Byte :=
  [r.source.code] ++ bytesOf 5 r.position ++ bytesOf 4 r.velocity ++ bytesOf 4 r.time.toNat

/-- Read Captures (R16): the log is emptied, the lost count and the flag are cleared. -/
def readCapturesRequest (p : PortId) (axis : Byte) (s : State) : State × Reply :=
  s.axisRequest p axis fun x =>
    let a := s.axis x
    (s.modAxis x fun a => { a with log := [], lost := 0, lossReported := false },
      .done (bytesOf 1 a.log.length ++ bytesOf 2 a.lost ++ a.log.flatMap CaptureRecord.bytes))

end Sys2Proof.Machine
end

