-- ==== Sys2Proof/Machine/Edges.lean ====
section
/-! DEFINITION. Edges of the marker and reference lines: captures (R13) and reference searches (R117 to R123). -/

namespace Sys2Proof.Machine

/-- Whether an edge of a source is a capture at an axis (R13). -/
def State.captures (s : State) (x : AxisId) (source : CaptureSource) (rising : Bool) : Bool :=
  ((s.axis x).armedFor source rising).isSome

/-- A change of MKA or MKB to a level (R13, R119): a capture at the encoder's axis and, where it rises, a marker
edge at every search, not ordered among themselves (R123, log 5). A step of GV that an ended search brings about moves
axis V after all of them (log 24). A level the line already has is no edge. -/
def State.markerLevel (s : State) (e : Encoder) (active : Bool) : State :=
  if s.lines.marker e = active then s
  else
    let t : State := { s with lines := s.lines.setMarker e active }
    let searches : List (Bool × (State → State)) :=
      if active then allGens.map fun g => ((t.gen g).searchNow.isSome, fun u => u.markerEdgeAt e g) else []
    (takeParts
      ((t.captures e.axis .marker active, fun u => u.captureEdge e.axis .marker active) :: searches) t).drain

/-- A change of a reference line to a level (R13, R117 to R119, R123): a capture at every axis armed on it and an
edge at every search, not ordered among themselves (log 5). A step of GV that an ended search brings about moves axis V
after all of them, V's own capture of the edge among them (log 24). A level the line already has is no edge. -/
def State.refLevel (s : State) (l : RefLine) (high : Bool) : State :=
  if s.lines.ref l = high then s
  else
    let t : State := { s with lines := s.lines.setRef l high }
    let captures : List (Bool × (State → State)) :=
      allAxes.map fun x => (t.captures x (.ref l) high, fun u => u.captureEdge x (.ref l) high)
    let searches : List (Bool × (State → State)) :=
      allGens.map fun g => ((t.gen g).searchNow.isSome, fun u => u.refEdgeAt l high g)
    (takeParts (captures ++ searches) t).drain

end Sys2Proof.Machine
end

