-- ==== Sys2Proof/Machine/Halt.lean ====
section
/-! DEFINITION. The halt monitor (chapter 7). -/

namespace Sys2Proof.Machine

/-- Whether halt is in force in a halt state (R126). -/
def HaltState.inForce : HaltState → Bool
  | .clear => false
  | .active => true
  | .latched => true

/-- Whether the order in which a generator takes a change of halt state can be seen: it posts nothing while it has no
move, no record and a claim that is not RELEASING. -/
def State.haltVisible (s : State) (g : GenId) : Bool :=
  (s.gen g).current.isSome || !(s.gen g).queue.isEmpty || decide ((s.claim (.generator g)).state = .releasing)

/-- Every receiver of a change of the halt state (R127). -/
def allReceivers : List HaltReceiver :=
  (List.finRange 16).map HaltReceiver.output ++ allGens.map HaltReceiver.generator

/-- The place of a receiver among them all. -/
def HaltReceiver.place : HaltReceiver → Nat
  | .output o => o.val
  | .generator .g1 => 16
  | .generator .g2 => 17
  | .generator .gv => 18

/-- The receivers that have still to take a change when its command is over: any of them (R127, log 19). -/
def lateReceivers (mask : Nat) : List HaltReceiver := allReceivers.filter fun r => mask.testBit r.place

/-- The generators' parts of a change of halt in force (R108, R109). -/
def State.haltParts (s : State) (receivers : List HaltReceiver) (inForce : Bool) : List (Bool × (State → State)) :=
  (allGens.filter fun g => decide (HaltReceiver.generator g ∈ receivers)).map fun g =>
    (s.haltVisible g, fun t => if inForce then t.haltEntry g else t.haltClear g)

/-- The response to the Clear Halt whose change every receiver has now taken (R129). -/
def State.answerClear (s : State) : State :=
  match s.clearing with
  | none => s
  | some p =>
    match (s.port p).intake with
    | [] => { s with clearing := none }
    | h :: _ =>
      State.respond { s with clearing := none } p
        { seq := h.seq, body := [0x71, Status.done.code, HaltState.code .clear], closes := false }

/-- A hand-over that is under way going on (R127): of the receivers that have still to take the change, all but the late ones
take it, in no stated order among themselves (log 5). Once none is left, the response to a Clear Halt that waits for them is
sent (R129). -/
def State.handOn (s : State) (late : List HaltReceiver) : State :=
  let first := s.handing.filter fun r => decide (r ∉ late)
  let t := State.channelsTakeHalt { s with handing := s.handing.filter fun r => decide (r ∈ late) } first s.halt.inForce
  let u := takeParts (t.haltParts first s.halt.inForce) t
  if u.handing = [] then u.answerClear else u

/-- The end of a hand-over that is under way: every receiver takes the change before the monitor takes the next event of the
line or the next Clear Halt (R127). -/
def State.completeHandOver (s : State) : State := if s.handing = [] then s else s.handOn []

/-- A hand-over that is under way as time passes (R127): of the receivers that have still to take the change some do, one at
least, and which is a free choice (log 19). -/
def State.continueHandOver (s : State) : State :=
  if s.handing = [] then s
  else
    let late := s.handing.filter fun r => decide (r ∈ lateReceivers (Config.freeOrder s.choices))
    State.handOn { s with choices := s.choices + 1 } (if late = s.handing then [] else late)

/-- A change of the halt state (R126 to R128), every receiver having taken the one before. HALT_CHANGED is posted, and the
channels and generators take the change where it is one of halt in force (Table 7.2), in no stated order among themselves
(log 5): some with the change, and the others, a free choice, later (R127, log 19). -/
def State.haltChange (s : State) (new : HaltState) (cause : HaltCause) (station : Nat) : State :=
  let posted (u : State) : State := u.broadcast (fun w => w.haltChanged) (.haltChanged new s.halt cause station)
  if s.halt.inForce = new.inForce then posted { s with halt := new }
  else
    let late := lateReceivers (Config.freeOrder s.choices)
    let first := allReceivers.filter fun r => decide (r ∉ late)
    let t := State.channelsTakeHalt { s with halt := new, handing := late, choices := s.choices + 1 } first new.inForce
    takeParts ((true, posted) :: t.haltParts first new.inForce) t

/-- The HALT line going from high to low (Table 7.1), once every receiver has taken the change before (R127); in ACTIVE the
line stands there already (log 2). -/
def State.haltAsserted (s : State) : State :=
  match s.halt with
  | .clear =>
    let t := s.completeHandOver
    State.haltChange { t with lines := { t.lines with haltAsserted := true } } .active .lineAsserted 0
  | .latched =>
    let t := s.completeHandOver
    State.haltChange { t with lines := { t.lines with haltAsserted := true } } .active .lineAsserted 0
  | .active => s

/-- The HALT line going from low to high (Table 7.1), once every receiver has taken the change before (R127); in CLEAR and
LATCHED the line stands there already (log 2). -/
def State.haltReleased (s : State) : State :=
  match s.halt with
  | .active =>
    let t := s.completeHandOver
    State.haltChange { t with lines := { t.lines with haltAsserted := false } } .latched .lineReleased 0
  | .clear => s
  | .latched => s

/-- Read Halt (R131): the number of the halt state (Table 12.5). -/
def readHaltRequest (s : State) : State × Reply := (s, .done [s.halt.code])

/-- Clear Halt (R129, Table 7.3), once every receiver has taken the change before (R127): its state byte goes with HALTED as
with DONE (R188). -/
def clearHaltRequest (p : PortId) (s : State) : State × Reply :=
  let t := s.completeHandOver
  match t.halt with
  | .active => (t, { status := .halted, results := [HaltState.code .active] })
  | .latched => (t.haltChange .clear .cleared (t.station p), .done [HaltState.code .clear])
  | .clear => (t, .done [HaltState.code .clear])

end Sys2Proof.Machine
end

