-- ==== Sys2Proof/Machine/Sessions.lean ====
section
/-! DEFINITION. Sessions and leases (chapter 9) and the notice queues of sessions (chapter 10): the session requests,
Acknowledge Notices, the session end, and the lease and resend timers. -/

namespace Sys2Proof.Machine

/-! ### The session end (R157 to R160) -/

/-- The session table's and the notice unit's part of a session end, with the cache (R157, R158, R173, R183). -/
def Port.ended (q : Port) : Port := { q with session := Session.closed, notices := NoticeQueue.fresh, cache := none }

/-- A claim record without a session among its waiters (R144). -/
def Claim.dropWaiter (p : PortId) (c : Claim) : Claim := { c with waiters := c.waiters.filter fun w => decide (w ≠ p) }

/-- Every record of the claim table changed by a function. -/
def ClaimTable.mapAll (f : Claim → Claim) (t : ClaimTable) : ClaimTable :=
  { outputs := mapVector f t.outputs
    gens := { g1 := f t.gens.g1, g2 := f t.gens.g2, gv := f t.gens.gv }
    axes := { a := f t.axes.a, b := f t.axes.b, v := f t.axes.v } }

/-- A session removed from every wait list (R144). -/
def State.dropWaits (s : State) (p : PortId) : State := { s with claims := s.claims.mapAll (Claim.dropWaiter p) }

/-- A claim of an ended session that is handed on at once (R142): the cleanup, then the hand-over. -/
def State.passOn (s : State) (r : Resource) (station : Nat) : State := (s.cleanup r).handOver r station .sessionEnded

/-- A generator claim of an ended session made RELEASING, with the owner-loss stop (R110, R143). -/
def State.loseOwner (s : State) (g : GenId) (station : Nat) : State :=
  State.rampStop
    (s.setClaim (.generator g)
      { state := .releasing, owner := none, former := station, waiters := (s.claim (.generator g)).waiters }) g

/-- The claim table's part of a session end at one record (R142, R143). -/
def State.endClaim (p : PortId) (station : Nat) (s : State) (r : Resource) : State :=
  if s.holds p r then
    match r with
    | .output o => s.passOn (.output o) station
    | .axis x => s.passOn (.axis x) station
    | .generator g => if (s.gen g).state = .idle then s.passOn (.generator g) station else s.loseOwner g station
  else s

/-- The end of the session of a port (R157 to R159): its record becomes NONE, SESSION_ENDED is posted to the other
sessions, and the blocks take their parts, the claim table in the order of the resource ids. The end is one whole: no count
event falls between two parts, so that no entry of the session fires while a claim of it is RELEASING (R56; log 19). -/
def State.endSession (s : State) (p : PortId) (cause : SessionCause) : State :=
  let station := s.station p
  let t := (s.modPort p Port.ended).broadcast (fun u => u.sessionEnded) (.sessionEnded station p cause)
  allResources.foldl (State.endClaim p station) (((t.dropCommits p).dropEntries p).dropWaits p)

/-! ### The lease (R149, R150) -/

/-- The lease restarted by a complete request frame (R149). -/
def Session.restartLease (x : Session) : Session :=
  if x.isOpen && !x.closing then { x with leaseLeft := some x.lease } else x

/-- The expiry of the lease timer of a port's session, once it has run out (R150); before that, nothing (log 3). -/
def State.leaseExpires (s : State) (p : PortId) : State :=
  if (s.session p).isOpen = true ∧ (s.session p).leaseLeft = some 0 then s.endSession p .lapsed else s

/-! ### The session requests -/

/-- Whether another port's open session holds a station (R151). -/
def State.stationInUse (s : State) (p : PortId) (station : Nat) : Bool :=
  allPorts.any fun q => decide (q ≠ p) && (s.session q).isOpen && decide ((s.session q).station = station)

/-- The session opened on a port, with its notice queue (R151, R173). -/
def Port.opened (q : Port) (station lease : Nat) (subs : Subscriptions) : Port :=
  { q with
    session :=
      { isOpen := true, station := station, lease := lease, leaseLeft := some lease, subs := subs, closing := false }
    notices := NoticeQueue.fresh }

/-- Open Session (R151, R152, Table 9.3). -/
def openSessionRequest (p : PortId) (station : Byte) (lease : Half) (subscriptions : Byte) (s : State) : State × Reply :=
  match stationOf station, leaseOf lease, subscriptionsOf subscriptions with
  | some n, some l, some u =>
    if s.stationInUse p n then (s, .only .stationInUse)
    else (s.modPort p fun q => q.opened n l u, .done ([1, 0, 48, 32, 8, 24, 22] ++ bytesOf 1 n ++ bytesOf 2 l))
  | _, _, _ => (s, .only .badValue)

/-- Close Session (R153): the lease timer stops; the session ends with the response frame. -/
def closeSessionRequest (p : PortId) (s : State) : State × Reply :=
  (s.modSession p fun x => { x with leaseLeft := none, closing := true }, .only .done)

/-- Renew (R154). -/
def renewRequest (s : State) : State × Reply := (s, .only .done)

/-- Set Subscriptions (R155). -/
def setSubscriptionsRequest (p : PortId) (subscriptions : Byte) (s : State) : State × Reply :=
  match subscriptionsOf subscriptions with
  | none => (s, .only .badValue)
  | some u => (s.modSession p fun x => { x with subs := u }, .only .done)

/-- The session's part of Read Port Status: zeros where the port is NONE (R156). -/
def Port.statusBytes (q : Port) : List Byte :=
  if q.session.isOpen then
    [1] ++ bytesOf 1 q.session.station ++ bytesOf 2 q.session.lease ++ bytesOf 1 q.notices.items.length ++
      bytesOf 2 q.notices.lost
  else bytesOf 7 0

/-- The five fault counters in Read Port Status (Table 12.6). -/
def Faults.bytes (f : Faults) : List Byte :=
  bytesOf 2 f.gapAbort ++ bytesOf 2 f.length ++ bytesOf 2 f.crc ++ bytesOf 2 f.foreign ++ bytesOf 2 f.overrun

/-- Read Port Status (R156): the fault counters are returned and set to 0. -/
def readPortStatusRequest (p : PortId) (s : State) : State × Reply :=
  (s.modPort p fun q => { q with faults := Faults.zero }, .done ((s.port p).faults.bytes ++ (s.port p).statusBytes))

/-! ### Acknowledgement and resending (R169 to R171) -/

/-- The queue with its oldest notices removed, the resend timer following (R169, R171). -/
def NoticeQueue.remove (q : NoticeQueue) (n : Nat) : NoticeQueue := NoticeQueue.followResend { q with items := q.items.drop n }

/-- Acknowledge Notices (R169, Table 10.2). -/
def acknowledgeNoticesRequest (p : PortId) (number : Half) (s : State) : State × Reply :=
  let q := (s.port p).notices
  match q.items.findIdx? fun n => decide (n.number = number.toNat) with
  | some i =>
    if ((q.items[i]?).bind Notice.sentAt).isSome then
      ((s.modPort p fun t => { t with notices := t.notices.remove (i + 1) }).offer p,
        .done (bytesOf 1 (i + 1 : Nat) ++ bytesOf 1 (q.items.length - (i + 1) : Nat)))
    else (s, .only .badValue)
  | none =>
    if number.toNat = 0 then (s, .only .badValue)
    else if q.posted number.toNat then (s, .done (bytesOf 1 0 ++ bytesOf 1 q.items.length))
    else (s, .only .badValue)

/-- The queue after an expiry of its resend timer (R171): every SENT notice is UNSENT, and the timer stands until
one is sent again. -/
def NoticeQueue.resend (q : NoticeQueue) : NoticeQueue :=
  NoticeQueue.followResend { q with items := q.items.map fun n => { n with sentAt := none } }

/-- The expiry of the resend timer of a port's session, once it is due (R171); before that, nothing (log 3). -/
def State.resendExpires (s : State) (p : PortId) : State :=
  match (s.port p).notices.resendAt with
  | none => s
  | some due =>
    if reached s.now due then (s.modPort p fun q => { q with notices := q.notices.resend }).offer p else s

end Sys2Proof.Machine
end

