-- ==== Sys2Proof/Machine/FieldEvents.lean ====
section
/-! DEFINITION. The clocks and the steps of the part, the events of its field lines and clocks by their commands, and Read
Outputs, which such an event may reach while it reads (R80). -/

namespace Sys2Proof.Machine

/-! ### The clocks -/

/-- The gate timer of an axis a millisecond on (R10). -/
def Axis.millisecond (a : Axis) : Axis := { a with gateLeft := a.gateLeft - 1 }

/-- The pulse timer of a channel a millisecond on (R72). -/
def Channel.millisecond (c : Channel) : Channel := { c with pulse := c.pulse.map fun n => n - 1 }

/-- The ramp and dwell timers of a generator a millisecond on (R93, R101). -/
def Generator.millisecond (n : Generator) : Generator :=
  { n with rampLeft := n.rampLeft.map fun k => k - 1, dwellLeft := n.dwellLeft.map fun k => k - 1 }

/-- The lease timer of a port's session a millisecond on (R149). -/
def Port.millisecond (q : Port) : Port :=
  { q with session := { q.session with leaseLeft := q.session.leaseLeft.map fun n => n - 1 } }

/-- The device millisecond count incremented, wrapping, and every running timer a millisecond nearer to its expiry
(R162, log 3). -/
def State.tick (s : State) : State :=
  { s with
    now := s.now + 1
    axes := { a := s.axes.a.millisecond, b := s.axes.b.millisecond, v := s.axes.v.millisecond }
    channels := mapVector Channel.millisecond s.channels
    gens := { g1 := s.gens.g1.millisecond, g2 := s.gens.g2.millisecond, gv := s.gens.gv.millisecond }
    ports := { p1 := s.ports.p1.millisecond, p2 := s.ports.p2.millisecond, p3 := s.ports.p3.millisecond } }

/-- A device millisecond (R162): a change of the halt state that is being handed on goes on to more of its receivers
(log 19). -/
def State.millisecond (s : State) : State := s.continueHandOver.tick

/-! ### The steps and their timers -/

/-- A step of a moving generator, with the count events of axis V that follow (R93, R4). DESIGN CHOICE (log 27): they follow
the end of GV's move also where that hands on a RELEASING claim (R143), whose CLAIM_GRANTED or CLAIM_FREED so comes before
COMPARE_FIRED, COMMIT_DONE and AXIS_OVERRANGE of V's event; R164 leaves the order open. -/
def State.stepNow (s : State) (g : GenId) : State := if (s.gen g).state.moving then (s.takeStep g).drain else s

/-- A step of a FOLLOW backlog that is not empty (R99). -/
def State.backlogStep (s : State) (g : GenId) : State :=
  if (s.gen g).state = .following ∧ 0 < (s.gen g).backlog then (s.takeStep g).drain else s

/-- The expiry of a ramp timer that has run out, in a state that keeps one (R93). -/
def State.rampExpires (s : State) (g : GenId) : State :=
  if (s.gen g).state.moving = true ∧ (s.gen g).rampLeft = some 0 then (s.rampTick g).drain else s

/-- The expiry of a dwell timer that has run out (R101): the move ends COMPLETE. -/
def State.dwellExpires (s : State) (g : GenId) : State :=
  if (s.gen g).state = .dwelling ∧ (s.gen g).dwellLeft = some 0 then (s.endMove g .complete).drain else s

/-! ### Read Outputs (R80) -/

/-- What the event of a field line or of a clock does; none for COLD_RESET and for a command of a port. -/
def fieldEvent : Instr → Option (State → State)
  | .encoderTransition e phase1 phase2 => some fun s => s.encoderLevels e { phase1 := phase1, phase2 := phase2 }
  | .gateExpiry x => some fun s => s.gateExpires x
  | .markerEdge e active => some fun s => s.markerLevel e active
  | .referenceLineEdge l high => some fun s => s.refLevel l high
  | .generatorStep g => some fun s => s.stepNow g
  | .followBacklogStep g => some fun s => s.backlogStep g
  | .rampTimerExpiry g => some fun s => s.rampExpires g
  | .dwellTimerExpiry g => some fun s => s.dwellExpires g
  | .pulseTimerExpiry o => some fun s => s.pulseExpires o
  | .haltAssertion => some State.haltAsserted
  | .haltRelease => some State.haltReleased
  | .leaseExpiry p => some fun s => s.leaseExpires p
  | .deviceMillisecondIncrement => some State.millisecond
  | _ => none

/-- The event that is next in the queue, and so may come about while a request reads (R80, log 19). -/
def State.nextEvent (s : State) : Option (State → State) := s.pending.head?.bind fieldEvent

/-- The results of Read Outputs (R80, Table 12.6): halt in force, that of a channel (R131), and the sixteen records, each
read before or after an event that leads to `later`: after it where the bit of its output is set in `mask`. Bit 16 says so of
halt in force, and the bits above it whose copy that is. -/
def State.outputsBytes (s later : State) (mask : Nat) : List Byte :=
  flagBytes ((if mask.testBit 16 then later else s).channel (Fin.ofNat 16 (mask / 131072))).halt ++
    (List.finRange 16).flatMap fun o => (if mask.testBit o.val then later else s).channelBytes o

/-- Read Outputs (R80). It takes the sixteen channels one after another and is not ordered against arrivals at different
channels: which of its parts are read before the event that is next in the queue, and which after it, is a free value
(log 19), and so is the channel whose halt in force is returned where some have still to take a change (R127). With neither,
all are of this moment. The event is taken with the free choices it finds after this one, the same as when its own command
runs: a part read after it is as the event then leaves it. -/
def readOutputsRequest (s : State) : State × Reply :=
  let chosen : State := { s with choices := s.choices + 1 }
  let free (later : State) : State × Reply := (chosen, .done (s.outputsBytes later (Config.freeOrder s.choices)))
  match s.nextEvent, s.handing with
  | none, [] => (s, .done (s.outputsBytes s 0))
  | none, _ :: _ => free s
  | some event, _ => free (event chosen)

end Sys2Proof.Machine
end

