-- ==== Sys2Proof/Machine/Link.lean ====
section
/-! DEFINITION. The port transport (chapter 11): the receiver, the intake queue, the taking of requests with the
common checks (Table 9.2), the retransmission cache, the transmitter and the link break. -/

namespace Sys2Proof

/-- Whether a request needs the port's session (R148). -/
def Request.needsSession : Request → Bool
  | .openSession _ _ _ => false
  | .readPortStatus => false
  | _ => true

/-- Whether a request is Open Session (R148). -/
def Request.opens : Request → Bool
  | .openSession _ _ _ => true
  | _ => false

end Sys2Proof

namespace Sys2Proof.Machine

/-! ### Taking a request (R148, R181, R182) -/

/-- The owning block's part of a request that has passed the common checks (R148). -/
def State.perform (s : State) (p : PortId) (r : Request) : State × Reply :=
  match r with
  | .unknown _ => (s, .only .unknownRequest)
  | .badLength _ => (s, .only .badLength)
  | .openSession station lease subs => openSessionRequest p station lease subs s
  | .closeSession => closeSessionRequest p s
  | .renew => renewRequest s
  | .readPortStatus => readPortStatusRequest p s
  | .setSubscriptions subs => setSubscriptionsRequest p subs s
  | .acknowledgeNotices n => acknowledgeNoticesRequest p n s
  | .claim r w => claimRequest p r w s
  | .release r => releaseRequest p r s
  | .cancelWait r => cancelWaitRequest p r s
  | .readClaims => readClaimsRequest s
  | .configureAxis x m l d g => configureAxisRequest p x m l d g s
  | .presetAxis x t pos => presetAxisRequest p x t pos s
  | .readAxis x => readAxisRequest x s
  | .armCapture x source edge count => armCaptureRequest p x source edge count s
  | .readCaptures x => readCapturesRequest p x s
  | .defineWindow x o w => defineWindowRequest p x o w s
  | .editWindow i w => editWindowRequest p i w s
  | .deleteWindow i => deleteWindowRequest p i s
  | .commitWindows x t => commitWindowsRequest p x t s
  | .cancelCommit x => cancelCommitRequest p x s
  | .readWindow i => readWindowRequest i s
  | .queueCompare f => queueCompareRequest p f s
  | .withdrawCompare id => withdrawCompareRequest p id s
  | .readCompares x i => readComparesRequest x i s
  | .setOutputMode o m => setOutputModeRequest p o m s
  | .setOutputLevel o l => setOutputLevelRequest p o l s
  | .setFallback o l => setFallbackRequest p o l s
  | .pulseOutput o w => pulseOutputRequest p o w s
  | .clearOverlay o => clearOverlayRequest p o s
  | .readOutputs => readOutputsRequest s
  | .configureGenerator g m sd hd d => configureGeneratorRequest p g m sd hd d s
  | .appendMove g m => appendMoveRequest p g m s
  | .stopGenerator g m => stopGeneratorRequest p g m s
  | .triggerGenerator g => triggerGeneratorRequest p g s
  | .setGeneratorPosition g v => setGeneratorPositionRequest p g v s
  | .readGenerator g => readGeneratorRequest g s
  | .readHalt => readHaltRequest s
  | .clearHalt => clearHaltRequest p s

/-- The common check a request fails (Table 9.2); none where it passes them all. -/
def State.commonCheck (s : State) (p : PortId) (r : Request) : Option Status :=
  match r with
  | .unknown _ => some .unknownRequest
  | .badLength _ => some .badLength
  | _ =>
    if (s.session p).isOpen then (if r.opens then some .sessionActive else none)
    else if r.needsSession then some .noSession
    else none

/-- A request checked and acted on as one whole (R148, R181), with the count events of axis V it brings about. -/
def State.answer (s : State) (p : PortId) (r : Request) : State × Reply :=
  match s.commonCheck p r with
  | some st => (s, .only st)
  | none => ((s.perform p r).1.drain, (s.perform p r).2)

/-- Whether an answered request is a Close Session that has passed its checks (R153). -/
def closesWith (r : Request) (st : Status) : Bool := decide (r = .closeSession) && decide (st = .done)

/-- The body of a response (R188): the echoed code, the status, the results. -/
def responseBody (r : Request) (reply : Reply) : List Byte := [r.code, reply.status.code] ++ reply.results

/-- Whether the response to a request waits: that to a Clear Halt is sent once every receiver has taken the change (R129). -/
def State.awaitsHandOver (s : State) (r : Request) (st : Status) : Bool :=
  decide (r = .clearHalt) && decide (st = .done) && !s.handing.isEmpty

/-- A request taken (R181): its answer is composed, remembered and handed to the transmitter, that of a Clear Halt once its
change has been taken (R129). -/
def State.takeRequest (s : State) (p : PortId) (seq : Byte) (r : Request) : State :=
  let (t, reply) := s.answer p r
  let closes := closesWith r reply.status
  let u := t.remember p seq (responseBody r reply) closes
  if t.awaitsHandOver r reply.status then { u with clearing := some p }
  else u.respond p { seq := seq, body := responseBody r reply, closes := closes }

/-- The response the cache holds for a SEQ (R182). -/
def Port.cached (q : Port) (seq : Byte) : Option (List Byte) :=
  match q.cache with
  | none => none
  | some c => if c.seq = seq then some c.body else none

/-- The head of the intake queue taken (R181): answered from the cache where it holds the head's SEQ. -/
def State.serveHead (s : State) (p : PortId) : State :=
  match (s.port p).intake with
  | [] => s
  | h :: _ =>
    match (s.port p).cached h.seq with
    | some body => s.respond p { seq := h.seq, body := body, closes := false }
    | none => s.takeRequest p h.seq h.request

/-! ### A complete request frame (R149, R180) -/

/-- An intact request frame (R178): the lease restarts, and the request joins the intake queue, to be taken at once
where the queue was empty, or is dropped as an overrun (R180). -/
def State.deliver (s : State) (p : PortId) (seq : Byte) (r : Request) : State :=
  let t := s.modSession p Session.restartLease
  match (s.port p).intake with
  | [] => (t.modPort p fun q => { q with intake := [{ seq := seq, request := r }] }).serveHead p
  | [h] => t.modPort p fun q => { q with intake := [h, { seq := seq, request := r }] }
  | _ :: _ :: _ => t.modPort p fun q => { q with faults := { q.faults with overrun := count16 (q.faults.overrun + 1) } }

/-- The request frame of a request row (log 1): complete and intact, on a port whose line is not at space. -/
def State.arrival (s : State) (p : PortId) (seq : Byte) (r : Request) : State :=
  if (s.port p).atSpace then s else s.deliver p seq r

/-! ### The receiver (R177, R178) -/

/-- A port whose receiver is in a state. -/
def Port.receiving (q : Port) (rx : Receiver) : Port := { q with rx := rx }

/-- A fault counter of a port counted, the receiver in HUNT (R178). -/
def Port.discard (q : Port) (count : Faults → Faults) : Port := { q with rx := .hunt, faults := count q.faults }

/-- The gap-abort counter (Table 11.4). -/
def Faults.countGap (f : Faults) : Faults := { f with gapAbort := count16 (f.gapAbort + 1) }

/-- The length counter (Table 11.4). -/
def Faults.countLength (f : Faults) : Faults := { f with length := count16 (f.length + 1) }

/-- The CRC counter (Table 11.4). -/
def Faults.countCrc (f : Faults) : Faults := { f with crc := count16 (f.crc + 1) }

/-- The foreign counter (Table 11.4). -/
def Faults.countForeign (f : Faults) : Faults := { f with foreign := count16 (f.foreign + 1) }

/-- A complete frame judged (R178): the CRC first, then the type; the receiver is in HUNT after it. -/
def State.judge (s : State) (p : PortId) (type seq len : Byte) (body : List Byte) (crc : Half) : State :=
  if crc16 ([type, seq, len] ++ body) ≠ crc then s.modPort p fun q => q.discard Faults.countCrc
  else if type ≠ typeRequest then s.modPort p fun q => q.discard Faults.countForeign
  else (s.modPort p fun q => q.receiving .hunt).deliver p seq (Request.ofBody body)

/-- The state of the receiver after LEN (Table 11.3). -/
def afterLen (type seq len : Byte) : Receiver :=
  if len.toNat = 0 then .checkHigh type seq len [] else .body type seq len []

/-- The state of the receiver after a body byte (Table 11.3). -/
def afterBody (type seq len : Byte) (body : List Byte) : Receiver :=
  if len.toNat ≤ body.length then .checkHigh type seq len body else .body type seq len body

/-- A byte taken by the receiver (Table 11.3). No byte arrives while the line stands at space after a break (R179). -/
def State.takeByte (s : State) (p : PortId) (b : Byte) : State :=
  if (s.port p).atSpace then s
  else
    match (s.port p).rx with
    | .hunt => if b = 0xC7 then s.modPort p fun q => q.receiving .headerType else s
    | .headerType => s.modPort p fun q => q.receiving (.headerSeq b)
    | .headerSeq type => s.modPort p fun q => q.receiving (.headerLen type b)
    | .headerLen type seq =>
      if 120 < b.toNat then s.modPort p fun q => q.discard Faults.countLength
      else s.modPort p fun q => q.receiving (afterLen type seq b)
    | .body type seq len got => s.modPort p fun q => q.receiving (afterBody type seq len (got ++ [b]))
    | .checkHigh type seq len body => s.modPort p fun q => q.receiving (.checkLow type seq len body b)
    | .checkLow type seq len body high => s.judge p type seq len body (high ++ b)

/-- A character on the receive line (R175): its byte is taken; one whose stop bit is found at space leaves the receiver as
it was. BYTE_TAKEN stands for a character that spells a byte. -/
def State.takeCharacter (s : State) (p : PortId) (levels : List SerialLevel) : State :=
  match characterByte levels with
  | some b => s.takeByte p b
  | none => s

/-- The second CRC byte of a frame (R178); a receiver that does not expect it takes no such byte (log 2, log 15). -/
def State.completeFrame (s : State) (p : PortId) (b : Byte) : State :=
  if (s.port p).atSpace then s
  else
    match (s.port p).rx with
    | .checkLow type seq len body high => s.judge p type seq len body (high ++ b)
    | .hunt => s
    | .headerType => s
    | .headerSeq _ => s
    | .headerLen _ _ => s
    | .body _ _ _ _ => s
    | .checkHigh _ _ _ _ => s

/-- A gap of three character times (R178): a frame being received is discarded; in HUNT no gap is measured. -/
def State.gap (s : State) (p : PortId) : State :=
  if (s.port p).rx = .hunt then s else s.modPort p fun q => q.discard Faults.countGap

/-! ### The link break (R179) -/

/-- What is in transmission at a break: the response of an intake slot that the break has emptied is that of no
slot any more (log 14). -/
def TxFrame.cut (f : TxFrame) : TxFrame :=
  match f.kind with
  | .response _ => { f with kind := .orphan }
  | .notice _ => f
  | .orphan => f

/-- The port transport at a break (R179, points 1 to 4). -/
def Port.broken (q : Port) : Port :=
  { q with rx := .hunt, atSpace := true, intake := [], cache := none, tx := q.tx.map TxFrame.cut, waiting := none }

/-- A link break (R179), taken once for each spell at space: a Clear Halt of the port loses its response where that has still
to be sent (R185), and the session of the port ends with cause BREAK. -/
def State.breakLink (s : State) (p : PortId) : State :=
  if (s.port p).atSpace then s
  else
    let t := State.modPort { s with clearing := if s.clearing = some p then none else s.clearing } p Port.broken
    if (s.session p).isOpen then t.endSession p .brk else t

/-- The line back at mark (R179): the receiver takes bytes again, in HUNT. -/
def State.backToMark (s : State) (p : PortId) : State := s.modPort p fun q => { q with atSpace := false }

/-! ### The end of a frame (R184) -/

/-- The transmitter of a port with no frame in transmission. -/
def State.idleTx (s : State) (p : PortId) : State := s.modPort p fun q => { q with tx := none }

/-- A held request taken as the head at the end of a response frame, while a notice may be waiting: the notice
starts first, or the request is taken first and its response starts before the notice (R181, R184, log 6). -/
def State.serveHeld (s : State) (p : PortId) : State :=
  s.eitherWay (fun t => ((t.idleTx p).startNext p).serveHead p) fun t => ((t.serveHead p).idleTx p).startNext p

/-- The end of a response frame (R181, R184): its intake slot frees; a Close Session's session ends; then the held
request, if any, is taken. -/
def State.responseEnds (s : State) (p : PortId) (closes : Bool) : State :=
  let t := s.modPort p fun q => { q with intake := q.intake.tail }
  if closes then
    let u := t.idleTx p
    (if (u.session p).isOpen then u.endSession p .closed else u).serveHead p
  else
    match (t.port p).intake with
    | [] => (t.idleTx p).startNext p
    | _ :: _ => t.serveHeld p

/-- The end of the frame in transmission (R184). -/
def State.frameEnds (s : State) (p : PortId) : State :=
  match (s.port p).tx with
  | none => s
  | some f =>
    match f.kind with
    | .response closes => s.responseEnds p closes
    | .notice _ => (s.idleTx p).startNext p
    | .orphan => (s.idleTx p).startNext p

end Sys2Proof.Machine
end

