-- ==== Sys2Proof/Machine/Events.lean ====
section
/-! DEFINITION. The meanings of the event rows: the field lines, the part's clocks, and the link below its requests. -/

namespace Sys2Proof.Machine

/-- Cold reset (R161): every block at its cold reset values. The queue of commands still to come and the number of
free choices taken are the model's own and are kept (log 10). -/
def State.restart (s : State) (lines : InputLines) (straps : PerPort Straps) : State :=
  { State.cold lines straps with pending := s.pending, choices := s.choices }

/-! ### The meanings -/

/-- COLD_RESET (R161; R20, R46, R67, R82, R111, R132, R146, R174, R183, R185). -/
def execColdReset (lines : InputLines) (straps : PerPort Straps) (s : State) : Host.Outcome State Fault Refusal :=
  .next (s.restart lines straps)

/-- ENCODER_TRANSITION (R3, R9). -/
def execEncoderTransition (e : Encoder) (phase1 phase2 : Bool) (s : State) : Host.Outcome State Fault Refusal :=
  .next (s.encoderLevels e { phase1 := phase1, phase2 := phase2 })

/-- GATE_EXPIRY (R10). -/
def execGateExpiry (x : AxisId) (s : State) : Host.Outcome State Fault Refusal := .next (s.gateExpires x)

/-- MARKER_EDGE (R13, R119). -/
def execMarkerEdge (e : Encoder) (active : Bool) (s : State) : Host.Outcome State Fault Refusal :=
  .next (s.markerLevel e active)

/-- REFERENCE_LINE_EDGE (R123). -/
def execReferenceLineEdge (l : RefLine) (high : Bool) (s : State) : Host.Outcome State Fault Refusal :=
  .next (s.refLevel l high)

/-- STEP (R93). -/
def execGeneratorStep (g : GenId) (s : State) : Host.Outcome State Fault Refusal := .next (s.stepNow g)

/-- FOLLOW_BACKLOG_STEP (R99). -/
def execFollowBacklogStep (g : GenId) (s : State) : Host.Outcome State Fault Refusal := .next (s.backlogStep g)

/-- RAMP_TIMER_EXPIRY (R93). -/
def execRampTimerExpiry (g : GenId) (s : State) : Host.Outcome State Fault Refusal := .next (s.rampExpires g)

/-- DWELL_TIMER_EXPIRY (R101). -/
def execDwellTimerExpiry (g : GenId) (s : State) : Host.Outcome State Fault Refusal := .next (s.dwellExpires g)

/-- PULSE_TIMER_EXPIRY (R72). -/
def execPulseTimerExpiry (o : OutputId) (s : State) : Host.Outcome State Fault Refusal := .next (s.pulseExpires o)

/-- HALT_ASSERTION (R126). -/
def execHaltAssertion (s : State) : Host.Outcome State Fault Refusal := .next s.haltAsserted

/-- HALT_RELEASE (R126). -/
def execHaltRelease (s : State) : Host.Outcome State Fault Refusal := .next s.haltReleased

/-- LEASE_EXPIRY (R150). -/
def execLeaseExpiry (p : PortId) (s : State) : Host.Outcome State Fault Refusal := .next (s.leaseExpires p)

/-- FRAME_COMPLETE (R178). -/
def execFrameComplete (p : PortId) (crcLow : Byte) (s : State) : Host.Outcome State Fault Refusal :=
  .next (s.completeFrame p crcLow)

/-- GAP_ABORT (R178). -/
def execGapAbort (p : PortId) (s : State) : Host.Outcome State Fault Refusal := .next (s.gap p)

/-- LINK_BREAK (R179). -/
def execLinkBreak (p : PortId) (s : State) : Host.Outcome State Fault Refusal := .next (s.breakLink p)

/-- FRAME_END (R184). -/
def execFrameEnd (p : PortId) (s : State) : Host.Outcome State Fault Refusal := .next (s.frameEnds p)

/-- RESEND_TIMER_EXPIRY (R171). -/
def execResendTimerExpiry (p : PortId) (s : State) : Host.Outcome State Fault Refusal := .next (s.resendExpires p)

/-- BYTE_TAKEN (R177). -/
def execByteTaken (p : PortId) (b : Byte) (s : State) : Host.Outcome State Fault Refusal := .next (s.takeByte p b)

/-- LINE_RETURNS_TO_MARK (R179). -/
def execLineReturnsToMark (p : PortId) (s : State) : Host.Outcome State Fault Refusal := .next (s.backToMark p)

/-- DEVICE_MILLISECOND_INCREMENT (R162). -/
def execDeviceMillisecondIncrement (s : State) : Host.Outcome State Fault Refusal := .next s.millisecond

end Sys2Proof.Machine
end

