-- ==== Sys2Proof/Machine/Requests.lean ====
section
/-! DEFINITION. The meanings of the request rows: each is the completion of that request's frame on the port (log 1). -/

namespace Sys2Proof.Machine

/-- UNKNOWN_REQUEST (R148). -/
def execUnknownRequest (p : PortId) (seq : Byte) (body : List Byte) (s : State) : Host.Outcome State Fault Refusal :=
  .next (s.arrival p seq (Request.ofBody body))

/-- OPEN_SESSION (R151). -/
def execOpenSession (p : PortId) (seq : Byte) (station : Byte) (lease : Half) (subscriptions : Byte) (s : State) :
    Host.Outcome State Fault Refusal :=
  .next (s.arrival p seq (.openSession station lease subscriptions))

/-- CLOSE_SESSION (R153). -/
def execCloseSession (p : PortId) (seq : Byte) (s : State) : Host.Outcome State Fault Refusal :=
  .next (s.arrival p seq .closeSession)

/-- RENEW (R154). -/
def execRenew (p : PortId) (seq : Byte) (s : State) : Host.Outcome State Fault Refusal :=
  .next (s.arrival p seq .renew)

/-- READ_PORT_STATUS (R156). -/
def execReadPortStatus (p : PortId) (seq : Byte) (s : State) : Host.Outcome State Fault Refusal :=
  .next (s.arrival p seq .readPortStatus)

/-- SET_SUBSCRIPTIONS (R155). -/
def execSetSubscriptions (p : PortId) (seq : Byte) (subscriptions : Byte) (s : State) :
    Host.Outcome State Fault Refusal :=
  .next (s.arrival p seq (.setSubscriptions subscriptions))

/-- ACKNOWLEDGE_NOTICES (R169). -/
def execAcknowledgeNotices (p : PortId) (seq : Byte) (number : Half) (s : State) : Host.Outcome State Fault Refusal :=
  .next (s.arrival p seq (.acknowledgeNotices number))

/-- CLAIM (R135). -/
def execClaim (p : PortId) (seq : Byte) (resource : Byte) (wait : Byte) (s : State) :
    Host.Outcome State Fault Refusal :=
  .next (s.arrival p seq (.claim resource wait))

/-- RELEASE (R138). -/
def execRelease (p : PortId) (seq : Byte) (resource : Byte) (s : State) : Host.Outcome State Fault Refusal :=
  .next (s.arrival p seq (.release resource))

/-- CANCEL_WAIT (R141). -/
def execCancelWait (p : PortId) (seq : Byte) (resource : Byte) (s : State) : Host.Outcome State Fault Refusal :=
  .next (s.arrival p seq (.cancelWait resource))

/-- READ_CLAIMS (R145). -/
def execReadClaims (p : PortId) (seq : Byte) (s : State) : Host.Outcome State Fault Refusal :=
  .next (s.arrival p seq .readClaims)

/-- CONFIGURE_AXIS (R17). -/
def execConfigureAxis (p : PortId) (seq : Byte) (axis : Byte) (mode : Byte) (cycle : Word) (sense : Byte)
    (gate : Half) (s : State) : Host.Outcome State Fault Refusal :=
  .next (s.arrival p seq (.configureAxis axis mode cycle sense gate))

/-- PRESET_AXIS (R18). -/
def execPresetAxis (p : PortId) (seq : Byte) (axis : Byte) (turn : Half) (position : Word) (s : State) :
    Host.Outcome State Fault Refusal :=
  .next (s.arrival p seq (.presetAxis axis turn position))

/-- READ_AXIS (R19). -/
def execReadAxis (p : PortId) (seq : Byte) (axis : Byte) (s : State) : Host.Outcome State Fault Refusal :=
  .next (s.arrival p seq (.readAxis axis))

/-- ARM_CAPTURE (R12). -/
def execArmCapture (p : PortId) (seq : Byte) (axis : Byte) (source : Byte) (edge : Byte) (count : Byte) (s : State) :
    Host.Outcome State Fault Refusal :=
  .next (s.arrival p seq (.armCapture axis source edge count))

/-- READ_CAPTURES (R16). -/
def execReadCaptures (p : PortId) (seq : Byte) (axis : Byte) (s : State) : Host.Outcome State Fault Refusal :=
  .next (s.arrival p seq (.readCaptures axis))

/-- DEFINE_WINDOW (R25). -/
def execDefineWindow (p : PortId) (seq : Byte) (axis : Byte) (output : Byte) (copy : RawWindow) (s : State) :
    Host.Outcome State Fault Refusal :=
  .next (s.arrival p seq (.defineWindow axis output copy))

/-- EDIT_WINDOW (R27). -/
def execEditWindow (p : PortId) (seq : Byte) (slot : Byte) (copy : RawWindow) (s : State) :
    Host.Outcome State Fault Refusal :=
  .next (s.arrival p seq (.editWindow slot copy))

/-- DELETE_WINDOW (R28). -/
def execDeleteWindow (p : PortId) (seq : Byte) (slot : Byte) (s : State) : Host.Outcome State Fault Refusal :=
  .next (s.arrival p seq (.deleteWindow slot))

/-- COMMIT_WINDOWS_NOW (R30): Commit Windows with timing NOW, 0 in Table 12.5. -/
def execCommitWindowsNow (p : PortId) (seq : Byte) (axis : Byte) (s : State) : Host.Outcome State Fault Refusal :=
  .next (s.arrival p seq (.commitWindows axis 0))

/-- COMMIT_WINDOWS_AT_ROLLOVER (R31): Commit Windows with timing AT_ROLLOVER, 1 in Table 12.5. -/
def execCommitWindowsAtRollover (p : PortId) (seq : Byte) (axis : Byte) (s : State) :
    Host.Outcome State Fault Refusal :=
  .next (s.arrival p seq (.commitWindows axis 1))

/-- CANCEL_COMMIT (R33). -/
def execCancelCommit (p : PortId) (seq : Byte) (axis : Byte) (s : State) : Host.Outcome State Fault Refusal :=
  .next (s.arrival p seq (.cancelCommit axis))

/-- READ_WINDOW (R45). -/
def execReadWindow (p : PortId) (seq : Byte) (slot : Byte) (s : State) : Host.Outcome State Fault Refusal :=
  .next (s.arrival p seq (.readWindow slot))

/-- QUEUE_COMPARE (R52). -/
def execQueueCompare (p : PortId) (seq : Byte) (fields : RawCompare) (s : State) : Host.Outcome State Fault Refusal :=
  .next (s.arrival p seq (.queueCompare fields))

/-- WITHDRAW_COMPARE (R63). -/
def execWithdrawCompare (p : PortId) (seq : Byte) (id : Byte) (s : State) : Host.Outcome State Fault Refusal :=
  .next (s.arrival p seq (.withdrawCompare id))

/-- READ_COMPARES (R64). -/
def execReadCompares (p : PortId) (seq : Byte) (axis : Byte) (index : Byte) (s : State) :
    Host.Outcome State Fault Refusal :=
  .next (s.arrival p seq (.readCompares axis index))

/-- SET_OUTPUT_MODE (R75). -/
def execSetOutputMode (p : PortId) (seq : Byte) (output : Byte) (mode : Byte) (s : State) :
    Host.Outcome State Fault Refusal :=
  .next (s.arrival p seq (.setOutputMode output mode))

/-- SET_OUTPUT_LEVEL (R76). -/
def execSetOutputLevel (p : PortId) (seq : Byte) (output : Byte) (level : Byte) (s : State) :
    Host.Outcome State Fault Refusal :=
  .next (s.arrival p seq (.setOutputLevel output level))

/-- SET_FALLBACK (R77). -/
def execSetFallback (p : PortId) (seq : Byte) (output : Byte) (level : Byte) (s : State) :
    Host.Outcome State Fault Refusal :=
  .next (s.arrival p seq (.setFallback output level))

/-- PULSE_OUTPUT (R78). -/
def execPulseOutput (p : PortId) (seq : Byte) (output : Byte) (width : Half) (s : State) :
    Host.Outcome State Fault Refusal :=
  .next (s.arrival p seq (.pulseOutput output width))

/-- CLEAR_OVERLAY (R79). -/
def execClearOverlay (p : PortId) (seq : Byte) (output : Byte) (s : State) : Host.Outcome State Fault Refusal :=
  .next (s.arrival p seq (.clearOverlay output))

/-- READ_OUTPUTS (R80). -/
def execReadOutputs (p : PortId) (seq : Byte) (s : State) : Host.Outcome State Fault Refusal :=
  .next (s.arrival p seq .readOutputs)

/-- CONFIGURE_GENERATOR (R107). -/
def execConfigureGenerator (p : PortId) (seq : Byte) (gen : Byte) (maxRate : Word) (stopDecel : Half)
    (haltDecel : Half) (sense : Byte) (s : State) : Host.Outcome State Fault Refusal :=
  .next (s.arrival p seq (.configureGenerator gen maxRate stopDecel haltDecel sense))

/-- APPEND_MOVE (R105). -/
def execAppendMove (p : PortId) (seq : Byte) (gen : Byte) (record : RawMove) (s : State) :
    Host.Outcome State Fault Refusal :=
  .next (s.arrival p seq (.appendMove gen record))

/-- STOP_GENERATOR_RAMP (R103): Stop Generator with mode RAMP, 0 in Table 12.5. -/
def execStopGeneratorRamp (p : PortId) (seq : Byte) (gen : Byte) (s : State) : Host.Outcome State Fault Refusal :=
  .next (s.arrival p seq (.stopGenerator gen 0))

/-- STOP_GENERATOR_FINISH (R104): Stop Generator with mode FINISH, 1 in Table 12.5. -/
def execStopGeneratorFinish (p : PortId) (seq : Byte) (gen : Byte) (s : State) : Host.Outcome State Fault Refusal :=
  .next (s.arrival p seq (.stopGenerator gen 1))

/-- TRIGGER_GENERATOR (R106). -/
def execTriggerGenerator (p : PortId) (seq : Byte) (gen : Byte) (s : State) : Host.Outcome State Fault Refusal :=
  .next (s.arrival p seq (.triggerGenerator gen))

/-- SET_GENERATOR_POSITION (R107). -/
def execSetGeneratorPosition (p : PortId) (seq : Byte) (gen : Byte) (value : Word) (s : State) :
    Host.Outcome State Fault Refusal :=
  .next (s.arrival p seq (.setGeneratorPosition gen value))

/-- READ_GENERATOR (R112). -/
def execReadGenerator (p : PortId) (seq : Byte) (gen : Byte) (s : State) : Host.Outcome State Fault Refusal :=
  .next (s.arrival p seq (.readGenerator gen))

/-- READ_HALT (R131). -/
def execReadHalt (p : PortId) (seq : Byte) (s : State) : Host.Outcome State Fault Refusal :=
  .next (s.arrival p seq .readHalt)

/-- CLEAR_HALT (R129). -/
def execClearHalt (p : PortId) (seq : Byte) (s : State) : Host.Outcome State Fault Refusal :=
  .next (s.arrival p seq .clearHalt)

end Sys2Proof.Machine
end

