-- ==== Sys2Proof/Machine/Dispatch.lean ====
section
/-! DEFINITION. Dispatch: one arm for each command. -/

namespace Sys2Proof.Machine

/-- The effect of a command on everything but the queue of commands. -/
def exec (i : Instr) (s : State) : Host.Outcome State Fault Refusal :=
  match i with
  | .coldReset lines straps => Sys2Proof.Machine.execColdReset lines straps s
  | .encoderTransition encoder phase1 phase2 => Sys2Proof.Machine.execEncoderTransition encoder phase1 phase2 s
  | .gateExpiry axis => Sys2Proof.Machine.execGateExpiry axis s
  | .markerEdge encoder active => Sys2Proof.Machine.execMarkerEdge encoder active s
  | .referenceLineEdge line high => Sys2Proof.Machine.execReferenceLineEdge line high s
  | .generatorStep gen => Sys2Proof.Machine.execGeneratorStep gen s
  | .followBacklogStep gen => Sys2Proof.Machine.execFollowBacklogStep gen s
  | .rampTimerExpiry gen => Sys2Proof.Machine.execRampTimerExpiry gen s
  | .dwellTimerExpiry gen => Sys2Proof.Machine.execDwellTimerExpiry gen s
  | .pulseTimerExpiry output => Sys2Proof.Machine.execPulseTimerExpiry output s
  | .haltAssertion => Sys2Proof.Machine.execHaltAssertion s
  | .haltRelease => Sys2Proof.Machine.execHaltRelease s
  | .leaseExpiry port => Sys2Proof.Machine.execLeaseExpiry port s
  | .frameComplete port crcLow => Sys2Proof.Machine.execFrameComplete port crcLow s
  | .gapAbort port => Sys2Proof.Machine.execGapAbort port s
  | .linkBreak port => Sys2Proof.Machine.execLinkBreak port s
  | .frameEnd port => Sys2Proof.Machine.execFrameEnd port s
  | .resendTimerExpiry port => Sys2Proof.Machine.execResendTimerExpiry port s
  | .byteTaken port byte => Sys2Proof.Machine.execByteTaken port byte s
  | .lineReturnsToMark port => Sys2Proof.Machine.execLineReturnsToMark port s
  | .deviceMillisecondIncrement => Sys2Proof.Machine.execDeviceMillisecondIncrement s
  | .unknownRequest port seq body => Sys2Proof.Machine.execUnknownRequest port seq body s
  | .openSession port seq station lease subscriptions => Sys2Proof.Machine.execOpenSession port seq station lease subscriptions s
  | .closeSession port seq => Sys2Proof.Machine.execCloseSession port seq s
  | .renew port seq => Sys2Proof.Machine.execRenew port seq s
  | .readPortStatus port seq => Sys2Proof.Machine.execReadPortStatus port seq s
  | .setSubscriptions port seq subscriptions => Sys2Proof.Machine.execSetSubscriptions port seq subscriptions s
  | .acknowledgeNotices port seq number => Sys2Proof.Machine.execAcknowledgeNotices port seq number s
  | .claim port seq resource wait => Sys2Proof.Machine.execClaim port seq resource wait s
  | .release port seq resource => Sys2Proof.Machine.execRelease port seq resource s
  | .cancelWait port seq resource => Sys2Proof.Machine.execCancelWait port seq resource s
  | .readClaims port seq => Sys2Proof.Machine.execReadClaims port seq s
  | .configureAxis port seq axis mode cycle sense gate => Sys2Proof.Machine.execConfigureAxis port seq axis mode cycle sense gate s
  | .presetAxis port seq axis turn position => Sys2Proof.Machine.execPresetAxis port seq axis turn position s
  | .readAxis port seq axis => Sys2Proof.Machine.execReadAxis port seq axis s
  | .armCapture port seq axis source edge count => Sys2Proof.Machine.execArmCapture port seq axis source edge count s
  | .readCaptures port seq axis => Sys2Proof.Machine.execReadCaptures port seq axis s
  | .defineWindow port seq axis output copy => Sys2Proof.Machine.execDefineWindow port seq axis output copy s
  | .editWindow port seq slot copy => Sys2Proof.Machine.execEditWindow port seq slot copy s
  | .deleteWindow port seq slot => Sys2Proof.Machine.execDeleteWindow port seq slot s
  | .commitWindowsNow port seq axis => Sys2Proof.Machine.execCommitWindowsNow port seq axis s
  | .commitWindowsAtRollover port seq axis => Sys2Proof.Machine.execCommitWindowsAtRollover port seq axis s
  | .cancelCommit port seq axis => Sys2Proof.Machine.execCancelCommit port seq axis s
  | .readWindow port seq slot => Sys2Proof.Machine.execReadWindow port seq slot s
  | .queueCompare port seq fields => Sys2Proof.Machine.execQueueCompare port seq fields s
  | .withdrawCompare port seq id => Sys2Proof.Machine.execWithdrawCompare port seq id s
  | .readCompares port seq axis index => Sys2Proof.Machine.execReadCompares port seq axis index s
  | .setOutputMode port seq output mode => Sys2Proof.Machine.execSetOutputMode port seq output mode s
  | .setOutputLevel port seq output level => Sys2Proof.Machine.execSetOutputLevel port seq output level s
  | .setFallback port seq output level => Sys2Proof.Machine.execSetFallback port seq output level s
  | .pulseOutput port seq output width => Sys2Proof.Machine.execPulseOutput port seq output width s
  | .clearOverlay port seq output => Sys2Proof.Machine.execClearOverlay port seq output s
  | .readOutputs port seq => Sys2Proof.Machine.execReadOutputs port seq s
  | .configureGenerator port seq gen maxRate stopDecel haltDecel sense => Sys2Proof.Machine.execConfigureGenerator port seq gen maxRate stopDecel haltDecel sense s
  | .appendMove port seq gen record => Sys2Proof.Machine.execAppendMove port seq gen record s
  | .stopGeneratorRamp port seq gen => Sys2Proof.Machine.execStopGeneratorRamp port seq gen s
  | .stopGeneratorFinish port seq gen => Sys2Proof.Machine.execStopGeneratorFinish port seq gen s
  | .triggerGenerator port seq gen => Sys2Proof.Machine.execTriggerGenerator port seq gen s
  | .setGeneratorPosition port seq gen value => Sys2Proof.Machine.execSetGeneratorPosition port seq gen value s
  | .readGenerator port seq gen => Sys2Proof.Machine.execReadGenerator port seq gen s
  | .readHalt port seq => Sys2Proof.Machine.execReadHalt port seq s
  | .clearHalt port seq => Sys2Proof.Machine.execClearHalt port seq s

end Sys2Proof.Machine
end

