-- ==== Sys2Proof/Safety.lean ====
section
/-! DEFINITION. What a safe state is: the laws that the rules say a block keeps, one predicate for each. A safe run
is one whose states keep them all. -/

namespace Sys2Proof.Machine

/-- The ranges and relations of the fields of an axis (R2, R10, R12, R13, Table 1.1). -/
structure Axis.Lawful (a : Axis) : Prop where
  cycle_range : 16 ≤ a.cycle ∧ a.cycle ≤ 1048576
  gate_range : 1 ≤ a.gateTime ∧ a.gateTime ≤ 1000 ∧ a.gateLeft ≤ a.gateTime
  rotary_place : a.mode = .rotary → 0 ≤ a.position ∧ a.position < (a.cycle : Int) ∧ -32768 ≤ a.turn ∧ a.turn ≤ 32767
  linear_place : a.mode = .linear → -2000000000 ≤ a.position ∧ a.position ≤ 2000000000 ∧ a.turn = 0
  accumulation_range : -2147483647 ≤ a.accumulation ∧ a.accumulation ≤ 2147483647
  velocity_range : -2147483647 ≤ a.velocity ∧ a.velocity ≤ 2147483647
  arming_range : ∀ m, a.arming = some m → 1 ≤ m.remaining ∧ m.remaining ≤ 8
  log_places : a.log.length ≤ 8
  lost_range : a.lost ≤ 65535

/-- The three axes keep their laws, and V holds count sense NORMAL (R2). -/
structure State.AxesLawful (s : State) : Prop where
  each : ∀ x, (s.axis x).Lawful
  v_normal : (s.axis .v).sense = .normal

/-- Whether halt is in force at a receiver: as the halt state says, but the other way where the receiver has still to take
the change that is being handed on (R127). -/
def State.inForceAt (s : State) (r : HaltReceiver) : Bool :=
  if r ∈ s.handing then decide (s.halt = .clear) else decide (s.halt ≠ .clear)

/-- A channel's copy of the halt, its line (R69) and its pulse timer (R72). -/
structure Channel.Lawful (inForce : Bool) (c : Channel) : Prop where
  halt_copy : c.halt = inForce
  line_level : c.line = c.effective
  pulse_high : c.pulse.isSome = true → c.overlay = .high

/-- Every channel keeps its law. -/
def State.ChannelsLawful (s : State) : Prop := ∀ o : OutputId, (s.channel o).Lawful (s.inForceAt (.output o))

/-- The halt monitor stands in ACTIVE exactly while the HALT line is asserted (R125). -/
def State.HaltLawful (s : State) : Prop := s.halt = .active ↔ s.lines.haltAsserted = true

/-- A hand-over of the halt state (R127): no receiver twice; that of an assertion or of a clear, since a release changes
nothing at the receivers; and a response to Clear Halt that waits for it is that of the head of its port's intake queue
(R129). -/
structure State.HandOverLawful (s : State) : Prop where
  once : s.handing.Nodup
  not_latched : s.handing ≠ [] → s.halt ≠ .latched
  clear_waits :
    ∀ p, s.clearing = some p →
      s.halt = .clear ∧ s.handing ≠ [] ∧ ∃ h rest, (s.port p).intake = h :: rest ∧ h.request = .clearHalt

/-- The cam engine's level of every output is the OR of the inside flags of its counting windows, and the channel's
copy is that level (R43, R68). -/
def State.CamLawful (s : State) : Prop := ∀ o : OutputId, s.camLevels[o] = s.camOf o ∧ (s.channel o).cam = s.camOf o

/-- The copies and the inside flag a slot holds in its state (Table 2.2, R42). -/
def Slot.Lawful (w : Slot) : Prop :=
  match w.status with
  | .free => w.active = none ∧ w.staged = none ∧ w.inside = false
  | .staged => w.active = none ∧ w.staged.isSome = true ∧ w.inside = false
  | .live => w.active.isSome = true ∧ w.staged = none
  | .liveEdited => w.active.isSome = true ∧ w.staged.isSome = true
  | .retiring => w.active.isSome = true ∧ w.staged = none

/-- Every slot keeps Table 2.2, and one that is not FREE drives an output whose claim is HELD (R23). -/
def State.SlotsLawful (s : State) : Prop :=
  ∀ i : Fin 48, s.slots[i].Lawful ∧ (s.slots[i].status ≠ .free → (s.claim (.output s.slots[i].output)).state = .held)

/-- A pending commit exists only for a ROTARY axis and an open session (R31). -/
def State.CommitsLawful (s : State) : Prop :=
  ∀ p x, s.hasCommit p x = true → (s.axis x).mode = .rotary ∧ (s.session p).isOpen = true

/-- The compare pool (R47, R48, R49): at most 32 entries, each list in target order, ids 1 to 255 and all different,
and every entry owned by an open session. -/
structure State.PoolLawful (s : State) : Prop where
  places : s.poolSize ≤ 32
  ordered : ∀ x, (s.compareList x).Pairwise fun e f => e.target ≤ f.target
  ids_differ : ((s.compares.a ++ s.compares.b ++ s.compares.v).map CompareEntry.id).Nodup
  ids_range : ∀ x, ∀ e ∈ s.compareList x, 1 ≤ e.id ∧ e.id ≤ 255
  next_range : 1 ≤ s.nextCompareId ∧ s.nextCompareId ≤ 255
  owners_open : ∀ x, ∀ e ∈ s.compareList x, (s.session e.owner).isOpen = true

/-- Whether a current move may stand in a generator state (Table 5.2). -/
def GenState.suits (st : GenState) (k : MoveKind) : Bool :=
  match st, k with
  | .armed, _ => true
  | .running, .position _ _ _ _ _ _ => true
  | .running, .velocity _ _ _ _ _ _ => true
  | .following, .follow _ _ _ _ => true
  | .dwelling, .dwell _ => true
  | .searching, .home _ => true
  | .stopping, .position _ _ _ _ _ _ => true
  | .stopping, .velocity _ _ _ _ _ _ => true
  | .stopping, .home _ => true
  | _, _ => false

/-- A generator without a move (R86). -/
def GenState.atRest : GenState → Bool
  | .idle => true
  | .halted => true
  | .armed => false
  | .running => false
  | .following => false
  | .dwelling => false
  | .searching => false
  | .stopping => false

/-- Whether the home value of a HOME move is one that its step counter may take (R85, Table 6.1). -/
def MoveKind.homesInRange : MoveKind → Bool
  | .position _ _ _ _ _ _ => true
  | .velocity _ _ _ _ _ _ => true
  | .follow _ _ _ _ => true
  | .dwell _ => true
  | .home f => decide (-2000000000 ≤ f.home ∧ f.home ≤ 2000000000)

/-- The law of a generator's step counter, state, current move, queue, trigger, halt and backlog (R85, R86, R90, R99, R108,
Tables 5.1 and 5.2). -/
structure Generator.Lawful (inForce : Bool) (n : Generator) : Prop where
  halt_copy : n.halt = inForce
  counter_range : -2000000000 ≤ n.counter ∧ n.counter ≤ 2000000000
  home_range :
    (∀ r ∈ n.queue, r.kind.homesInRange = true) ∧ ∀ m, n.current = some m → m.record.kind.homesInRange = true
  queue_places : n.queue.length ≤ 8
  rest_no_move : n.state.atRest = true → n.current = none ∧ n.queue = []
  move_suits : n.state.atRest = false → ∃ m, n.current = some m ∧ n.state.suits m.record.kind = true
  halted_in_force : n.state = .halted → n.halt = true
  halt_stops : n.halt = true → n.state = .halted ∨ n.state = .stopping
  stopping_no_queue : n.state = .stopping → n.queue = []
  armed_no_trigger : n.state = .armed → n.pendingTrigger = false
  stopped_no_trigger : n.state = .halted ∨ n.state = .stopping → n.pendingTrigger = false
  backlog_places : n.backlog ≤ 64
  empty_backlog_up : n.backlog = 0 → n.backlogDir = .up

/-- The generators keep their laws; one with a move has its claim HELD or RELEASING (R86), and one whose claim is
RELEASING is STOPPING or HALTED: the loss of its owner has ended any other move at once (R110, R143). -/
structure State.GensLawful (s : State) : Prop where
  each : ∀ g, (s.gen g).Lawful (s.inForceAt (.generator g))
  free_rests : ∀ g, (s.claim (.generator g)).state = .free → (s.gen g).state.atRest = true
  releasing_stops :
    ∀ g, (s.claim (.generator g)).state = .releasing → (s.gen g).state = .stopping ∨ (s.gen g).state = .halted

/-- A claim record (R133, R134): at most two waiters, none twice, never the owner; no owner and no waiter in FREE, an
owner in HELD; RELEASING only for generators. -/
structure Claim.Lawful (r : Resource) (c : Claim) : Prop where
  wait_places : c.waiters.length ≤ 2
  wait_once : c.waiters.Nodup
  owner_not_waiting : ∀ p, c.owner = some p → p ∉ c.waiters
  free_empty : c.state = .free → c.owner = none ∧ c.waiters = []
  held_owned : c.state = .held → c.owner.isSome = true
  releasing_generator : c.state = .releasing → c.owner = none ∧ ∃ g, r = .generator g

/-- The claim table keeps its law, and owners and waiters are open sessions (R133, R134, R144). -/
structure State.ClaimsLawful (s : State) : Prop where
  each : ∀ r, (s.claim r).Lawful r
  owners_open : ∀ r p, (s.claim r).owner = some p → (s.session p).isOpen = true
  waiters_open : ∀ r p, p ∈ (s.claim r).waiters → (s.session p).isOpen = true

/-- A session record (Table 9.1): the values of NONE, or those of OPEN with the timer stopped exactly once a Close
Session has been taken (R149, R153). -/
structure Session.Lawful (x : Session) : Prop where
  none_values : x.isOpen = false → x = Session.closed
  station_range : x.isOpen = true → 1 ≤ x.station ∧ x.station ≤ 15
  lease_range : x.isOpen = true → 50 ≤ x.lease ∧ x.lease ≤ 5000 ∧ x.lease % 10 = 0
  timer_stopped : x.isOpen = true → (x.leaseLeft = none ↔ x.closing = true)
  timer_range : ∀ n, x.leaseLeft = some n → n ≤ x.lease

/-- The session records keep their law, and open sessions hold distinct stations (R147). -/
structure State.SessionsLawful (s : State) : Prop where
  each : ∀ p, (s.session p).Lawful
  stations_differ :
    ∀ p q, (s.session p).isOpen = true → (s.session q).isOpen = true → (s.session p).station = (s.session q).station →
      p = q

/-- The notice number after a number (R165). -/
def numberAfter (n : Nat) : Nat := if 65535 ≤ n then 1 else n + 1

/-- Whether a list of notices is numbered in order, its last one below a next number (R165). -/
def numberedBelow (next : Nat) : List Notice → Prop
  | [] => True
  | [n] => numberAfter n.number = next
  | n :: m :: rest => numberAfter n.number = m.number ∧ numberedBelow next (m :: rest)

/-- A session's notice queue (R165, R166, R167, R171). -/
structure NoticeQueue.Lawful (q : NoticeQueue) : Prop where
  places : q.items.length ≤ 24
  window : q.sentCount ≤ 8
  sent_first : q.items.Pairwise fun n m => m.sentAt.isSome = true → n.sentAt.isSome = true
  numbered : numberedBelow q.next q.items
  next_range : 1 ≤ q.next ∧ q.next ≤ 65535
  lost_range : q.lost ≤ 65535
  timer : q.resendAt = q.resendDue

/-- Every notice queue keeps its law. -/
def State.NoticesLawful (s : State) : Prop := ∀ p, (s.port p).notices.Lawful

/-- Whether a frame in transmission is the response of the head of the intake queue. -/
def TxFrame.answersHead (f : TxFrame) : Bool :=
  match f.kind with
  | .response _ => true
  | .notice _ => false
  | .orphan => false

/-- A port's transport (R178, R180, R181, R184): at most two requests; the head has exactly one response, in
transmission or waiting behind another frame, or none yet where it is a Clear Halt that awaits its hand-over (R129); no
request, no response. -/
structure Port.LinkLawful (awaits : Bool) (q : Port) : Prop where
  intake_places : q.intake.length ≤ 2
  waiting_behind : q.waiting.isSome = true → ∃ f, q.tx = some f ∧ f.answersHead = false
  not_yet : awaits = true → q.waiting = none ∧ ∀ f, q.tx = some f → f.answersHead = false
  head_answered : awaits = false → q.intake ≠ [] → q.waiting.isSome = true ∨ ∃ f, q.tx = some f ∧ f.answersHead = true
  no_head_no_response : q.intake = [] → q.waiting = none ∧ ∀ f, q.tx = some f → f.answersHead = false
  faults_range :
    q.faults.gapAbort ≤ 65535 ∧ q.faults.length ≤ 65535 ∧ q.faults.crc ≤ 65535 ∧ q.faults.foreign ≤ 65535 ∧
      q.faults.overrun ≤ 65535

/-- Every port's transport keeps its law. -/
def State.LinksLawful (s : State) : Prop := ∀ p, (s.port p).LinkLawful (decide (s.clearing = some p))

/-- Between commands axis V has taken every count event that GV has handed to it (R4, R9; log 7). -/
structure State.Settled (s : State) : Prop where
  no_events : s.vEvents = []
  not_taking : s.vTaking = false
  no_first_step : ∀ g, (s.gen g).firstStepDue = false

/-- Every law at once. -/
structure State.Lawful (s : State) : Prop where
  axes : s.AxesLawful
  channels : s.ChannelsLawful
  halt : s.HaltLawful
  handOver : s.HandOverLawful
  cam : s.CamLawful
  slots : s.SlotsLawful
  commits : s.CommitsLawful
  pool : s.PoolLawful
  gens : s.GensLawful
  claims : s.ClaimsLawful
  sessions : s.SessionsLawful
  notices : s.NoticesLawful
  links : s.LinksLawful
  settled : s.Settled

end Sys2Proof.Machine

/-! ### The terms of statements about requests -/

namespace Sys2Proof

/-- What a request row delivers: its port, the SEQ of its frame, and the request of the frame's body. -/
def Instr.asRequest : Instr → Option (PortId × Byte × Request)
  | .unknownRequest p seq body => some (p, seq, Request.ofBody body)
  | .openSession p seq station lease subscriptions => some (p, seq, .openSession station lease subscriptions)
  | .closeSession p seq => some (p, seq, .closeSession)
  | .renew p seq => some (p, seq, .renew)
  | .readPortStatus p seq => some (p, seq, .readPortStatus)
  | .setSubscriptions p seq subscriptions => some (p, seq, .setSubscriptions subscriptions)
  | .acknowledgeNotices p seq number => some (p, seq, .acknowledgeNotices number)
  | .claim p seq resource wait => some (p, seq, .claim resource wait)
  | .release p seq resource => some (p, seq, .release resource)
  | .cancelWait p seq resource => some (p, seq, .cancelWait resource)
  | .readClaims p seq => some (p, seq, .readClaims)
  | .configureAxis p seq axis mode cycle sense gate => some (p, seq, .configureAxis axis mode cycle sense gate)
  | .presetAxis p seq axis turn position => some (p, seq, .presetAxis axis turn position)
  | .readAxis p seq axis => some (p, seq, .readAxis axis)
  | .armCapture p seq axis source edge count => some (p, seq, .armCapture axis source edge count)
  | .readCaptures p seq axis => some (p, seq, .readCaptures axis)
  | .defineWindow p seq axis output copy => some (p, seq, .defineWindow axis output copy)
  | .editWindow p seq slot copy => some (p, seq, .editWindow slot copy)
  | .deleteWindow p seq slot => some (p, seq, .deleteWindow slot)
  | .commitWindowsNow p seq axis => some (p, seq, .commitWindows axis 0)
  | .commitWindowsAtRollover p seq axis => some (p, seq, .commitWindows axis 1)
  | .cancelCommit p seq axis => some (p, seq, .cancelCommit axis)
  | .readWindow p seq slot => some (p, seq, .readWindow slot)
  | .queueCompare p seq fields => some (p, seq, .queueCompare fields)
  | .withdrawCompare p seq id => some (p, seq, .withdrawCompare id)
  | .readCompares p seq axis index => some (p, seq, .readCompares axis index)
  | .setOutputMode p seq output mode => some (p, seq, .setOutputMode output mode)
  | .setOutputLevel p seq output level => some (p, seq, .setOutputLevel output level)
  | .setFallback p seq output level => some (p, seq, .setFallback output level)
  | .pulseOutput p seq output width => some (p, seq, .pulseOutput output width)
  | .clearOverlay p seq output => some (p, seq, .clearOverlay output)
  | .readOutputs p seq => some (p, seq, .readOutputs)
  | .configureGenerator p seq gen maxRate stopDecel haltDecel sense =>
    some (p, seq, .configureGenerator gen maxRate stopDecel haltDecel sense)
  | .appendMove p seq gen record => some (p, seq, .appendMove gen record)
  | .stopGeneratorRamp p seq gen => some (p, seq, .stopGenerator gen 0)
  | .stopGeneratorFinish p seq gen => some (p, seq, .stopGenerator gen 1)
  | .triggerGenerator p seq gen => some (p, seq, .triggerGenerator gen)
  | .setGeneratorPosition p seq gen value => some (p, seq, .setGeneratorPosition gen value)
  | .readGenerator p seq gen => some (p, seq, .readGenerator gen)
  | .readHalt p seq => some (p, seq, .readHalt)
  | .clearHalt p seq => some (p, seq, .clearHalt)
  | .coldReset _ _ => none
  | .encoderTransition _ _ _ => none
  | .gateExpiry _ => none
  | .markerEdge _ _ => none
  | .referenceLineEdge _ _ => none
  | .generatorStep _ => none
  | .followBacklogStep _ => none
  | .rampTimerExpiry _ => none
  | .dwellTimerExpiry _ => none
  | .pulseTimerExpiry _ => none
  | .haltAssertion => none
  | .haltRelease => none
  | .leaseExpiry _ => none
  | .frameComplete _ _ => none
  | .gapAbort _ => none
  | .linkBreak _ => none
  | .frameEnd _ => none
  | .resendTimerExpiry _ => none
  | .byteTaken _ _ => none
  | .lineReturnsToMark _ => none
  | .deviceMillisecondIncrement => none

end Sys2Proof

namespace Sys2Proof.Machine

/-- A port on which a request frame is taken as it completes (R181): its line at mark, no request before it, a SEQ the
cache does not hold, and no count event of axis V still to be taken. -/
structure State.Serves (s : State) (p : PortId) (seq : Byte) : Prop where
  at_mark : (s.port p).atSpace = false
  first : (s.port p).intake = []
  not_cached : (s.port p).cached seq = none
  settled : s.vEvents = []

/-- The same on a port with an open session. -/
structure State.ServesSession (s : State) (p : PortId) (seq : Byte) : Prop extends s.Serves p seq where
  session_open : (s.session p).isOpen = true

/-- The state as the frame of a request has completed: its lease restarted (R149), the request at the head of the
intake queue (R180). -/
def State.received (s : State) (p : PortId) (seq : Byte) (r : Request) : State :=
  s.modPort p fun q => { q with session := q.session.restartLease, intake := [{ seq := seq, request := r }] }

/-- A port as a response is handed to its transmitter: in transmission at once, or waiting behind the frame in
transmission (R184). -/
def Port.handed (q : Port) (seq : Byte) (body : List Byte) (closes : Bool) : Port :=
  match q.tx with
  | none =>
    { q with tx := some { kind := .response closes, bytes := frameBytes 0x52 seq body } }
  | some _ => { q with waiting := some { seq := seq, body := body, closes := closes } }

/-- A state as the response to the request just taken is composed: in the cache (R182) and with the transmitter. -/
def State.answered (s : State) (p : PortId) (seq : Byte) (body : List Byte) : State :=
  s.modPort p fun q => { q.handed seq body false with cache := some { seq := seq, body := body } }

/-- Whether the response to a request stands at a port's transmitter: in transmission, or waiting behind another frame
(R184). -/
def Port.Answers (q : Port) (seq : Byte) (body : List Byte) : Prop :=
  q.tx = some { kind := .response false, bytes := frameBytes 0x52 seq body } ∨
    q.waiting = some { seq := seq, body := body, closes := false }

/-- What a port whose transmitter is idle, with no response waiting, comes to at a device time (R168, R184): the oldest UNSENT
notice of an open session goes on the line and is SENT (R167), the resend timer running out 250 ms after the send time of
the oldest SENT one (R171); nothing changes where Close Session has been taken, eight are SENT, or none is UNSENT. -/
def Port.TakesNotice (q t : Port) (now : Word) : Prop :=
  (∀ (sent : List Notice) (n : Notice) (rest : List Notice), q.notices.items = sent ++ [n] ++ rest →
    (∀ m ∈ sent, m.sentAt.isSome = true) → (∀ m ∈ n :: rest, m.sentAt = none) →
    q.session.isOpen = true → q.session.closing = false → sent.length < 8 →
    t =
      { q with
        tx := some { kind := .notice n.number, bytes := frameBytes 0x53 0 n.bytes }
        notices :=
          { q.notices with
            items := sent ++ [{ n with sentAt := some now }] ++ rest
            resendAt := some (((sent.head?.bind Notice.sentAt).getD now) + 250) } }) ∧
    (q.session.isOpen = false ∨ q.session.closing = true ∨
        8 ≤ (q.notices.items.filter fun n => n.sentAt.isSome).length ∨ (∀ n ∈ q.notices.items, n.sentAt.isSome = true) →
      t = q)

/-- Whether a session has left nothing behind on a port (R157, R158): no session, no notices, no cached response, no
pending commit, no compare entry, no claim and no wait. -/
structure State.NothingOf (s : State) (p : PortId) : Prop where
  no_session : s.session p = Session.closed
  no_notices : (s.port p).notices = NoticeQueue.fresh
  no_cache : (s.port p).cache = none
  no_commit : ∀ x, s.hasCommit p x = false
  no_entry : ∀ x, ∀ e ∈ s.compareList x, e.owner ≠ p
  no_claim : ∀ r, (s.claim r).owner ≠ some p
  no_wait : ∀ r, p ∉ (s.claim r).waiters

/-! ### The terms of statements about generators -/

/-- A generator record once its move has ended and nothing follows (R92): no move, speed 0, marks, accumulator, backlog
and timers cleared, in the given state. -/
def Generator.atStandstill (n : Generator) (st : GenState) : Generator :=
  { n with
    state := st, phase := none, speed := 0, stopRate := none, current := none, endByNext := false, accumulator := 0,
    backlog := 0, backlogDir := .up, rampLeft := none, dwellLeft := none, firstStepDue := false }

/-- A generator record of G1 or G2 after one issued step (R84): the counter moves by one, the direction line shows the
direction, a step pulse is given, and the move's progress counts the step. -/
def Generator.afterStepOn (n : Generator) (m : CurrentMove) (dir : StepDir) : Generator :=
  { n with
    counter := if dir = .up then n.counter + 1 else n.counter - 1
    dirLine := if (dir = .up ↔ n.sense = .normal) then .high else .low
    stepLine := .low
    stepPulses := n.stepPulses + 1
    intervalSpeed := n.speed
    firstStepDue := false
    current := some { m with issued := m.issued + 1, remaining := m.remaining.map fun k => k - 1 } }

/-- What a generator of which a move has ended comes to with the records that wait (R92, R90): IDLE, or HALTED while halt is
in force, where none waits; ARMED with an ON_TRIGGER record and no trigger pending, its distance limit whole (R96; log
22); DWELLING with a DWELL record that starts (R101); RUNNING with a VELOCITY record without a distance limit that starts on
G1 or G2, its first step issued (R96, R93). How moves of the other kinds start is stated where they do. -/
def Generator.Follows (n : Generator) (g : GenId) (waiting : List MoveRecord) (t : Generator) : Prop :=
  (waiting = [] → t = { n.atStandstill (if n.halt then .halted else .idle) with queue := [] }) ∧
    ∀ (h : MoveRecord) (rest : List MoveRecord), waiting = h :: rest →
      let taken (started : Bool) (remaining : Option Nat) : CurrentMove :=
        { record := h, started := started, issued := 0, remaining := remaining, dir := .up, search := none }
      let starts := h.start = .immediate ∨ n.pendingTrigger = true
      let trigger : Bool := if h.start = .onTrigger then false else n.pendingTrigger
      (¬starts →
        t =
          { n.atStandstill .armed with
            queue := rest
            current :=
              some
                (taken false
                  (match h.kind with
                  | .velocity _ _ _ _ _ limit => limit
                  | .follow _ _ _ limit => limit
                  | .position _ _ _ _ _ _ => none
                  | .dwell _ => none
                  | .home _ => none)) }) ∧
      (∀ ms, starts → h.kind = .dwell ms →
        t =
          { n.atStandstill .dwelling with
            queue := rest, pendingTrigger := trigger, dwellLeft := some ms, current := some (taken true none) }) ∧
      ∀ dir start peak accel decel, starts → h.kind = .velocity dir start peak accel decel none → g ≠ .gv →
        -2000000000 < n.counter → n.counter < 2000000000 →
        t.state = .running ∧ t.speed = start ∧ t.queue = rest ∧ t.pendingTrigger = trigger ∧ t.rampLeft = some 1 ∧
          t.endByNext = decide (rest ≠ []) ∧ t.current.map CurrentMove.record = some h ∧
          t.counter = if dir = .up then n.counter + 1 else n.counter - 1

/-- The end of a generator's current move with cause ENDED_BY_NEXT, with the records that wait, from the state before to the
state after (R92): what the generator comes to, and MOVE_ENDED to the holder of its claim, with MOVE_STARTED of the first
record where that starts (R90). -/
def State.EndedByNext (s t : State) (g : GenId) (m : CurrentMove) (waiting : List MoveRecord) : Prop :=
  let n := s.gen g
  n.Follows g waiting (t.gen g) ∧
    ∀ p, s.holds p (.generator g) = true →
      ((s.port p).notices.items.length < 24 →
        ∃ k ∈ (t.port p).notices.items,
          k.kind = .moveEnded g m.record.tag m.record.kind .endedByNext n.counter m.started none) ∧
      ∀ h rest, waiting = h :: rest → h.start = .immediate ∨ n.pendingTrigger = true →
        (s.port p).notices.items.length < 23 →
        ∃ k ∈ (t.port p).notices.items, ∃ phase,
          k.kind = .moveStarted g h.tag h.kind n.counter (decide (h.start = .onTrigger)) phase

/-- A generator whose owner is lost (R110, R142, Table 5.5): one in IDLE has its trigger cleared; a move in motion above its
floor slows down in STOPPING, any other ends at once; queue and trigger go with it; STOPPING and HALTED stand. -/
def Generator.ownerLost (n : Generator) : Generator :=
  let rests : Generator := { n.atStandstill .idle with queue := [], pendingTrigger := false }
  let slows : Generator :=
    { n with state := .stopping, phase := none, stopRate := some .stop, queue := [], pendingTrigger := false }
  let inMotion : Generator := if (n.current.any fun m => decide (m.record.kind.floor < n.speed)) then slows else rests
  match n.state with
  | .idle => { n with pendingTrigger := false }
  | .armed => rests
  | .dwelling => rests
  | .following => rests
  | .running => inMotion
  | .searching => inMotion
  | .stopping => n
  | .halted => n

/-- A generator that has taken the entry into halt (R108, Table 5.7): one in RUNNING or SEARCHING above its floor slows down
in STOPPING at the halt decel rate, its speed and move kept; one in STOPPING goes on at that rate; any other move ends
at once, and the generator is HALTED. Queue and trigger are gone. -/
def Generator.haltTaken (n : Generator) : Generator :=
  let flushed : Generator := { n with halt := true, queue := [], pendingTrigger := false }
  let rests : Generator := flushed.atStandstill .halted
  let slows : Generator := { flushed with state := .stopping, phase := none, stopRate := some .halt }
  let inMotion : Generator := if (n.current.any fun m => decide (m.record.kind.floor < n.speed)) then slows else rests
  match n.state with
  | .idle => { flushed with state := .halted }
  | .armed => rests
  | .dwelling => rests
  | .following => rests
  | .running => inMotion
  | .searching => inMotion
  | .stopping => { flushed with stopRate := some .halt }
  | .halted => flushed

/-- What a receiver of a halt change comes to as it takes the change, from the state before to the state after (Table 7.2): a
channel its line's level (R71); a generator, on the entry, that of Table 5.7 by its state (R108), and on the clear IDLE
from HALTED, any other state standing (R109). -/
def HaltReceiver.Took (r : HaltReceiver) (s t : State) (inForce : Bool) : Prop :=
  match r with
  | .output o =>
    let c := s.channel o
    let level : Level :=
      match c.overlay, c.mode with
      | .high, _ => .high
      | .low, _ => .low
      | .none, .cam => if c.cam then .high else .low
      | .none, .manual => c.manual
    t.channel o = { c with halt := inForce, line := if inForce then c.fallback else level }
  | .generator g =>
    let n := s.gen g
    t.gen g =
      if inForce then n.haltTaken
      else { n with halt := false, state := if n.state = .halted then .idle else n.state }

/-- A receiver of a halt change that stands as it was (R127). -/
def HaltReceiver.Stood (r : HaltReceiver) (s t : State) : Prop :=
  match r with
  | .output o => t.channel o = s.channel o
  | .generator g => t.gen g = s.gen g

/-- A claim that its owner has given back (R140): with the oldest waiter, or FREE. -/
def Claim.passed (c : Claim) : Claim :=
  match c.waiters with
  | [] => { state := .free, owner := none, former := 0, waiters := [] }
  | w :: rest => { state := .held, owner := some w, former := 0, waiters := rest }

/-- The claim of a resource that the ending session of a station holds (R142, R143): RELEASING for a generator that the end
leaves in motion or in HALTED, passed on for any other resource. -/
def State.claimGivenBack (s : State) (r : Resource) (station : Nat) : Claim :=
  let releasing : Claim := { state := .releasing, owner := none, former := station, waiters := (s.claim r).waiters }
  match r with
  | .generator g => if (s.gen g).ownerLost.state = .idle then (s.claim r).passed else releasing
  | .output _ => (s.claim r).passed
  | .axis _ => (s.claim r).passed

/-- What the session of a port gives back as it ends, from the state before to the state after (R142, R143): the windows
and channels of its outputs (R44, R81), the captures of its axes (R21), its generators (R110), its claims (R140) and its
waits (R144); what it did not hold stands. -/
structure State.GaveBack (s t : State) (p : PortId) : Prop where
  windows :
    ∀ i : Fin 48, s.slots[i].status ≠ .free → s.holds p (.output s.slots[i].output) = true → t.slots[i].status = .free
  other_windows : ∀ i : Fin 48, s.holds p (.output s.slots[i].output) = false → t.slots[i] = s.slots[i]
  outputs :
    ∀ o, t.channel o =
      if s.holds p (.output o) then
        { s.channel o with
          mode := .manual, manual := (s.channel o).fallback, overlay := .none, pulse := none, cam := false,
          line := (s.channel o).fallback }
      else s.channel o
  axes :
    ∀ x, t.axis x =
      if s.holds p (.axis x) then { s.axis x with arming := none, log := [], lost := 0, lossReported := false }
      else s.axis x
  generators : ∀ g, t.gen g = if s.holds p (.generator g) then (s.gen g).ownerLost else s.gen g
  claims :
    ∀ r, t.claim r =
      if s.holds p r then s.claimGivenBack r (s.session p).station
      else { s.claim r with waiters := (s.claim r).waiters.filter fun q => decide (q ≠ p) }

end Sys2Proof.Machine
end

