-- ==== Sys2Proof/Certificates/Slice0/Obligations.lean ====
section
/-! DEFINITION. The statements about the model: what a step, cold reset, each event and each request comes to, and the
laws every step keeps. The terms they share stand in Safety.lean. -/

open Sys2Proof Sys2Proof.Machine

/-! ### One step, cold reset, and the laws -/

/-- A step takes the command at the front of the queue and runs it on the state with the queue's rest; the queue is the
model's own (log 16). -/
def Obligations.StepRunsFrontCommand : Prop :=
  ∀ (s : State) (c : Instr) (rest : List Instr),
    s.pending = c :: rest → step s = exec c { s with pending := rest }

/-- Every command ends in a next state, and none touches the queue of the commands still to come. The model's own choices
are that it has such a queue (log 16), that COLD_RESET keeps it (log 10), and that a command which cannot occur answers a
next state and does nothing (log 2). -/
def Obligations.CommandsCompleteAndKeepQueue : Prop :=
  ∀ (c : Instr) (s : State), ∃ t, exec c s = .next t ∧ t.pending = s.pending

/-- R67: at cold reset the compare pool is empty, all three lists are empty, and the id counter is 1. -/
def Obligations.ColdResetEmptiesComparePool : Prop :=
  ∀ (lines : InputLines) (straps : PerPort Straps) (s : State),
    ∃ t, exec (.coldReset lines straps) s = .next t ∧ t.poolSize = 0 ∧ t.compareList .a = [] ∧ t.compareList .b = [] ∧
      t.compareList .v = [] ∧ t.nextCompareId = 1

/-- R146: at cold reset all 22 claim records are FREE, with no owner, no former holder and an empty wait list; no
CLAIM_FREED is posted; outputs begin LOW in MANUAL (R82), generators IDLE or HALTED (R111), axes LINEAR at 0 (R20). -/
def Obligations.ColdResetFreesAllClaims : Prop :=
  ∀ (lines : InputLines) (straps : PerPort Straps) (s : State),
    ∃ t, exec (.coldReset lines straps) s = .next t ∧
      (∀ r, (t.claim r).state = .free ∧ (t.claim r).owner = none ∧ (t.claim r).former = 0 ∧ (t.claim r).waiters = []) ∧
      (∀ p, (t.port p).notices.items = [] ∧ (t.session p).isOpen = false) ∧
      (∀ o, (t.channel o).line = .low ∧ (t.channel o).mode = .manual) ∧
      (∀ g, (t.gen g).state = if lines.haltAsserted then .halted else .idle) ∧
      ∀ x, (t.axis x).mode = .linear ∧ (t.axis x).position = 0

/-- Every block at its cold reset values (R20, R46, R67, R82, R111, R132, R146, R161, R174, R175, R177, R180, R185),
whatever stood before, with the device millisecond count at 0 (R162) and every transmit line at mark (R185). The model's
own: the queue of commands and the number of free choices taken are kept (log 10), a freed slot stands at axis A and
output Q0 and an empty backlog at UP (log 17), the receive lines stand at mark (log 13), axis V has no count event to
take (log 7), no halt change is being handed on and no Clear Halt waits (log 19), and three fields of a generator count
steps (log 4). -/
def Obligations.ColdResetSetsEveryBlock : Prop :=
  ∀ (lines : InputLines) (straps : PerPort Straps) (s : State),
    ∃ t, exec (.coldReset lines straps) s = .next t ∧ t.lines = lines ∧ t.pending = s.pending ∧ t.choices = s.choices ∧
      t.now = 0 ∧ t.vEvents = [] ∧ t.vTaking = false ∧ t.handing = [] ∧ t.clearing = none ∧
      (∀ x, t.axis x =
        { mode := .linear, cycle := 3600, sense := .normal, position := 0, turn := 0, direction := .forward,
          status := .counting, gateTime := 10, gateLeft := 10, accumulation := 0, velocity := 0, arming := none,
          log := [], lost := 0, lossReported := false }) ∧
      (∀ i : Fin 48, t.slots[i] =
        { status := .free, axis := .a, output := 0, active := none, staged := none, inside := false }) ∧
      (∀ p x, t.hasCommit p x = false) ∧ (∀ o : OutputId, t.camLevels[o] = false) ∧
      (∀ x, t.compareList x = []) ∧ t.poolSize = 0 ∧ t.nextCompareId = 1 ∧
      (∀ o, t.channel o =
        { mode := .manual, manual := .low, overlay := .none, pulse := none, fallback := .low, cam := false,
          halt := lines.haltAsserted, line := .low }) ∧
      (∀ g, t.gen g =
        { maxRate := 1000, stopDecel := 100, haltDecel := 1000, sense := .normal, counter := 0,
          state := if lines.haltAsserted then .halted else .idle, phase := none, speed := 0, stopRate := none,
          current := none, endByNext := false, queue := [], pendingTrigger := false, accumulator := 0, backlog := 0,
          backlogDir := .up, halt := lines.haltAsserted, rampLeft := none, dwellLeft := none, dirLine := .low,
          stepLine := .low, stepPulses := 0, intervalSpeed := 0, firstStepDue := false }) ∧
      (t.halt = if lines.haltAsserted then .active else .clear) ∧
      (∀ r, t.claim r = { state := .free, owner := none, former := 0, waiters := [] }) ∧
      (∀ p k, (t.port p).transmitLevel k = .mark) ∧
      ∀ p, t.port p =
        { session :=
            { isOpen := false, station := 0, lease := 0, leaseLeft := none, closing := false,
              subs := { sessionEnded := false, haltChanged := false, axisOverrange := false, claimFreed := false } }
          notices := { items := [], next := 1, wrapped := false, lost := 0, resendAt := none }
          rate := Straps.rate (straps.get p)
          rx := .hunt, atSpace := false, intake := [], cache := none, tx := none, waiting := none
          faults := { gapAbort := 0, length := 0, crc := 0, foreign := 0, overrun := 0 } }

/-- Every law holds as cold reset ends, with HALT asserted or released, and in the state after reset, whose sampled levels
are the model's choice (log 8). -/
def Obligations.ColdResetIsLawful : Prop :=
  State.reset.Lawful ∧
    ∀ (lines : InputLines) (straps : PerPort Straps) (s t : State),
      exec (.coldReset lines straps) s = .next t → t.Lawful

/-- Axis positions, turns, settings and counts stay in the ranges of Table 1.1, and V stays NORMAL (R2, R10, R13). -/
def Obligations.EveryStepKeepsAxisRanges : Prop := ∀ s t : State, s.Lawful → step s = .next t → t.AxesLawful

/-- Every line stands at its channel's effective level, at the fallback level while halt is in force there (R69); a pulse
runs under overlay HIGH (R72); the halt state is ACTIVE exactly while the line is asserted (R125); and each channel holds
halt in force as the halt state has it, or as it was before, where the channel has still to take the change (R127): no
receiver waits twice, none where the state is LATCHED, and a Clear Halt whose response waits for them is the head of its
port's intake queue (R129). -/
def Obligations.EveryStepKeepsOutputLevels : Prop :=
  ∀ s t : State, s.Lawful → step s = .next t → t.ChannelsLawful ∧ t.HaltLawful ∧ t.HandOverLawful

/-- Every slot holds the copies of its state and drives an output whose claim is HELD (R23, R42); pending commits exist for
ROTARY axes and open sessions alone (R31); every cam level is the OR of the inside flags of the output's counting
windows, and the channel's copy is that level (R43, R68). -/
def Obligations.EveryStepKeepsWindowsAndCamLevels : Prop :=
  ∀ s t : State, s.Lawful → step s = .next t → t.SlotsLawful ∧ t.CommitsLawful ∧ t.CamLawful

/-- The compare pool holds at most 32 entries, in target order, with ids 1 to 255 all
different, each owned by an open session (R47 to R49). -/
def Obligations.EveryStepKeepsComparePool : Prop := ∀ s t : State, s.Lawful → step s = .next t → t.PoolLawful

/-- A resource has at most one owner, and at most two waiters, none of them its owner and none twice; all are open
sessions (R133, R134). -/
def Obligations.EveryStepKeepsClaims : Prop := ∀ s t : State, s.Lawful → step s = .next t → t.ClaimsLawful

/-- Session records keep Table 9.1, and open sessions hold distinct stations (R147). -/
def Obligations.EveryStepKeepsSessions : Prop := ∀ s t : State, s.Lawful → step s = .next t → t.SessionsLawful

/-- A notice queue holds at most 24 notices, at most 8 of them sent, the sent ones first, numbered consecutively; the
resend timer follows the oldest sent one (R165 to R167, R171). -/
def Obligations.EveryStepKeepsNoticeQueues : Prop := ∀ s t : State, s.Lawful → step s = .next t → t.NoticesLawful

/-- An intake queue holds at most two requests and its head has exactly one response at the transmitter (R180, R181,
R184), but for a Clear Halt that awaits the hand-over of its change, which has none there yet (R129); fault counters stay
16 bits wide (R178). -/
def Obligations.EveryStepKeepsLinks : Prop := ∀ s t : State, s.Lawful → step s = .next t → t.LinksLawful

/-- A step counter, and the home value of a HOME move, stay within the counter's range (Table 5.1, R85); a generator in IDLE
or HALTED has no move and no queue, a queue holds at most 8 records, an ARMED, HALTED or STOPPING
generator holds no trigger, halt in force there leaves HALTED or STOPPING alone (R86, R90, R108; R127 for one that has
still to take a change), and a backlog is 64 at most (R99), an empty one with direction UP (log 17); and no count event
of axis V outlives the command that brings it about (R4, R9; log 7). -/
def Obligations.EveryStepKeepsGenerators : Prop :=
  ∀ s t : State, s.Lawful → step s = .next t → t.GensLawful ∧ t.Settled

/-! ### Events at the axes -/

/-- Every change of one line of an encoder, the other standing, is one count event (R3), forward where phase 1 leads phase
2: where phase 1 changes away from phase 2, or phase 2 follows to the level of phase 1. Of that event: in COUNTING,
where it does not leave the range, the position moves by one, on a ROTARY axis around the cycle with the turn (R5, R6,
Table 1.2); direction and gate accumulation follow (R10), and no setting, gate timer, velocity or arming of the axis, no
other encoder's axis and no session changes. The capture log and its lost count stand too, where no compare entry of the
axis is a CAPTURE (R14). Every counting window on the axis is evaluated where the event leaves the axis (R9, R37, Table
2.8; R38 to R41 say how, O19), but for those that a rollover commits first (O54); no window on the other encoder's axis
changes, nor one that does not count. -/
def Obligations.EncoderTransitionMovesItsAxis : Prop :=
  (∀ old new : EncoderLines,
     (new.phase1 ≠ old.phase1 → new.phase2 = old.phase2 →
       quadrature old new = some (if new.phase1 ≠ old.phase2 then .forward else .reverse)) ∧
     (new.phase1 = old.phase1 → new.phase2 ≠ old.phase2 →
       quadrature old new = some (if new.phase2 = old.phase1 then .forward else .reverse))) ∧
  ∀ (s : State) (e : Encoder) (phase1 phase2 : Bool) (d : AxisDir),
    quadrature (s.lines.pair e) { phase1 := phase1, phase2 := phase2 } = some d →
    (s.axis e.axis).Lawful → (s.axis e.axis).status = .counting →
    let a := s.axis e.axis
    let dir := if a.sense = .normal then d else d.opposite
    let up : Bool := decide (dir = .forward)
    (a.mode = .linear → if up then a.position < 2000000000 else -2000000000 < a.position) →
    (a.mode = .rotary → if up then a.position + 1 < a.cycle ∨ a.turn < 32767 else 0 < a.position ∨ -32768 < a.turn) →
    ∃ t, exec (.encoderTransition e phase1 phase2) s = .next t ∧
      t.lines = s.lines.setPair e { phase1 := phase1, phase2 := phase2 } ∧
      (t.axis e.axis).position =
        (match a.mode with
        | .linear => if up then a.position + 1 else a.position - 1
        | .rotary =>
          if up then (if a.position + 1 = a.cycle then 0 else a.position + 1)
          else if a.position = 0 then (a.cycle : Int) - 1 else a.position - 1) ∧
      (t.axis e.axis).turn =
        (match a.mode with
        | .linear => 0
        | .rotary =>
          if up then (if a.position + 1 = a.cycle then a.turn + 1 else a.turn)
          else if a.position = 0 then a.turn - 1 else a.turn) ∧
      (t.axis e.axis).direction = dir ∧ (t.axis e.axis).status = .counting ∧
      (t.axis e.axis).accumulation =
        max (-2147483647) (min 2147483647 (a.accumulation + if up then 1 else -1)) ∧
      (t.axis e.axis).mode = a.mode ∧ (t.axis e.axis).cycle = a.cycle ∧ (t.axis e.axis).sense = a.sense ∧
      (t.axis e.axis).gateTime = a.gateTime ∧ (t.axis e.axis).gateLeft = a.gateLeft ∧
      (t.axis e.axis).velocity = a.velocity ∧ (t.axis e.axis).arming = a.arming ∧
      ((∀ c ∈ s.compareList e.axis, c.action ≠ .capture) →
        (t.axis e.axis).log = a.log ∧ (t.axis e.axis).lost = a.lost ∧
          (t.axis e.axis).lossReported = a.lossReported) ∧
      (∀ i : Fin 48, s.slots[i].axis = e.axis →
        (t.axis e.axis).turn = a.turn ∨
          (∀ p, s.holds p (.output s.slots[i].output) = true → s.hasCommit p e.axis = false) →
        (s.slots[i].status.counts = false → t.slots[i] = s.slots[i]) ∧
        ∀ w, s.slots[i].status.counts = true → s.slots[i].active = some w →
          t.slots[i] = { s.slots[i] with inside := w.insideOn (t.axis e.axis) }) ∧
      (∀ i : Fin 48, s.slots[i].axis ≠ e.axis → s.slots[i].axis ≠ .v → t.slots[i] = s.slots[i]) ∧
      (∀ f : Encoder, f ≠ e → t.axis f.axis = s.axis f.axis) ∧
      t.now = s.now ∧ t.halt = s.halt ∧ ∀ p, t.session p = s.session p

/-- A change of both lines of an encoder is no count event: the decoder takes the new levels as its starting point, and
nothing else changes (R3). Nor is a change of none: such a command cannot occur, and the model has it do
nothing (log 2). -/
def Obligations.BothLinesChangingIsNoEvent : Prop :=
  ∀ (s : State) (e : Encoder) (phase1 phase2 : Bool),
    ((s.lines.pair e).phase1 = phase1 ↔ (s.lines.pair e).phase2 = phase2) →
    exec (.encoderTransition e phase1 phase2) s =
      .next { s with lines := s.lines.setPair e { phase1 := phase1, phase2 := phase2 } }

/-- The event that would carry an axis out of its range brings it into OVERRANGE (R7): position and turn stand,
direction and accumulation follow the event, every counting window on the axis is outside, and its compare list does
not change. AXIS_OVERRANGE goes to every session that has subscribed to it; 12 notices in its queue leave room for all
that the event can post to it.
A count event of an axis in OVERRANGE leaves position and turn (R8), also where it points back into the range;
direction and accumulation follow it; no window and no compare entry of the axis hears of it, and no further
AXIS_OVERRANGE is posted. -/
def Obligations.OverrangeEntryAndStay : Prop :=
  (∀ (s : State) (e : Encoder) (phase1 phase2 : Bool) (d : AxisDir),
     quadrature (s.lines.pair e) { phase1 := phase1, phase2 := phase2 } = some d →
     (s.axis e.axis).Lawful → (s.axis e.axis).status = .counting →
     let a := s.axis e.axis
     let dir := if a.sense = .normal then d else d.opposite
     (a.mode = .linear → a.position = if dir = .forward then 2000000000 else -2000000000) →
     (a.mode = .rotary → if dir = .forward then a.position + 1 = a.cycle ∧ a.turn = 32767 else a.position = 0 ∧ a.turn = -32768) →
     ∃ t, exec (.encoderTransition e phase1 phase2) s = .next t ∧
       (t.axis e.axis).status = .overrange ∧ (t.axis e.axis).position = a.position ∧ (t.axis e.axis).turn = a.turn ∧
       (t.axis e.axis).direction = dir ∧
       (t.axis e.axis).accumulation =
         max (-2147483647) (min 2147483647 (a.accumulation + if dir = .forward then 1 else -1)) ∧
       t.compareList e.axis = s.compareList e.axis ∧
       (∀ i : Fin 48, t.slots[i].axis = e.axis → t.slots[i].status.counts = true → t.slots[i].inside = false) ∧
       ∀ p, s.vEvents = [] → (s.session p).isOpen = true → (s.session p).subs.axisOverrange = true →
         (s.port p).notices.items.length ≤ 12 →
         ∃ n ∈ (t.port p).notices.items,
           n.kind =
             .axisOverrange e.axis
               (match a.mode with
               | .linear => a.position
               | .rotary => a.turn * a.cycle + a.position) dir) ∧
  ∀ (s : State) (e : Encoder) (phase1 phase2 : Bool) (d : AxisDir),
    quadrature (s.lines.pair e) { phase1 := phase1, phase2 := phase2 } = some d →
    (s.axis e.axis).status = .overrange →
    let a := s.axis e.axis
    let dir := if a.sense = .normal then d else d.opposite
    ∃ t, exec (.encoderTransition e phase1 phase2) s = .next t ∧
      (t.axis e.axis).status = .overrange ∧ (t.axis e.axis).position = a.position ∧ (t.axis e.axis).turn = a.turn ∧
      (t.axis e.axis).direction = dir ∧ (t.axis e.axis).velocity = a.velocity ∧
      (t.axis e.axis).accumulation =
        max (-2147483647) (min 2147483647 (a.accumulation + if dir = .forward then 1 else -1)) ∧
      t.compareList e.axis = s.compareList e.axis ∧
      (∀ i : Fin 48, s.slots[i].axis = e.axis → t.slots[i] = s.slots[i]) ∧
      ∀ p, ∀ n ∈ (t.port p).notices.items, (∃ place way, n.kind = .axisOverrange e.axis place way) →
        ∃ m ∈ (s.port p).notices.items, m.number = n.number ∧ m.kind = n.kind

/-- A gate expiry computes the velocity estimate from the accumulation, truncated toward zero and saturated, starts the
next gate time, and has every counting window on the axis evaluated with it (R10, R37); no notice is posted, and
no generator, no compare list and no other axis changes.
An evaluation, there and wherever else a statement evaluates a window, is that of R38 to R41: a window is inside where the
axis is in COUNTING, its direction matches the qualifier, and its position shifted by the lead offset passes the range
test, which wraps around the cycle on a ROTARY axis. -/
def Obligations.GateExpiryMeasuresVelocity : Prop :=
  (∀ (w : WindowCopy) (a : Axis), 1 ≤ a.cycle → (a.mode = .linear → w.on < w.off) →
     let shifted := a.position + (a.velocity * w.lead).tdiv 1000000
     let c := match a.mode with
       | .linear => shifted
       | .rotary => shifted % a.cycle
     (w.insideOn a = true ↔
       a.status = .counting ∧
         (w.qualifier = .either ∨ (w.qualifier = .forward ∧ a.direction = .forward) ∨
           (w.qualifier = .reverse ∧ a.direction = .reverse)) ∧
         (if w.on < w.off then w.on ≤ c ∧ c < w.off else w.on ≤ c ∨ c < w.off))) ∧
  ∀ (s : State) (x : AxisId), (s.axis x).gateLeft = 0 →
    let a := s.axis x
    let b : Axis :=
      { a with
        velocity := max (-2147483647) (min 2147483647 ((a.accumulation * 1000).tdiv a.gateTime))
        accumulation := 0
        gateLeft := a.gateTime }
    ∃ t, exec (.gateExpiry x) s = .next t ∧ t.axis x = b ∧
      (∀ i : Fin 48, s.slots[i].axis = x → s.slots[i].status.counts = true →
        ∀ w, s.slots[i].active = some w → t.slots[i] = { s.slots[i] with inside := w.insideOn b }) ∧
      (∀ i : Fin 48, s.slots[i].axis ≠ x → t.slots[i] = s.slots[i]) ∧
      (∀ y, y ≠ x → t.axis y = s.axis y) ∧ t.ports = s.ports ∧ t.gens = s.gens ∧ t.claims = s.claims ∧
      t.compares = s.compares ∧ t.halt = s.halt

/-- An edge that matches the arming of an axis and finds room is logged with the axis's place, velocity and time, and counts
the arming down, which is removed at 0 with CAPTURE_DONE to the holder of the axis (R13); one that finds eight records
is lost and counted, the first such loss with CAPTURE_LOST (R14, R15), and the arming stands. Stated for the marker of
axis A or B and for a reference line at any axis; axis V's own motion is shut out, which a search of GV that ends at the
edge could bring about, and 20 notices in the holder's queue leave room for all that the edge can post to it. -/
def Obligations.MatchingEdgesAreCaptured : Prop :=
  ∀ (s : State) (x : AxisId) (m : CaptureArming),
    let a := s.axis x
    a.arming = some m → (x = .v → s.vEvents = [] ∧ (s.gen .gv).state ≠ .searching) →
    let captured (t : State) : Prop :=
      (t.axis x).position = a.position ∧ (t.axis x).turn = a.turn ∧ (t.axis x).velocity = a.velocity ∧
        (t.axis x).mode = a.mode ∧
        (a.log.length < 8 →
          (t.axis x).log =
              a.log ++ [{ source := m.source, position := a.extended, velocity := a.velocity, time := s.now }] ∧
            (t.axis x).arming = (if m.remaining ≤ 1 then none else some { m with remaining := m.remaining - 1 }) ∧
            (t.axis x).lost = a.lost ∧ (t.axis x).lossReported = a.lossReported) ∧
        (8 ≤ a.log.length →
          (t.axis x).log = a.log ∧ (t.axis x).arming = some m ∧ (t.axis x).lost = min (a.lost + 1) 65535 ∧
            (t.axis x).lossReported = true) ∧
        ∀ p, s.holds p (.axis x) = true → (s.session p).isOpen = true → (s.port p).notices.items.length ≤ 20 →
          s.vEvents = [] → (∀ g, (s.gen g).state ≠ .searching) →
          (a.log.length < 8 → m.remaining ≤ 1 →
            ∃ n ∈ (t.port p).notices.items, n.kind = .captureDone x m.source (a.log.length + 1)) ∧
          (8 ≤ a.log.length → a.lossReported = false →
            ∃ n ∈ (t.port p).notices.items, n.kind = .captureLost x m.source)
    (∀ (e : Encoder) (active : Bool), x = e.axis → m.source = .marker → s.lines.marker e ≠ active →
      m.edge.takes active = true →
      ∃ t, exec (.markerEdge e active) s = .next t ∧ t.lines = s.lines.setMarker e active ∧ captured t) ∧
    (∀ (l : RefLine) (high : Bool), m.source = .ref l → s.lines.ref l ≠ high → m.edge.takes high = true →
      ∃ t, exec (.referenceLineEdge l high) s = .next t ∧ t.lines = s.lines.setRef l high ∧ captured t)

/-! ### Events at the generators -/

/-- Each step that GV issues is one count event of axis V, with the sign of the step under GV's direction sense (R4): a step
of a POSITION or VELOCITY move in RUNNING or STOPPING in the move's direction, one of a search in SEARCHING or STOPPING in
its motion direction (R115), and one of a FOLLOW move's backlog in the backlog's direction (R99). Stated where no record
takes the place of a move that ends with the step, and where axis V stays within its range, LINEAR or ROTARY (R5, R6). -/
def Obligations.GvStepMovesAxisV : Prop :=
  ∀ (s : State) (m : CurrentMove) (c : Instr) (dir : StepDir), s.Lawful →
    let n := s.gen .gv
    let v := s.axis .v
    n.current = some m → (∀ k, m.remaining = some k → 2 ≤ k ∨ k = 1 ∧ n.queue = []) →
    (c = .generatorStep .gv ∧ (n.state = .running ∨ n.state = .stopping) ∧ m.search = none ∧
          (m.record.kind.code = 0 ∨ m.record.kind.code = 1) ∧ dir = m.dir) ∨
      (c = .generatorStep .gv ∧ (n.state = .searching ∨ n.state = .stopping) ∧
        ∃ f r, m.record.kind = .home f ∧ m.search = some r ∧ (n.state = .searching → r.steps < f.limit) ∧ dir = r.motion) ∨
      (c = .followBacklogStep .gv ∧ n.state = .following ∧ m.record.kind.code = 2 ∧ 0 < n.backlog ∧ dir = n.backlogDir) →
    (if dir = .up then n.counter < 2000000000 else -2000000000 < n.counter) →
    let count : Int := if (dir = .up ↔ n.sense = .normal) then 1 else -1
    v.status = .counting →
    (v.mode = .linear → -2000000000 ≤ v.position + count ∧ v.position + count ≤ 2000000000) →
    (v.mode = .rotary →
      if 0 < count then v.position + 1 < v.cycle ∨ v.turn < 32767 else 0 < v.position ∨ -32768 < v.turn) →
    ∃ t, exec c s = .next t ∧
      (t.gen .gv).counter = (if dir = .up then n.counter + 1 else n.counter - 1) ∧
      (t.axis .v).position =
        (match v.mode with
        | .linear => v.position + count
        | .rotary => (v.position + count) % v.cycle) ∧
      (t.axis .v).turn =
        (match v.mode with
        | .linear => 0
        | .rotary => v.turn + (v.position + count) / v.cycle) ∧
      (t.axis .v).status = .counting ∧ (t.axis .v).direction = (if 0 < count then .forward else .reverse) ∧
      t.axis .a = s.axis .a ∧ t.axis .b = s.axis .b

/-- The step that brings the remaining steps of a RUNNING POSITION move (R94), the distance limit of a RUNNING VELOCITY move
(R96) or that of a FOLLOW move, counted in either direction (R100), to 0 ends it with cause COMPLETE (R92): on G1 and G2,
with no record waiting, the generator stands IDLE and MOVE_ENDED goes to its holder. The step's pulse count and interval
speed are the model's own fields (log 4). -/
def Obligations.LastStepCompletesPositionMove : Prop :=
  ∀ (s : State) (g : GenId) (m : CurrentMove) (c : Instr) (dir : StepDir), g ≠ .gv → s.Lawful →
    let n := s.gen g
    (c = .generatorStep g ∧ n.state = .running ∧ (m.record.kind.code = 0 ∨ m.record.kind.code = 1) ∧ dir = m.dir) ∨
      (c = .followBacklogStep g ∧ n.state = .following ∧ m.record.kind.code = 2 ∧ 0 < n.backlog ∧ dir = n.backlogDir) →
    n.current = some m → m.search = none → m.remaining = some 1 →
    n.queue = [] → (s.claim (.generator g)).state = .held →
    (if dir = .up then n.counter < 2000000000 else -2000000000 < n.counter) →
    exec c s =
      .next
        ((s.modGen g fun _ => (n.afterStepOn m dir).atStandstill .idle).postHolder (.generator g)
          (.moveEnded g m.record.tag m.record.kind .complete (n.afterStepOn m dir).counter m.started none))

/-- A step of a POSITION or VELOCITY move that would leave the counter's range is not issued: the move ends, the queue
and the trigger are gone, and the counter stays at its bound (R85); axis V does not move (R4). -/
def Obligations.StepOutOfRangeEndsTheMove : Prop :=
  ∀ (s : State) (g : GenId) (m : CurrentMove), s.Lawful →
    let n := s.gen g
    n.state = .running ∨ n.state = .stopping → n.current = some m → m.search = none →
    m.record.kind.code = 0 ∨ m.record.kind.code = 1 → n.counter = (if m.dir = .up then 2000000000 else -2000000000) →
    ∃ t, exec (.generatorStep g) s = .next t ∧ (t.gen g).counter = n.counter ∧ (t.gen g).current = none ∧
      (t.gen g).queue = [] ∧ (t.gen g).pendingTrigger = false ∧
      (t.gen g).state = (if n.halt then .halted else .idle) ∧ t.axes = s.axes

/-- A step of a POSITION or VELOCITY move on G1 or G2, in RUNNING or STOPPING, moves the step counter by one in the move's
direction, shows it on the lines, and counts it in the move's progress (R84, R93, R94); nothing else changes while steps
remain. A step of a search moves the counter in the search's motion direction and counts as a search step (R84, R115).
While the backlog of a FOLLOW move is not empty, its steps go out in the backlog's direction, and the count falls by one
at each (R99).
A count event of its source axis adds the numerator with the event's sign to the accumulator of a FOLLOW move, which is
reduced by the denominator, and the steps due join the backlog, opposite ones cancelling (R98, R99); a backlog that would
exceed 64 ends the move FOLLOW_OVERSPEED with its queue flushed; 12 notices in the holder's queue leave room for all that
the event can post to it. The step pulse count and the interval speed are the model's own fields (log 4), and so is the
direction UP of an empty backlog (log 17). -/
def Obligations.StepMovesCounterAndLines : Prop :=
  (∀ (s : State) (g : GenId) (m : CurrentMove), g ≠ .gv → s.vEvents = [] →
     let n := s.gen g
     n.state = .running ∨ n.state = .stopping → n.current = some m → m.search = none →
     m.record.kind.code = 0 ∨ m.record.kind.code = 1 → (∀ k, m.remaining = some k → 2 ≤ k) →
     (if m.dir = .up then n.counter < 2000000000 else -2000000000 < n.counter) →
     -2000000000 ≤ n.counter → n.counter ≤ 2000000000 →
     exec (.generatorStep g) s = .next (s.modGen g fun _ => n.afterStepOn m m.dir)) ∧
  (∀ (s : State) (g : GenId) (m : CurrentMove) (f : HomeFields) (r : SearchRecord), g ≠ .gv → s.vEvents = [] →
     let n := s.gen g
     n.state = .searching → n.current = some m → m.record.kind = .home f → m.search = some r → m.remaining = none →
     r.steps < f.limit → (if r.motion = .up then n.counter < 2000000000 else -2000000000 < n.counter) →
     -2000000000 ≤ n.counter → n.counter ≤ 2000000000 →
     exec (.generatorStep g) s =
       .next
         (s.modGen g fun _ => n.afterStepOn { m with search := some { r with steps := r.steps + 1 } } r.motion)) ∧
  (∀ (s : State) (g : GenId) (m : CurrentMove) (source : AxisId) (num : Int) (den : Nat) (limit : Option Nat),
     g ≠ .gv → s.vEvents = [] →
     let n := s.gen g
     n.state = .following → n.current = some m → m.search = none → m.record.kind = .follow source num den limit →
     0 < n.backlog → (∀ k, m.remaining = some k → 2 ≤ k) →
     (if n.backlogDir = .up then n.counter < 2000000000 else -2000000000 < n.counter) →
     -2000000000 ≤ n.counter → n.counter ≤ 2000000000 →
     exec (.followBacklogStep g) s =
       .next
         (s.modGen g fun _ =>
           { n.afterStepOn m n.backlogDir with
             backlog := n.backlog - 1, backlogDir := if n.backlog = 1 then .up else n.backlogDir })) ∧
  ∀ (s : State) (e : Encoder) (phase1 phase2 : Bool) (d : AxisDir) (g : GenId) (m : CurrentMove) (num : Int) (den : Nat)
    (limit : Option Nat), s.Lawful →
    quadrature (s.lines.pair e) { phase1 := phase1, phase2 := phase2 } = some d → 1 ≤ den →
    let n := s.gen g
    n.state = .following → n.current = some m → m.record.kind = .follow e.axis num den limit →
    let forward : Bool := decide (((s.axis e.axis).sense = .normal) ↔ d = .forward)
    let sum : Int := n.accumulator + if forward then num else -num
    let held : Int := (if n.backlogDir = .up then (n.backlog : Int) else -n.backlog) + sum / den
    ∃ t, exec (.encoderTransition e phase1 phase2) s = .next t ∧ (t.gen g).counter = n.counter ∧
      (-64 ≤ held → held ≤ 64 →
        (t.gen g).state = .following ∧ (t.gen g).current = some m ∧ (t.gen g).queue = n.queue ∧
          ((t.gen g).accumulator : Int) = sum % den ∧ (t.gen g).backlog = held.natAbs ∧
          (t.gen g).backlogDir = (if 0 ≤ held then .up else .down)) ∧
      (held < -64 ∨ 64 < held →
        (t.gen g).state = .idle ∧ (t.gen g).current = none ∧ (t.gen g).queue = [] ∧ (t.gen g).accumulator = 0 ∧
          (t.gen g).backlog = 0 ∧
          ∀ p, s.holds p (.generator g) = true → s.compareList e.axis = [] → (s.port p).notices.items.length ≤ 12 →
            ∃ k ∈ (t.port p).notices.items,
              k.kind = .moveEnded g m.record.tag m.record.kind .followOverspeed n.counter m.started none)

/-- A ramp timer expiry of a RUNNING POSITION move (R95), and of a VELOCITY move with a distance limit that is not
superseded (R96): with b the braking distance (v² - s²)/(2·d·1000), rounded up, RAMP_DOWN at or below it, else RAMP_UP
below the peak, else CRUISE; a move that RAMP_DOWN has brought to its start speed goes on at it (log 18). Nothing but
speed, phase and the timer changes. A ramp timer expiry of a VELOCITY move without a distance limit rises to the peak
(R96). One of a superseded VELOCITY move, with a limit or without, falls by the decel rate while it stays above its
start speed; where it would not, the move ends with ENDED_BY_NEXT, of which its holder hears, and the head of the queue
becomes current (an ON_TRIGGER one with its distance limit whole, log 22), or, where a flush has emptied the queue, the
generator is IDLE (R97, R92, R90). One of a SEEK rises to the search speed, and once the reference is found falls to the
creep speed, where the phase becomes CREEP (R118). -/
def Obligations.RampTimerFollowsTheProfile : Prop :=
  (∀ (s : State) (g : GenId) (m : CurrentMove) (start peak accel decel left : Nat), s.vEvents = [] → 1 ≤ decel →
     let n := s.gen g
     let v := n.speed
     n.state = .running → n.rampLeft = some 0 → n.current = some m →
     (∃ mode target, m.record.kind = .position mode target start peak accel decel) ∨
       (∃ dir limit, m.record.kind = .velocity dir start peak accel decel limit) ∧ n.endByNext = false →
     m.remaining = some left → start ≤ v →
     let b := ⌈((v : ℚ) ^ 2 - (start : ℚ) ^ 2) / (2 * (decel : ℚ) * 1000)⌉₊
     let brakes := left ≤ b ∨ n.phase = some .rampDown ∧ v = start
     (brakes →
       exec (.rampTimerExpiry g) s =
         .next
           (s.modGen g fun _ => { n with speed := max (v - decel) start, phase := some .rampDown, rampLeft := some 1 })) ∧
     (¬brakes → v < peak →
       exec (.rampTimerExpiry g) s =
         .next
           (s.modGen g fun _ => { n with speed := min (v + accel) peak, phase := some .rampUp, rampLeft := some 1 })) ∧
     (¬brakes → peak ≤ v →
       exec (.rampTimerExpiry g) s =
         .next (s.modGen g fun _ => { n with phase := some .cruise, rampLeft := some 1 }))) ∧
  ∀ (s : State) (g : GenId) (m : CurrentMove), s.vEvents = [] →
    let n := s.gen g
    let v := n.speed
    n.rampLeft = some 0 → n.current = some m →
    (∀ (dir : StepDir) (start peak accel decel : Nat) (limit : Option Nat),
      n.state = .running → m.record.kind = .velocity dir start peak accel decel limit →
      (n.endByNext = false → m.remaining = none →
        exec (.rampTimerExpiry g) s =
          .next
            (s.modGen g fun _ =>
              { n with
                speed := min (v + accel) peak
                phase := some (if v + accel < peak then .rampUp else .cruise)
                rampLeft := some 1 })) ∧
      (n.endByNext = true → start + decel < v →
        exec (.rampTimerExpiry g) s =
          .next (s.modGen g fun _ => { n with speed := v - decel, phase := some .rampDown, rampLeft := some 1 })) ∧
      (n.endByNext = true → v ≤ start + decel → s.Lawful →
        ∃ t, exec (.rampTimerExpiry g) s = .next t ∧ s.EndedByNext t g m n.queue)) ∧
    ∀ (f : HomeFields) (r : SearchRecord),
      n.state = .searching → m.record.kind = .home f → m.search = some r → r.phase = .seek →
      (r.found = false →
        exec (.rampTimerExpiry g) s =
          .next (s.modGen g fun _ => { n with speed := min (v + f.accel) f.searchSpeed, rampLeft := some 1 })) ∧
      (r.found = true → f.creepSpeed + f.decel < v →
        exec (.rampTimerExpiry g) s =
          .next (s.modGen g fun _ => { n with speed := v - f.decel, rampLeft := some 1 })) ∧
      (r.found = true → v ≤ f.creepSpeed + f.decel →
        exec (.rampTimerExpiry g) s =
          .next
            (s.modGen g fun _ =>
              { n with
                speed := f.creepSpeed
                rampLeft := some 1
                current := some { m with search := some { r with phase := .creep } } }))

/-- A ramp timer expiry in STOPPING (R102), where the floor of a POSITION or VELOCITY move is its start speed and that of a
HOME move its creep speed: above the floor the speed falls by the rate in force; where it comes to the
floor motion ends, the move is gone, and the generator is IDLE, or HALTED while halt is in force. A step in STOPPING that
brings the remaining steps of a POSITION move, or the distance limit of a VELOCITY move, to 0 ends the move there too, the
counter one step on. MOVE_ENDED goes to the holder of the claim with the stop's cause: HALTED at the halt rate, else
NOT_FOUND for a failed search (R121), else STOPPED. -/
def Obligations.StoppingGeneratorSlowsToItsFloor : Prop :=
  (∀ (k : MoveKind) (start : Nat),
     (∀ mode target peak accel decel, k = .position mode target start peak accel decel → k.floor = start) ∧
     (∀ dir peak accel decel limit, k = .velocity dir start peak accel decel limit → k.floor = start) ∧
     ∀ f, k = .home f → k.floor = f.creepSpeed) ∧
  ∀ (s : State) (g : GenId) (m : CurrentMove), s.Lawful →
    let n := s.gen g
    let rate := if n.stopRate = some .halt then n.haltDecel else n.stopDecel
    let floor := m.record.kind.floor
    n.state = .stopping → n.current = some m →
    let cause : EndCause :=
      if n.stopRate = some .halt then .halted
      else if (m.search.bind SearchRecord.mark).isSome then .notFound else .stopped
    let ended (t : State) (counter : Int) : Prop :=
      (t.gen g).current = none ∧ (t.gen g).speed = 0 ∧ (t.gen g).counter = counter ∧
        (t.gen g).state = (if n.halt then .halted else .idle) ∧
        ∀ p, s.holds p (.generator g) = true → (s.port p).notices.items.length < 24 →
          ∃ k ∈ (t.port p).notices.items, ∃ search,
            k.kind = .moveEnded g m.record.tag m.record.kind cause counter m.started search
    (n.rampLeft = some 0 → floor + rate < n.speed →
      exec (.rampTimerExpiry g) s =
        .next (s.modGen g fun _ => { n with speed := n.speed - rate, rampLeft := some 1 })) ∧
    (n.rampLeft = some 0 → n.speed ≤ floor + rate →
      ∃ t, exec (.rampTimerExpiry g) s = .next t ∧ ended t n.counter) ∧
    (m.record.kind.code = 0 ∨ m.record.kind.code = 1 → m.search = none → m.remaining = some 1 →
      (if m.dir = .up then n.counter < 2000000000 else -2000000000 < n.counter) →
      ∃ t, exec (.generatorStep g) s = .next t ∧
        ended t (if m.dir = .up then n.counter + 1 else n.counter - 1))

/-- R101: an IMMEDIATE DWELL move appended to an IDLE generator enters DWELLING and starts a dwell timer of its
duration; in DWELLING no step is issued; when the timer runs out, with no record waiting, the move ends with cause
COMPLETE; a later append does not supersede it, and the appended record waits. -/
def Obligations.DwellMoveWaitsItsTime : Prop :=
  (∀ (s : State) (p : PortId) (seq gen : Byte) (g : GenId) (raw : RawMove) (tag : Half) (ms : Nat),
    s.ServesSession p seq → s.Lawful → genOf gen = some g → s.holds p (.generator g) = true →
    (s.gen g).state = .idle →
    moveOf g (s.gen g).maxRate raw = some { tag := tag, start := .immediate, kind := .dwell ms } →
    ∃ t, exec (.appendMove p seq gen raw) s = .next t ∧ (t.gen g).state = .dwelling ∧
      (t.gen g).dwellLeft = some ms ∧ (t.gen g).counter = (s.gen g).counter ∧ t.axes = s.axes ∧
      (t.gen g).current.map CurrentMove.record = some { tag := tag, start := .immediate, kind := .dwell ms }) ∧
  (∀ (s : State) (g : GenId), (s.gen g).state = .dwelling → exec (.generatorStep g) s = .next s) ∧
  (∀ (s : State) (g : GenId) (m : CurrentMove) (ms : Nat), s.Lawful →
    (s.gen g).state = .dwelling → (s.gen g).dwellLeft = some 0 → (s.gen g).current = some m →
    m.record.kind = .dwell ms → (s.gen g).queue = [] → (s.claim (.generator g)).state = .held →
    exec (.dwellTimerExpiry g) s =
      .next
        ((s.modGen g fun n => n.atStandstill .idle).postHolder (.generator g)
          (.moveEnded g m.record.tag m.record.kind .complete (s.gen g).counter m.started none))) ∧
  ∀ (s : State) (p : PortId) (seq gen : Byte) (g : GenId) (raw : RawMove) (r : MoveRecord),
    s.ServesSession p seq → s.Lawful → genOf gen = some g → s.holds p (.generator g) = true →
    (s.gen g).state = .dwelling → moveOf g (s.gen g).maxRate raw = some r → (s.gen g).queue.length < 8 →
    exec (.appendMove p seq gen raw) s =
      .next
        (((s.received p seq (.appendMove gen raw)).modGen g fun n => { n with queue := n.queue ++ [r] }).answered p seq
          [0x61, 0x00, BitVec.ofNat 8 ((s.gen g).queue.length + 1)])

/-- A reference search on its way. Its start (R116, R93): an appended IMMEDIATE HOME move on G1 or G2 enters SEARCHING at
the creep speed, in CLEARING against the search direction where its line is high, in SEEK otherwise, its first step
issued. The falling edge of its line ends CLEARING (R117); in SEEK the rising edge sets reference found, and at the
creep speed enters CREEP; a falling edge there is an overrun with a marker count of 0, and is ignored with one above
(R118). A marker below the count is counted in CREEP; the edge that ends CREEP completes the search: the falling edge of
its line with a marker count of 0, or the marker edge that brings the count to N; the counter takes the home value and,
with no record waiting, the generator is IDLE without a move (R119, R120).
A failed search, by overrun or by the step that passes the search limit, has its queue and trigger gone, and slows down
in STOPPING at the STOP rate, or is ended where the speed is at the creep speed already (R121). The step pulse count,
the interval speed, the step line's level between pulses and the first step put off are the model's own fields (log 4,
log 7). -/
def Obligations.FinalEdgeCompletesTheSearch : Prop :=
  (∀ (s : State) (p : PortId) (seq gen : Byte) (g : GenId) (raw : RawMove) (r : MoveRecord) (f : HomeFields), g ≠ .gv →
     s.ServesSession p seq → s.Lawful → genOf gen = some g → s.holds p (.generator g) = true →
     (s.gen g).state = .idle → moveOf g (s.gen g).maxRate raw = some r → r.start = .immediate → r.kind = .home f →
     let n := s.gen g
     n.counter < 2000000000 → -2000000000 < n.counter →
     let high : Bool := s.lines.ref f.line
     let up : Bool := if high then decide (f.direction = .down) else decide (f.direction = .up)
     ∃ t, exec (.appendMove p seq gen raw) s = .next t ∧
       t.gen g =
         { n with
           state := .searching, speed := f.creepSpeed, rampLeft := some 1
           counter := if up then n.counter + 1 else n.counter - 1
           dirLine := if (up = true ↔ n.sense = .normal) then .high else .low
           stepLine := .low, stepPulses := n.stepPulses + 1, intervalSpeed := f.creepSpeed, firstStepDue := false
           current :=
             some
               { record := r, started := true, issued := 1, remaining := none, dir := f.direction
                 search :=
                   some
                     { phase := if high then .clearing else .seek, motion := if up then .up else .down, found := false,
                       markers := 0, steps := 1, mark := none } } } ∧
       t.axes = s.axes) ∧
  ∀ (s : State) (g : GenId) (m : CurrentMove) (f : HomeFields) (r : SearchRecord), s.Lawful →
    let n := s.gen g
    n.state = .searching → n.current = some m → m.record.kind = .home f → m.search = some r →
    let goesOn (t : State) (r' : SearchRecord) : Prop :=
      (t.gen g).current = some { m with search := some r' } ∧ (t.gen g).state = .searching ∧
        (t.gen g).speed = n.speed ∧ (t.gen g).counter = n.counter ∧ (t.gen g).queue = n.queue
    let homed (t : State) : Prop :=
      (t.gen g).counter = f.home ∧ (t.gen g).state = .idle ∧ (t.gen g).current = none ∧ (t.gen g).speed = 0
    let failed (t : State) (mark : NotFound) (r' : SearchRecord) : Prop :=
      (t.gen g).queue = [] ∧
        (f.creepSpeed < n.speed →
          (t.gen g).state = .stopping ∧ (t.gen g).stopRate = some .stop ∧ (t.gen g).speed = n.speed ∧
            (t.gen g).pendingTrigger = false ∧
            (t.gen g).current.bind CurrentMove.search = some { r' with mark := some mark }) ∧
        (n.speed ≤ f.creepSpeed →
          (t.gen g).state = .idle ∧ (t.gen g).speed = 0 ∧ (t.gen g).current = none)
    (r.phase = .clearing → s.lines.ref f.line = true →
      ∃ t, exec (.referenceLineEdge f.line false) s = .next t ∧
        goesOn t { r with phase := .seek, motion := f.direction, found := false }) ∧
    (r.phase = .seek → r.found = false → s.lines.ref f.line = false →
      ∃ t, exec (.referenceLineEdge f.line true) s = .next t ∧
        goesOn t { r with found := true, phase := if n.speed ≤ f.creepSpeed then .creep else .seek }) ∧
    (r.phase = .seek → r.found = true → s.lines.ref f.line = true →
      ∃ t, exec (.referenceLineEdge f.line false) s = .next t ∧
        (1 ≤ f.markerCount → goesOn t r) ∧
        (f.markerCount = 0 → failed t .overrun r ∧ (t.gen g).counter = n.counter)) ∧
    (∀ e, r.phase = .creep → f.markerAxis = some e → r.markers + 1 < f.markerCount → s.lines.marker e = false →
      ∃ t, exec (.markerEdge e true) s = .next t ∧ goesOn t { r with markers := r.markers + 1 }) ∧
    (r.phase = .creep → n.queue = [] → f.markerCount = 0 → s.lines.ref f.line = true →
      ∃ t, exec (.referenceLineEdge f.line false) s = .next t ∧ homed t) ∧
    (∀ e, r.phase = .creep → n.queue = [] → f.markerAxis = some e → 1 ≤ f.markerCount →
      r.markers + 1 = f.markerCount → s.lines.marker e = false →
      ∃ t, exec (.markerEdge e true) s = .next t ∧ homed t) ∧
    (r.steps = f.limit → m.remaining = none → -2000000000 < n.counter → n.counter < 2000000000 →
      ∃ t, exec (.generatorStep g) s = .next t ∧
        (t.gen g).counter = (if r.motion = .up then n.counter + 1 else n.counter - 1) ∧
        failed t .limit { r with steps := f.limit + 1 })

/-! ### Events at the outputs, the halt monitor and the sessions -/

/-- The expiry of a pulse timer clears timer and overlay, and the line takes the level that is left (R72, R69); nothing
else changes. -/
def Obligations.PulseExpiryClearsTheOverlay : Prop :=
  ∀ (s : State) (o : OutputId), (s.channel o).pulse = some 0 →
    let c := s.channel o
    let below : Level := if c.mode = .manual then c.manual else if c.cam then .high else .low
    exec (.pulseTimerExpiry o) s =
      .next
        { s with
          channels :=
            s.channels.set o { c with pulse := none, overlay := .none, line := if c.halt then c.fallback else below } }

/-- An assertion of HALT enters ACTIVE from CLEAR and LATCHED, and a release LATCHED from ACTIVE (R126). With the assertion
from CLEAR each receiver takes the change, or has still to take it and stands as it was (R127): a line takes its
fallback level (R71); a generator loses queue and trigger and, by its state (R108, Table 5.7), slows down in STOPPING at
the halt decel rate with speed and move kept, from RUNNING or SEARCHING above its floor, goes on in STOPPING at that
rate, or is HALTED, its move ended with cause HALTED, of which its holder hears.
Otherwise no channel and no generator changes (R71, R108).
Each change posts HALT_CHANGED to every session that has subscribed to it, with the states, the cause and station 0
(R128); 16 notices in a queue leave room for all that an assertion can post to it.
Every receiver has taken the change before a second line event is taken (R127): first the receivers that still wait take
it, the others standing as they are, and the response to a Clear Halt that waits for them goes to the transmitter
(R129). On an empty queue some of them do, one at least. Which receivers wait is a free value, and that they go on there
is the model's choice (log 9, log 19). -/
def Obligations.HaltLineEventsReachEveryReceiver : Prop :=
  (∀ s : State, s.Lawful → s.halt ≠ .active →
     let b := s.completeHandOver
     ∃ t, exec .haltAssertion s = .next t ∧ t.halt = .active ∧ t.lines = { s.lines with haltAsserted := true } ∧
       (s.halt = .clear → ∀ r : HaltReceiver, if r ∈ t.handing then r.Stood b t else r.Took b t true) ∧
       (∀ g m p, s.halt = .clear → (b.gen g).current = some m → (b.gen g).haltTaken.state = .halted →
         b.holds p (.generator g) = true → (b.port p).notices.items.length ≤ 16 →
         ∃ n ∈ (t.completeHandOver.port p).notices.items, ∃ search,
           n.kind = .moveEnded g m.record.tag m.record.kind .halted (b.gen g).counter m.started search) ∧
       (s.halt = .latched → t.handing = [] ∧ t.channels = s.channels ∧ t.gens = s.gens) ∧
       t.axes = s.axes ∧ t.slots = s.slots ∧ t.compares = s.compares ∧ t.clearing = none ∧
       (∀ p, t.session p = s.session p) ∧
       ∀ p, (s.session p).isOpen = true → (s.session p).subs.haltChanged = true →
         (b.port p).notices.items.length ≤ 16 →
         ∃ n ∈ (t.port p).notices.items, n.kind = .haltChanged .active s.halt .lineAsserted 0) ∧
  (∀ s : State, s.Lawful → s.halt = .active →
     let b := s.completeHandOver
     ∃ t, exec .haltRelease s = .next t ∧ t.halt = .latched ∧ t.lines = { s.lines with haltAsserted := false } ∧
       t.handing = [] ∧ t.channels = b.channels ∧ t.gens = b.gens ∧ t.axes = s.axes ∧ t.slots = s.slots ∧
       t.compares = s.compares ∧ t.claims = b.claims ∧ (∀ p, t.session p = s.session p) ∧
       ∀ p, (s.session p).isOpen = true → (s.session p).subs.haltChanged = true →
         (b.port p).notices.items.length < 24 →
         ∃ n ∈ (t.port p).notices.items, n.kind = .haltChanged .latched .active .lineReleased 0) ∧
  ∀ s : State, s.Lawful →
    let handsOn (b : State) : Prop :=
      (s.handing = [] → b = s) ∧ (∀ r ∈ b.handing, r ∈ s.handing) ∧
        (∀ r : HaltReceiver,
          if r ∈ s.handing ∧ r ∉ b.handing then r.Took s b (decide (s.halt ≠ .clear)) else r.Stood s b) ∧
        b.halt = s.halt ∧ b.lines = s.lines ∧ b.axes = s.axes ∧ b.slots = s.slots ∧ b.compares = s.compares ∧
        b.commits = s.commits ∧ b.now = s.now ∧ b.pending = s.pending ∧ (∀ p, b.session p = s.session p) ∧
        (if b.handing = [] then
          b.clearing = none ∧
            ∀ (p : PortId) (h : Intake) (rest : List Intake), s.clearing = some p → (s.port p).intake = h :: rest →
              (b.port p).Answers h.seq [0x71, 0x00, 0x00]
        else b.clearing = s.clearing)
    handsOn s.completeHandOver ∧ s.completeHandOver.handing = [] ∧ handsOn s.continueHandOver ∧
      (s.handing ≠ [] → s.continueHandOver.handing.length < s.handing.length) ∧
      (s.pending = [] → step s = .next s.continueHandOver)

/-- A session end, by lapse of the lease (R150), by a link break (R179) or by the end of the response to Close Session
(R153), leaves nothing of the session (R157, R158): no record, notice, cached response, pending commit, compare entry,
claim or wait. What it held goes back (R142, R143): its windows are erased and its outputs stand in MANUAL at their
fallback level (R44, R81), the captures of its axes are cleared (R21), a generator in motion above its floor slows down
with its claim RELEASING and any other is at rest (R110); each claim goes to its oldest waiter or is FREE (R140). No
other resource, window or claim changes but that the session waits for none. The compare entries of other sessions keep
their places (R66) and their pending commits stay (R46, R158); no other session changes, and each that has
subscribed to SESSION_ENDED and has room receives it with the cause (R159). The halt state and the ids to come stand. -/
def Obligations.SessionEndLeavesNothing : Prop :=
  ∀ (s : State) (p : PortId), s.Lawful → (s.session p).isOpen = true →
    let ended (t : State) (cause : SessionCause) : Prop :=
      t.NothingOf p ∧ s.GaveBack t p ∧ (∀ q, q ≠ p → t.session q = s.session q) ∧ t.halt = s.halt ∧
        (∀ x, t.compareList x = (s.compareList x).filter fun e => decide (e.owner ≠ p)) ∧
        (∀ q x, q ≠ p → t.hasCommit q x = s.hasCommit q x) ∧
        t.nextCompareId = s.nextCompareId ∧
        ∀ q, q ≠ p → (s.session q).isOpen = true → (s.session q).subs.sessionEnded = true →
          (s.port q).notices.items.length < 24 →
          ∃ n ∈ (t.port q).notices.items, n.kind = .sessionEnded (s.session p).station p cause
    ((s.session p).leaseLeft = some 0 → ∃ t, exec (.leaseExpiry p) s = .next t ∧ ended t .lapsed) ∧
    ((s.port p).atSpace = false → ∃ t, exec (.linkBreak p) s = .next t ∧ ended t .brk) ∧
    ∀ (h : Intake) (bytes : List Byte), (s.port p).intake = [h] →
      (s.port p).tx = some { kind := .response true, bytes := bytes } →
      ∃ t, exec (.frameEnd p) s = .next t ∧ ended t .closed

/-- The device millisecond count advances by one, wrapping after 2^32 - 1, and every running timer comes a millisecond
nearer to its expiry (R162; log 3); every other field of the axis, channel, generator and port records stands, and so do
the windows, the compare entries, the claims, the pending commits and the halt state. All this from the state in which
more receivers, where some still wait, have taken the halt change before (R127): that they go on here is the model's
choice (log 19); with none waiting it is the state itself. -/
def Obligations.MillisecondAdvancesTheClocks : Prop :=
  ∀ s : State,
    let b := s.continueHandOver
    (s.handing = [] → b = s) ∧
    ∃ t, exec .deviceMillisecondIncrement s = .next t ∧ t.now.toNat = (s.now.toNat + 1) % 4294967296 ∧
      (∀ x, t.axis x = { b.axis x with gateLeft := (b.axis x).gateLeft - 1 }) ∧
      (∀ o, t.channel o = { b.channel o with pulse := (b.channel o).pulse.map fun n => n - 1 }) ∧
      (∀ g, t.gen g =
        { b.gen g with
          rampLeft := (b.gen g).rampLeft.map fun n => n - 1
          dwellLeft := (b.gen g).dwellLeft.map fun n => n - 1 }) ∧
      (∀ p, t.port p =
        { b.port p with
          session := { b.session p with leaseLeft := (b.session p).leaseLeft.map fun n => n - 1 } }) ∧
      t.slots = s.slots ∧ t.compares = s.compares ∧ t.claims = b.claims ∧ t.commits = s.commits ∧ t.halt = s.halt ∧
      t.handing = b.handing ∧ t.clearing = b.clearing

/-! ### Events on a link -/

/-- A byte is a character of ten levels on the line: a start bit at space, eight data bits least significant first, and a
stop bit at mark; a character whose stop bit is at space is no byte and leaves the receiver as it was (R175). That a bit
1 is mark is the model's reading (log 23). A transmit line stands at mark where nothing is in transmission (R175, R185),
and carries the characters of the frame in transmission in their order, then mark: that no idle time stands between
them, where R175 allows some, is the model's choice (log 25).
The receiver takes each byte in its state as Table 11.3 gives (R177), up to the first byte of the CRC: 0xC7 begins a
frame in HUNT, a LEN above 120 discards it and is counted (R178).
A gap discards the frame being received and is counted (R178); in HUNT no gap is measured. -/
def Obligations.ReceiverTakesEachByte : Prop :=
  (∀ b : Byte,
     (characterLevels b).length = 10 ∧ (characterLevels b)[0]? = some .space ∧
       (characterLevels b)[9]? = some .mark ∧
       (∀ i : Fin 8, (characterLevels b)[i.val + 1]? = some (if b.getLsbD i then .mark else .space)) ∧
       ∀ (s : State) (p : PortId), exec (.byteTaken p b) s = .next (s.takeCharacter p (characterLevels b))) ∧
  (∀ (levels : List SerialLevel) (s : State) (p : PortId), levels.length = 10 → levels[9]? = some .space →
     s.takeCharacter p levels = s) ∧
  (∀ (q : Port) (k : Nat),
     (q.tx = none → q.transmitLevel k = .mark) ∧
     ∀ f, q.tx = some f →
       (10 * f.bytes.length ≤ k → q.transmitLevel k = .mark) ∧
       ∀ (i : Nat) (b : Byte), f.bytes[i]? = some b → k < 10 →
         (characterLevels b)[k]? = some (q.transmitLevel (10 * i + k))) ∧
  (∀ (s : State) (p : PortId) (b type seq len : Byte) (got : List Byte), (s.port p).atSpace = false →
     let enters (rx : Receiver) : State := s.modPort p fun q => { q with rx := rx }
     ((s.port p).rx = .hunt →
       exec (.byteTaken p b) s = .next (if b = 0xC7 then enters .headerType else s)) ∧
     ((s.port p).rx = .headerType → exec (.byteTaken p b) s = .next (enters (.headerSeq b))) ∧
     ((s.port p).rx = .headerSeq type → exec (.byteTaken p b) s = .next (enters (.headerLen type b))) ∧
     ((s.port p).rx = .headerLen type seq →
       exec (.byteTaken p b) s =
         .next
           (if b = 0 then enters (.checkHigh type seq b [])
           else if b.toNat ≤ 120 then enters (.body type seq b [])
           else
             s.modPort p fun q =>
               { q with
                 rx := .hunt
                 faults := { q.faults with length := min (q.faults.length + 1) 65535 } })) ∧
     ((s.port p).rx = .body type seq len got →
       exec (.byteTaken p b) s =
         .next
           (if len.toNat ≤ got.length + 1 then enters (.checkHigh type seq len (got ++ [b]))
           else enters (.body type seq len (got ++ [b])))) ∧
     ((s.port p).rx = .checkHigh type seq len got → exec (.byteTaken p b) s = .next (enters (.checkLow type seq len got b)))) ∧
  ∀ (s : State) (p : PortId),
    exec (.gapAbort p) s =
      .next
        (if (s.port p).rx = .hunt then s
        else
          s.modPort p fun q =>
            { q with rx := .hunt, faults := { q.faults with gapAbort := min (q.faults.gapAbort + 1) 65535 } })

/-- A complete frame is judged at its second CRC byte, the CRC first (R178): a wrong CRC and an intact frame that is no
request are counted and leave nothing else; an intact request frame is the request row of its body (log 1). -/
def Obligations.CompleteFrameIsJudged : Prop :=
  ∀ (s : State) (p : PortId) (type seq len high low : Byte) (body : List Byte), (s.port p).atSpace = false →
    (s.port p).rx = .checkLow type seq len body high →
    let crc := crc16 (type :: seq :: len :: body)
    (crc ≠ high ++ low →
      exec (.frameComplete p low) s =
        .next
          (s.modPort p fun q =>
            { q with rx := .hunt, faults := { q.faults with crc := min (q.faults.crc + 1) 65535 } })) ∧
    (crc = high ++ low → type ≠ 0x51 →
      exec (.frameComplete p low) s =
        .next
          (s.modPort p fun q =>
            { q with rx := .hunt, faults := { q.faults with foreign := min (q.faults.foreign + 1) 65535 } })) ∧
    (crc = high ++ low → type = 0x51 → ∀ c, c.asRequest = some (p, seq, Request.ofBody body) →
      exec (.frameComplete p low) s = exec c (s.modPort p fun q => { q with rx := .hunt }))

/-- The bytes of a request frame (R176), taken one after another by a receiver in HUNT (R177), deliver the request of
their body: the steps over the queue of these bytes come to the state of that request row. -/
def Obligations.FrameBytesDeliverTheirRequest : Prop :=
  ∀ (s : State) (p : PortId) (seq : Byte) (body : List Byte) (c : Instr), (s.port p).atSpace = false →
    (s.port p).rx = .hunt → body.length ≤ 120 → c.asRequest = some (p, seq, Request.ofBody body) →
    let bytes := frameBytes 0x51 seq body
    bytes.length = body.length + 6 ∧
      core.run bytes.length { s with pending := bytes.map (.byteTaken p) } = exec c { s with pending := [] }

/-- A link break acts once in a spell at space (R179): on a port without a session it empties receiver, intake, cache
and waiting response, leaves the frame in transmission to complete, and leaves other ports, claims, generators and axes as
they are; the line back at mark lets bytes be taken again. -/
def Obligations.LinkBreakEmptiesThePort : Prop :=
  ∀ (s : State) (p : PortId),
    ((s.port p).atSpace = true → exec (.linkBreak p) s = .next s) ∧
    ((s.port p).atSpace = false → (s.session p).isOpen = false →
      ∃ t, exec (.linkBreak p) s = .next t ∧ (t.port p).rx = .hunt ∧ (t.port p).atSpace = true ∧
        (t.port p).intake = [] ∧ (t.port p).cache = none ∧ (t.port p).waiting = none ∧
        (t.port p).tx.map TxFrame.bytes = (s.port p).tx.map TxFrame.bytes ∧ (t.port p).faults = (s.port p).faults ∧
        (∀ q, q ≠ p → t.port q = s.port q) ∧ t.claims = s.claims ∧ t.gens = s.gens ∧ t.axes = s.axes) ∧
    exec (.lineReturnsToMark p) s = .next (s.modPort p fun q => { q with atSpace := false })

/-- At the end of a frame a waiting response starts first (R184); the end of a response frees its intake slot (R181). With no
response waiting and no request held, at the end of a response or of a notice, the oldest UNSENT notice goes on the line
where fewer than eight are SENT (R184, R167, R168). Where a request is held behind it, that request is taken
and its response stands at the transmitter, which may send a notice first: R181 and R184 leave the order of the two open
(log 6); only that of a Clear Halt whose change some receiver has still to take waits (R129; log 19). A command that
ends a frame on an idle transmitter cannot occur, and does nothing (log 2). At its expiry the resend timer makes every
SENT notice UNSENT and stops until one is sent again (R171): the whole effect while a frame is in transmission; on an
idle transmitter the oldest notice starts at once (R168). An expiry command before the count is reached cannot occur,
and does nothing (log 2, log 3).
The body of a notice frame is laid out as R188 gives it: number, kind, lost-before count and device time, then the
fields of its kind (Table 12.7), a field that does not apply at 0. -/
def Obligations.TransmitterEndsAndResends : Prop :=
  (let one (n : Nat) : List Byte := [BitVec.ofNat 8 n]
   let bit (b : Bool) : List Byte := one (if b then 1 else 0)
   let axisId (x : AxisId) : List Byte := one (match x with | .a => 0x18 | .b => 0x19 | .v => 0x1A)
   let genId (g : GenId) : List Byte := one (match g with | .g1 => 0x10 | .g2 => 0x11 | .gv => 0x12)
   let resource (r : Resource) : List Byte := match r with | .output o => one o.val | .generator g => genId g | .axis x => axisId x
   let source (c : CaptureSource) : List Byte :=
     one (match c with | .marker => 0 | .ref .ref0 => 1 | .ref .ref1 => 2 | .ref .ref2 => 3 | .ref .ref3 => 4 | .compare => 5)
   let dir (d : AxisDir) : List Byte := one (match d with | .forward => 0 | .reverse => 1)
   let kind (k : MoveKind) : List Byte :=
     one (match k with
       | .position _ _ _ _ _ _ => 0 | .velocity _ _ _ _ _ _ => 1 | .follow _ _ _ _ => 2 | .dwell _ => 3 | .home _ => 4)
   let phase (f : SearchPhase) : List Byte := one (match f with | .clearing => 0 | .seek => 1 | .creep => 2 | .final => 3)
   let gave (c : ClaimCause) : List Byte := one (match c with | .released => 0 | .sessionEnded => 1)
   let halt (h : HaltState) : List Byte := one (match h with | .clear => 0 | .active => 1 | .latched => 2)
   let fields (k : NoticeKind) : Nat × List Byte := match k with
     | .compareFired id tag axis position direction action result disposition turn place remaining =>
       (0x01, bytesOf 1 id ++ bytesOf 2 tag.toNat ++ axisId axis ++ bytesOf 5 position ++ dir direction ++
         one (match action with
           | .notify => 0 | .outHigh _ => 1 | .outLow _ => 2 | .outPulse _ _ => 3 | .outClear _ => 4 | .triggerGen _ => 5
           | .capture => 6) ++
         one (match result with | .done => 0 | .skippedNotOwner => 1 | .logFull => 2) ++
         one (match disposition with | .removed => 0 | .reArmed => 1 | .repeatEnded => 2 | .rangeEnded => 3) ++
         bytesOf 2 turn ++ bytesOf 4 place ++ bytesOf 2 remaining)
     | .compareWithdrawn id tag axis turn place =>
       (0x02, bytesOf 1 id ++ bytesOf 2 tag.toNat ++ axisId axis ++ bytesOf 2 turn ++ bytesOf 4 place ++ one 0)
     | .commitDone axis timing changed position =>
       (0x03, axisId axis ++ one (match timing with | .now => 0 | .atRollover => 1) ++ bytesOf 1 changed ++ bytesOf 5 position)
     | .moveStarted g tag k counter byTrigger f =>
       (0x04, genId g ++ bytesOf 2 tag.toNat ++ kind k ++ bytesOf 4 counter ++ bit byTrigger ++
         match f with | none => one 0 | some f => phase f)
     | .moveEnded g tag k cause counter started search =>
       (0x05, genId g ++ bytesOf 2 tag.toNat ++ kind k ++
         one (match cause with
           | .complete => 0 | .stopped => 1 | .halted => 2 | .endedByNext => 3 | .followOverspeed => 4 | .notFound => 5
           | .outOfRange => 6) ++
         bytesOf 4 counter ++ bit started ++
         match search with
         | none => bytesOf 7 0
         | some r =>
           phase r.phase ++ bytesOf 4 r.steps ++ bytesOf 1 r.markers ++
             one (match r.mark with | none => 0 | some .limit => 1 | some .overrun => 2))
     | .queueFlushed g count => (0x06, genId g ++ bytesOf 1 count)
     | .triggerLost g source state =>
       (0x07, genId g ++ one (match source with | .request => 0 | .compare => 1) ++
         one (match state with
           | .idle => 0 | .armed => 1 | .running => 2 | .following => 3 | .dwelling => 4 | .searching => 5 | .stopping => 6
           | .halted => 7))
     | .captureDone axis c count => (0x08, axisId axis ++ source c ++ bytesOf 1 count)
     | .captureLost axis c => (0x09, axisId axis ++ source c)
     | .claimGranted r station cause => (0x0A, resource r ++ bytesOf 1 station ++ gave cause)
     | .claimFreed r station cause => (0x0B, resource r ++ bytesOf 1 station ++ gave cause)
     | .axisOverrange axis position direction => (0x0C, axisId axis ++ bytesOf 5 position ++ dir direction)
     | .sessionEnded station port cause =>
       (0x0D, bytesOf 1 station ++ one (match port with | .p1 => 1 | .p2 => 2 | .p3 => 3) ++
         one (match cause with | .closed => 0 | .lapsed => 1 | .brk => 2))
     | .haltChanged new old cause station =>
       (0x0E, halt new ++ halt old ++ one (match cause with | .lineAsserted => 0 | .lineReleased => 1 | .cleared => 2) ++
         bytesOf 1 station)
   ∀ n : Notice,
     n.bytes =
       bytesOf 2 n.number ++ one (fields n.kind).1 ++ bytesOf 2 n.lostBefore ++ bytesOf 4 n.time.toNat ++ (fields n.kind).2) ∧
  (∀ (s : State) (p : PortId) (f : TxFrame),
     ((s.port p).tx = none → exec (.frameEnd p) s = .next s) ∧
     (∀ r, (s.port p).tx = some f → f.answersHead = false → (s.port p).waiting = some r →
       exec (.frameEnd p) s =
         .next
           (s.modPort p fun q =>
             { q with
               waiting := none
               tx := some { kind := .response r.closes, bytes := frameBytes 0x52 r.seq r.body } })) ∧
     ((s.port p).tx = some f → f.answersHead = false → (s.port p).waiting = none →
       ∃ u, Port.TakesNotice { s.port p with tx := none } u s.now ∧
         exec (.frameEnd p) s = .next (s.modPort p fun _ => u)) ∧
     (∀ h, (s.port p).tx = some f → f.kind = .response false → (s.port p).waiting = none → (s.port p).intake = [h] →
       ∃ u, Port.TakesNotice { s.port p with intake := [], tx := none } u s.now ∧
         exec (.frameEnd p) s = .next (s.modPort p fun _ => u)) ∧
     ∀ h k, (s.port p).tx = some f → f.kind = .response false → (s.port p).waiting = none →
       (s.port p).intake = [h, k] →
       ∃ t, exec (.frameEnd p) s = .next t ∧ (t.port p).intake = [k] ∧
         (t.clearing = some p ∧ k.request = .clearHalt ∧ t.handing ≠ [] ∨
           (∃ r, (t.port p).waiting = some r ∧ r.seq = k.seq) ∨
           ∃ closes bytes, (t.port p).tx = some { kind := .response closes, bytes := bytes } ∧
             bytes.take 3 = [0xC7, 0x52, k.seq])) ∧
  ∀ (s : State) (p : PortId) (due : Word), (s.port p).notices.resendAt = some due →
    let unsent (n : Notice) : Notice := { n with sentAt := none }
    ((s.now - due).toNat < 2147483648 → (s.port p).tx.isSome = true →
      exec (.resendTimerExpiry p) s =
        .next
          (s.modPort p fun q =>
            { q with notices := { q.notices with items := q.notices.items.map unsent, resendAt := none } })) ∧
    (∀ (n : Notice) (rest : List Notice), (s.now - due).toNat < 2147483648 → (s.port p).tx = none →
      (s.port p).waiting = none → (s.session p).isOpen = true → (s.session p).closing = false →
      (s.port p).notices.items = n :: rest →
      exec (.resendTimerExpiry p) s =
        .next
          (s.modPort p fun q =>
            { q with
              tx := some { kind := .notice n.number, bytes := frameBytes 0x53 0 n.bytes }
              notices :=
                { q.notices with
                  items := { n with sentAt := some s.now } :: rest.map unsent
                  resendAt := some (s.now + 250) } })) ∧
    (2147483648 ≤ (s.now - due).toNat → exec (.resendTimerExpiry p) s = .next s)

/-! ### Requests: the common checks and the sessions -/

/-- A request whose code Table 12.1 does not list is answered UNKNOWN_REQUEST with the code echoed, 0x00 for an empty
body (R148, R181), and one of a listed code with a wrong length BAD_LENGTH; nothing else of the part changes.
On a port without a session every listed request but Open Session and Read Port Status is answered NO_SESSION, and on
one with a session Open Session is answered SESSION_ACTIVE; neither changes anything else (R148, Table 9.2). -/
def Obligations.CommonChecksComeFirst : Prop :=
  (∀ (s : State) (p : PortId) (seq : Byte), s.Serves p seq →
     exec (.unknownRequest p seq []) s = .next ((s.received p seq (.unknown 0)).answered p seq [0x00, 0x10]) ∧
     ∀ (code : Byte) (rest : List Byte),
       (requestLength code = none →
         exec (.unknownRequest p seq (code :: rest)) s =
           .next ((s.received p seq (.unknown code)).answered p seq [code, 0x10])) ∧
       ∀ n, requestLength code = some n → n ≠ rest.length + 1 →
         exec (.unknownRequest p seq (code :: rest)) s =
           .next ((s.received p seq (.badLength code)).answered p seq [code, 0x11])) ∧
  ∀ (s : State) (p : PortId) (seq : Byte), s.Serves p seq →
    (∀ (c : Instr) (r : Request), c.asRequest = some (p, seq, r) → (s.session p).isOpen = false →
      r.code ≠ 0x01 → r.code ≠ 0x04 → (∀ e, r ≠ .unknown e) → (∀ e, r ≠ .badLength e) →
      exec c s = .next ((s.received p seq r).answered p seq [r.code, 0x12])) ∧
    ((s.session p).isOpen = true → ∀ (station : Byte) (lease : Half) (subs : Byte),
      exec (.openSession p seq station lease subs) s =
        .next ((s.received p seq (.openSession station lease subs)).answered p seq [0x01, 0x13]))

/-- Every request but Close Session is answered once, with its code, a status and results, and a request that is answered
with another status than DONE and QUEUED changes nothing but its own port's link and lease (R148, R181). A Clear Halt
first has every receiver take the halt change before it (R127), refused or not; one that is DONE has its answer put into
the cache at once, and its response waits where some receiver has still to take its change (R129; log 19). -/
def Obligations.RefusedRequestsChangeNothing : Prop :=
  ∀ (s : State) (p : PortId) (seq : Byte) (c : Instr) (r : Request), s.Serves p seq →
    c.asRequest = some (p, seq, r) → r ≠ .closeSession →
    ∃ (t : State) (status : Status) (results : List Byte),
      (exec c s = .next (t.answered p seq (r.code :: status.code :: results)) ∨
        r = .clearHalt ∧ status = .done ∧ t.handing ≠ [] ∧
          exec c s =
            .next
              (State.modPort { t with clearing := some p } p fun q =>
                { q with cache := some { seq := seq, body := r.code :: status.code :: results } })) ∧
        (status ≠ .done → status ≠ .queued →
          t = s.received p seq r ∨ r = .clearHalt ∧ status = .halted ∧ t = (s.received p seq r).completeHandOver)

/-- A request that joins a head waits behind it; one that finds two is dropped as an overrun; both restart the lease, and
neither is taken (R180, R149).
A request frame that repeats the SEQ in the cache is not taken: the cached response goes to the transmitter again, and
nothing but the lease and the intake queue changes (R181, R182). -/
def Obligations.QueuedAndRepeatedRequestsAreNotTaken : Prop :=
  (∀ (s : State) (c : Instr) (p : PortId) (seq : Byte) (r : Request) (h : Intake),
     c.asRequest = some (p, seq, r) → (s.port p).atSpace = false →
     ((s.port p).intake = [h] →
       exec c s =
         .next
           (s.modPort p fun q =>
             { q with session := q.session.restartLease, intake := [h, { seq := seq, request := r }] })) ∧
     ∀ k, (s.port p).intake = [h, k] →
       exec c s =
         .next
           (s.modPort p fun q =>
             { q with
               session := q.session.restartLease
               faults := { q.faults with overrun := min (q.faults.overrun + 1) 65535 } })) ∧
  ∀ (s : State) (c : Instr) (p : PortId) (seq : Byte) (r : Request) (body : List Byte),
    c.asRequest = some (p, seq, r) → (s.port p).atSpace = false → (s.port p).intake = [] →
    (s.port p).cache = some { seq := seq, body := body } →
    exec c s = .next ((s.received p seq r).modPort p fun q => q.handed seq body false)

/-- Open Session on a port without one (R151, R152): with valid values and a free station the record is OPEN with its
lease running and its notice queue empty, and the response carries version 1.0 and the capacities; a station in use
elsewhere is refused STATION_IN_USE.
Close Session stops the lease timer and composes DONE, which is not put into the cache; the session stays OPEN until
the response has been sent (R153, R182). -/
def Obligations.SessionOpensAndCloses : Prop :=
  (∀ (s : State) (p : PortId) (seq station : Byte) (lease : Half) (subs : Byte) (u : Subscriptions),
     s.Serves p seq → (s.session p).isOpen = false → 1 ≤ station.toNat → station.toNat ≤ 15 → 50 ≤ lease.toNat →
     lease.toNat ≤ 5000 → lease.toNat % 10 = 0 → subscriptionsOf subs = some u →
     let r : Request := .openSession station lease subs
     let taken := ∃ q, q ≠ p ∧ (s.session q).isOpen = true ∧ (s.session q).station = station.toNat
     (taken → exec (.openSession p seq station lease subs) s = .next ((s.received p seq r).answered p seq [0x01, 0x14])) ∧
     (¬taken →
       exec (.openSession p seq station lease subs) s =
         .next
           (((s.received p seq r).modPort p fun q =>
               { q with
                 session :=
                   { isOpen := true, station := station.toNat, lease := lease.toNat, leaseLeft := some lease.toNat,
                     subs := u, closing := false }
                 notices := { items := [], next := 1, wrapped := false, lost := 0, resendAt := none } }).answered p seq
             ([0x01, 0x00, 1, 0, 48, 32, 8, 24, 22, station] ++ bytesOf 2 lease.toNat)))) ∧
  ∀ (s : State) (p : PortId) (seq : Byte), s.ServesSession p seq →
    exec (.closeSession p seq) s =
      .next
        ((s.received p seq .closeSession).modPort p fun q =>
          Port.handed { q with session := { q.session with leaseLeft := none, closing := true } } seq [0x02, 0x00] true)

/-- Renew changes nothing but the lease that its frame restarts (R154); Set Subscriptions replaces the set (R155); Read Port
Status, with a session or without, returns the fault counters and sets them to 0, and behind them returns whether the
port has a session, its station and lease, and the depth and lost count of its queue, all 0 without one (R156, Table
12.6). -/
def Obligations.SessionUpkeepRequests : Prop :=
  ∀ (s : State) (p : PortId) (seq : Byte),
    (s.ServesSession p seq → exec (.renew p seq) s = .next ((s.received p seq .renew).answered p seq [0x03, 0x00])) ∧
    (s.ServesSession p seq → ∀ (subs : Byte),
      (∀ u, subscriptionsOf subs = some u →
        exec (.setSubscriptions p seq subs) s =
          .next
            (((s.received p seq (.setSubscriptions subs)).modPort p fun q =>
                { q with session := { q.session with subs := u } }).answered p seq [0x05, 0x00])) ∧
      (16 ≤ subs.toNat →
        exec (.setSubscriptions p seq subs) s =
          .next ((s.received p seq (.setSubscriptions subs)).answered p seq [0x05, 0x22]))) ∧
    (s.Serves p seq →
      let f := (s.port p).faults
      exec (.readPortStatus p seq) s =
        .next
          (((s.received p seq .readPortStatus).modPort p fun q =>
              { q with faults := { gapAbort := 0, length := 0, crc := 0, foreign := 0, overrun := 0 } }).answered p seq
            ([0x04, 0x00] ++ bytesOf 2 f.gapAbort ++ bytesOf 2 f.length ++ bytesOf 2 f.crc ++ bytesOf 2 f.foreign ++
              bytesOf 2 f.overrun ++
              (if (s.session p).isOpen then
                [0x01, BitVec.ofNat 8 (s.session p).station] ++ bytesOf 2 (s.session p).lease ++
                  [BitVec.ofNat 8 (s.port p).notices.items.length] ++ bytesOf 2 (s.port p).notices.lost
              else [0, 0, 0, 0, 0, 0, 0]))))

/-- Acknowledge Notices (R169, Table 10.2): the number of a SENT notice removes it and every notice before it; that of a
notice that has left the queue is answered DONE and removes nothing; 0, that of an UNSENT notice and one never posted
are refused BAD_VALUE. Stated while a frame is in transmission, so that no notice starts within the request. -/
def Obligations.AcknowledgeRemovesSentNotices : Prop :=
  ∀ (s : State) (p : PortId) (seq : Byte) (number : Half), s.ServesSession p seq → s.Lawful →
    (s.port p).tx.isSome = true →
    let q := (s.port p).notices
    let u := s.received p seq (.acknowledgeNotices number)
    let count (n : Nat) : Byte := BitVec.ofNat 8 n
    (∀ (gone kept : List Notice) (n : Notice), q.items = gone ++ [n] ++ kept → n.number = number.toNat →
      (n.sentAt.isSome = true →
        exec (.acknowledgeNotices p seq number) s =
          .next
            ((u.modPort p fun t =>
                { t with
                  notices :=
                    { t.notices with
                      items := kept
                      resendAt := ((kept.head?.bind Notice.sentAt).map fun at_ => at_ + 250) } }).answered p seq
              [0x06, 0x00, count (gone.length + 1), count kept.length])) ∧
      (n.sentAt = none →
        exec (.acknowledgeNotices p seq number) s = .next (u.answered p seq [0x06, 0x22]))) ∧
    ((∀ n ∈ q.items, n.number ≠ number.toNat) →
      (number ≠ 0 → q.wrapped = true ∨ number.toNat < q.next →
        exec (.acknowledgeNotices p seq number) s = .next (u.answered p seq [0x06, 0x00, 0, count q.items.length])) ∧
      (number = 0 ∨ q.wrapped = false ∧ q.next ≤ number.toNat →
        exec (.acknowledgeNotices p seq number) s = .next (u.answered p seq [0x06, 0x22])))

/-! ### Requests: claims -/

/-- Release by the holder hands the claim to the oldest waiter, or makes it FREE (R138, R140), after the cleanup: the
channel of an output in MANUAL at its fallback level with no overlay, its windows erased (R81, R44); the holder's
entries that act on the resource gone, each with COMPARE_WITHDRAWN to the caller, whose queue has room for them (R65);
the trigger of a generator cleared (R111); the captures of an axis cleared (R21). The waiter receives CLAIM_GRANTED;
without one, every session that has subscribed receives CLAIM_FREED (R140), as far as there is room: the caller's own
queue may first take its COMPARE_WITHDRAWN notices. No other entry, window, channel, generator, axis or claim changes,
no pending commit, no other session and not the halt state. -/
def Obligations.ReleaseCleansUpAndHandsOver : Prop :=
  ∀ (s : State) (p : PortId) (seq resource : Byte) (r : Resource), s.ServesSession p seq → s.Lawful →
    resourceOf resource = some r → s.holds p r = true → (∀ g, r = .generator g → (s.gen g).state = .idle) →
    let acts (e : CompareEntry) : Bool := decide (e.owner = p ∧ e.action.resource = some r)
    let gone := ((s.compareList .a ++ s.compareList .b ++ s.compareList .v).filter acts).length
    ∃ t, exec (.release p seq resource) s = .next t ∧
      t.claim r =
        (match (s.claim r).waiters with
        | [] => { state := .free, owner := none, former := 0, waiters := [] }
        | w :: rest => { state := .held, owner := some w, former := 0, waiters := rest }) ∧
      (∀ q, q ≠ r → t.claim q = s.claim q) ∧
      (∀ x, t.compareList x = (s.compareList x).filter fun e => !acts e) ∧
      ((s.port p).notices.items.length + gone ≤ 24 → ∀ x, ∀ e ∈ s.compareList x, acts e = true →
        let a := s.axis x
        ∃ n ∈ (t.port p).notices.items,
          n.kind =
            .compareWithdrawn e.id e.tag x (match a.mode with | .linear => 0 | .rotary => e.target / a.cycle)
              (match a.mode with | .linear => e.target | .rotary => e.target % a.cycle)) ∧
      (∀ i : Fin 48, r ≠ .output s.slots[i].output → t.slots[i] = s.slots[i]) ∧
      (∀ o, r ≠ .output o → t.channel o = s.channel o) ∧ (∀ g, r ≠ .generator g → t.gen g = s.gen g) ∧
      (∀ x, r ≠ .axis x → t.axis x = s.axis x) ∧ t.commits = s.commits ∧ t.nextCompareId = s.nextCompareId ∧
      t.halt = s.halt ∧ (∀ q, q ≠ p → t.session q = s.session q) ∧
      (∀ o, r = .output o →
        (∀ i : Fin 48, t.slots[i].output = o → t.slots[i].status = .free) ∧
        t.channel o =
          { s.channel o with
            mode := .manual, manual := (s.channel o).fallback, overlay := .none, pulse := none, cam := false,
            line := (s.channel o).fallback }) ∧
      (∀ g, r = .generator g → t.gen g = { s.gen g with pendingTrigger := false }) ∧
      (∀ x, r = .axis x →
        t.axis x = { s.axis x with arming := none, log := [], lost := 0, lossReported := false }) ∧
      (t.port p).cache = some { seq := seq, body := [0x11, 0x00] } ∧
      (∀ w rest, (s.claim r).waiters = w :: rest → (s.port w).notices.items.length < 24 →
        ∃ n ∈ (t.port w).notices.items, n.kind = .claimGranted r (s.session p).station .released) ∧
      ∀ q, (s.claim r).waiters = [] → (s.session q).isOpen = true → (s.session q).subs.claimFreed = true →
        (s.port q).notices.items.length < 24 →
        (q = p → gone = 0) →
        ∃ n ∈ (t.port q).notices.items, n.kind = .claimFreed r (s.session p).station .released

/-- Claim by the rows of Table 8.2 (R135): each answer carries the owner's station and the caller's place.
Cancel Wait takes the caller out of the wait list and nothing else (R141); a caller that does not wait is refused
NOT_FOUND. -/
def Obligations.ClaimAndCancelWaitFollowTheRecord : Prop :=
  (∀ (s : State) (p : PortId) (seq resource wait : Byte) (r : Resource) (w : Bool), s.ServesSession p seq →
     resourceOf resource = some r → wait = (if w then 1 else 0) →
     let c := s.claim r
     let u := s.received p seq (.claim resource wait)
     let own := BitVec.ofNat 8 (s.session p).station
     let other := BitVec.ofNat 8 (s.holderStation r)
     let answer (t : State) (status station place : Byte) : Prop :=
       exec (.claim p seq resource wait) s = .next (t.answered p seq [0x10, status, station, place])
     (s.holds p r = true → answer u 0x00 own 0) ∧
     (s.holds p r = false → c.waiters.head? = some p → answer u 0x23 other 1) ∧
     (∀ q, s.holds p r = false → q ≠ p → c.waiters = [q, p] → answer u 0x23 other 2) ∧
     (s.holds p r = false → p ∉ c.waiters →
       (c.state = .free →
         answer (u.setClaim r { state := .held, owner := some p, former := 0, waiters := c.waiters }) 0x00 own 0) ∧
       (c.state ≠ .free → w = false → answer u 0x21 other 0) ∧
       (c.state ≠ .free → w = true → 2 ≤ c.waiters.length → answer u 0x31 other 0) ∧
       (c.state ≠ .free → w = true → c.waiters.length < 2 →
         answer (u.setClaim r { c with waiters := c.waiters ++ [p] }) 0x01 other
           (BitVec.ofNat 8 (c.waiters.length + 1))))) ∧
  ∀ (s : State) (p : PortId) (seq resource : Byte) (r : Resource), s.ServesSession p seq →
    resourceOf resource = some r →
    let c := s.claim r
    let u := s.received p seq (.cancelWait resource)
    (p ∈ c.waiters →
      exec (.cancelWait p seq resource) s =
        .next
          ((u.setClaim r { c with waiters := c.waiters.filter fun w => decide (w ≠ p) }).answered p seq [0x12, 0x00])) ∧
    (p ∉ c.waiters → exec (.cancelWait p seq resource) s = .next (u.answered p seq [0x12, 0x32]))

/-- A request for the holder of a resource, from a session that does not hold it, is refused NOT_OWNER before any check
of its other values, and changes nothing (R134): Define Window for the output it names (Table 2.3) among them. Queue
Compare is refused NOT_OWNER where its action acts on a resource that the caller does not hold, its values being valid
(Table 3.3). Edit and Delete Window of a slot that is FREE, or whose output the caller does not hold, are refused
NOT_FOUND before any check of their other values (Table 2.4, R28). -/
def Obligations.HolderRequestsNeedTheClaim : Prop :=
  ∀ (s : State) (p : PortId) (seq id : Byte) (r : Resource), s.ServesSession p seq → resourceOf id = some r →
    s.holds p r = false →
    let refused (c : Instr) : Prop :=
      ∀ q, c.asRequest = some (p, seq, q) → exec c s = .next ((s.received p seq q).answered p seq [q.code, 0x20])
    let notFound (c : Instr) : Prop :=
      ∀ q, c.asRequest = some (p, seq, q) → exec c s = .next ((s.received p seq q).answered p seq [q.code, 0x32])
    refused (.release p seq id) ∧
    (∀ axis raw x o, r = .output o → axisOf axis = some x → refused (.defineWindow p seq axis id raw)) ∧
    (∀ (i : Fin 48) (slot : Byte), slot.toNat = i.val → s.slots[i].status = .free ∨ r = .output s.slots[i].output →
      notFound (.deleteWindow p seq slot) ∧ ∀ raw, notFound (.editWindow p seq slot raw)) ∧
    (∀ raw x crossing action target rep, axisOf raw.axis = some x → crossingOf raw.crossing = some crossing →
      compareActionOf raw.action raw.argument raw.width = some action →
      compareTargetOf (s.axis x) raw.turn raw.position = some target →
      compareRepeatOf raw.step raw.remaining = some rep → action.resource = some r →
      refused (.queueCompare p seq raw)) ∧
    (∀ o, r = .output o → (∀ v, refused (.setOutputMode p seq id v) ∧ refused (.setOutputLevel p seq id v) ∧
      refused (.setFallback p seq id v)) ∧ (∀ w, refused (.pulseOutput p seq id w)) ∧
      refused (.clearOverlay p seq id)) ∧
    (∀ g, r = .generator g → (∀ m sd hd d, refused (.configureGenerator p seq id m sd hd d)) ∧
      (∀ raw, refused (.appendMove p seq id raw)) ∧ refused (.stopGeneratorRamp p seq id) ∧
      refused (.stopGeneratorFinish p seq id) ∧ refused (.triggerGenerator p seq id) ∧
      ∀ v, refused (.setGeneratorPosition p seq id v)) ∧
    ∀ x, r = .axis x → (∀ m l d t, refused (.configureAxis p seq id m l d t)) ∧
      (∀ t pos, refused (.presetAxis p seq id t pos)) ∧ (∀ c e n, refused (.armCapture p seq id c e n)) ∧
      refused (.readCaptures p seq id)

/-! ### Requests: axes and reads -/

/-- Three of the holder's axis requests. Configure Axis replaces the four settings, stands the axis at position 0, turn 0,
COUNTING, velocity 0, and restarts the gate (R17, R11); where a window, an entry or a pending commit refers to the axis
it is refused BUSY. Arm Capture replaces the arming (R12). Read Captures returns the log, each record with its source,
position, velocity and device time (Table 12.6), and empties it (R16). -/
def Obligations.AxisRequestsOfTheHolder : Prop :=
  ∀ (s : State) (p : PortId) (seq axis : Byte) (x : AxisId), s.ServesSession p seq → axisOf axis = some x →
    s.holds p (.axis x) = true →
    let a := s.axis x
    let sourceCode (c : CaptureSource) : Byte := match c with
      | .marker => 0x00
      | .ref .ref0 => 0x01
      | .ref .ref1 => 0x02
      | .ref .ref2 => 0x03
      | .ref .ref3 => 0x04
      | .compare => 0x05
    (∀ (mode : Byte) (cycle : Word) (sense : Byte) (gate : Half) (m : AxisMode) (d : Sense),
      axisModeOf mode = some m → 16 ≤ cycle.toNat → cycle.toNat ≤ 1048576 → axisSenseOf x sense = some d →
      1 ≤ gate.toNat → gate.toNat ≤ 1000 →
      let u := s.received p seq (.configureAxis axis mode cycle sense gate)
      (s.axisReferred x = true →
        exec (.configureAxis p seq axis mode cycle sense gate) s = .next (u.answered p seq [0x20, 0x23])) ∧
      (s.axisReferred x = false →
        exec (.configureAxis p seq axis mode cycle sense gate) s =
          .next
            ((u.modAxis x fun _ =>
                { a with
                  mode := m, cycle := cycle.toNat, sense := d, gateTime := gate.toNat, gateLeft := gate.toNat,
                  accumulation := 0, position := 0, turn := 0, status := .counting, velocity := 0 }).answered p seq
              [0x20, 0x00]))) ∧
    (∀ (source edge count : Byte) (c : CaptureSource) (e : CaptureEdge),
      axisSourceOf x source = some c → edgeOf edge = some e → 1 ≤ count.toNat → count.toNat ≤ 8 →
      exec (.armCapture p seq axis source edge count) s =
        .next
          (((s.received p seq (.armCapture axis source edge count)).modAxis x fun _ =>
              { a with arming := some { source := c, edge := e, remaining := count.toNat } }).answered p seq
            [0x23, 0x00])) ∧
    exec (.readCaptures p seq axis) s =
      .next
        (((s.received p seq (.readCaptures axis)).modAxis x fun _ =>
            { a with log := [], lost := 0, lossReported := false }).answered p seq
          ([0x24, 0x00] ++ bytesOf 1 a.log.length ++ bytesOf 2 a.lost ++
            a.log.flatMap fun c =>
              [sourceCode c.source] ++ bytesOf 5 c.position ++ bytesOf 4 c.velocity ++ bytesOf 4 c.time.toNat))

/-- Preset Axis sets turn, position and COUNTING, keeps direction and velocity, restarts the gate, and has the counting
windows on the axis evaluated there; no compare list, no pending commit and no generator hears of it (R18, R11). -/
def Obligations.PresetMovesTheAxisAlone : Prop :=
  ∀ (s : State) (p : PortId) (seq axis : Byte) (turn : Half) (position : Word) (x : AxisId), s.ServesSession p seq →
    axisOf axis = some x → s.holds p (.axis x) = true →
    let a := s.axis x
    (if a.mode = .rotary then 0 ≤ position.toInt ∧ position.toInt < a.cycle
      else -2000000000 ≤ position.toInt ∧ position.toInt ≤ 2000000000 ∧ turn = 0) →
    let b : Axis :=
      { a with
        turn := turn.toInt, position := position.toInt, status := .counting, accumulation := 0, gateLeft := a.gateTime }
    ∃ t, exec (.presetAxis p seq axis turn position) s = .next t ∧ t.axis x = b ∧
      (∀ i : Fin 48, s.slots[i].axis = x → s.slots[i].status.counts = true →
        ∀ w, s.slots[i].active = some w → t.slots[i] = { s.slots[i] with inside := w.insideOn b }) ∧
      (∀ y, y ≠ x → t.axis y = s.axis y) ∧ t.compares = s.compares ∧ t.commits = s.commits ∧ t.gens = s.gens ∧
      t.claims = s.claims ∧ t.halt = s.halt ∧ (t.port p).cache = some { seq := seq, body := [0x21, 0x00] }

/-- A read request changes nothing but its own port's link and lease, and answers DONE with the record it names as it
stands, laid out as Table 12.6 gives it: halt state (R131), claims (R145), outputs (R80), axis (R19), generator with its
current move as Table 12.4 lays it out (R112), window slot (R45), compare list (R64). A number goes out high byte first,
two's complement (R186); a field that does not apply is 0 (R188), and so is an unassigned byte of a move record (log
17). Steps issued past four bytes are not stated (log 21).
Read Outputs takes the channels one after another (R80): with no event of a field line or clock next in the queue, all
its records are of this moment; with one there, each record, and halt in force, is that before the event or that after
it, the event taken with the free choices that follow, as its own command takes it, and which is the model's free choice
(log 19). Halt in force is that of the channels, of any one of them where one has still to take a change (R127). A pulse
that is due and has not expired reads 1 ms (log 3). -/
def Obligations.ReadRequestsChangeNothing : Prop :=
  (∀ (n : Nat) (i : Int), (bytesOf n i).length = n ∧
    (bytesOf n i).foldl (fun (acc : Int) b => acc * 256 + b.toNat) 0 = i % 256 ^ n) ∧
  ∀ (s : State) (p : PortId) (seq id : Byte), s.ServesSession p seq →
    let reads (c : Instr) (results : List Byte) : Prop :=
      ∀ r, c.asRequest = some (p, seq, r) →
        exec c s = .next ((s.received p seq r).answered p seq (r.code :: 0x00 :: results))
    let one (n : Nat) : List Byte := [BitVec.ofNat 8 n]
    let bit (b : Bool) : Nat := if b then 1 else 0
    let level (l : Level) : Nat := if l = .high then 1 else 0
    let sense (d : Sense) : Nat := if d = .inverted then 1 else 0
    let dir (d : StepDir) : Nat := if d = .down then 1 else 0
    let axisId (x : AxisId) : Nat := match x with | .a => 0x18 | .b => 0x19 | .v => 0x1A
    let genId (g : GenId) : Nat := match g with | .g1 => 0x10 | .g2 => 0x11 | .gv => 0x12
    reads (.readHalt p seq) (one (match s.halt with | .clear => 0 | .active => 1 | .latched => 2)) ∧
    (let rec3 (r : Resource) : List Byte :=
       let c := s.claim r
       let waiter (k : Nat) : Nat := match c.waiters[k]? with | some q => (s.session q).station | none => 0
       one ((match c.state with | .free => 0 | .held => 1 | .releasing => 2) * 16 + c.waiters.length) ++
         one (s.holderStation r * 16 + c.former) ++ one (waiter 0 * 16 + waiter 1)
     reads (.readClaims p seq)
       ((List.finRange 16).flatMap (fun o => rec3 (.output o)) ++ [GenId.g1, .g2, .gv].flatMap (fun g => rec3 (.generator g)) ++
         [AxisId.a, .b, .v].flatMap fun x => rec3 (.axis x))) ∧
    (let rec4 (u : State) (o : OutputId) : List Byte :=
       let c := u.channel o
       one (u.holderStation (.output o) * 16 + (match c.overlay with | .none => 0 | .high => 1 | .low => 2) * 4 +
           (if c.mode = .cam then 1 else 0) * 2 + level c.manual) ++
         one (level c.fallback * 8 + bit c.cam * 4 + level c.line * 2 + bit c.pulse.isSome) ++
         bytesOf 2 (match c.pulse with | none => 0 | some ms => max ms 1)
     let inForce (u : State) (k : OutputId) : List Byte := one (bit (u.channel k).halt)
     let isEvent (c : Instr) : Bool := match c with
       | .encoderTransition _ _ _ => true | .gateExpiry _ => true | .markerEdge _ _ => true | .referenceLineEdge _ _ => true
       | .generatorStep _ => true | .followBacklogStep _ => true | .rampTimerExpiry _ => true | .dwellTimerExpiry _ => true
       | .pulseTimerExpiry _ => true | .haltAssertion => true | .haltRelease => true | .leaseExpiry _ => true
       | .deviceMillisecondIncrement => true | _ => false
     (∀ b, s.pending.head?.any isEvent = false → s.handing = [] → (∀ k, (s.channel k).halt = b) →
       reads (.readOutputs p seq) (one (bit b) ++ (List.finRange 16).flatMap (rec4 s))) ∧
     ∀ (t : State) (r : Request), (Instr.readOutputs p seq).asRequest = some (p, seq, r) →
       (∃ event rest, s.pending = event :: rest ∧ isEvent event = true ∧
           exec event { s.received p seq r with choices := s.choices + 1 } = .next t) ∨
         s.pending.head?.any isEvent = false ∧ s.handing ≠ [] ∧ t = s →
       ∃ (k : OutputId) (haltLater : Bool) (later : OutputId → Bool),
         exec (.readOutputs p seq) s =
           .next
             (State.answered { s.received p seq r with choices := s.choices + 1 } p seq
               (r.code :: 0x00 ::
                 (inForce (if haltLater then t else s) k ++
                   (List.finRange 16).flatMap fun o => rec4 (if later o then t else s) o)))) ∧
    (∀ x, axisOf id = some x →
      let a := s.axis x
      let extended : Int := match a.mode with | .linear => a.position | .rotary => a.turn * a.cycle + a.position
      reads (.readAxis p seq id)
        (one (if a.mode = .rotary then 1 else 0) ++ bytesOf 4 a.cycle ++ one (sense a.sense) ++ bytesOf 4 a.position ++
          bytesOf 2 a.turn ++ bytesOf 5 extended ++ one (if a.direction = .reverse then 1 else 0) ++
          one (if a.status = .overrange then 1 else 0) ++ bytesOf 4 a.velocity ++ bytesOf 2 a.gateTime)) ∧
    (∀ g, genOf id = some g → (∀ m, (s.gen g).current = some m → m.issued < 4294967296) →
      let n := s.gen g
      let state : Nat := match n.state with
        | .idle => 0 | .armed => 1 | .running => 2 | .following => 3
        | .dwelling => 4 | .searching => 5 | .stopping => 6 | .halted => 7
      let phase : Nat := match n.phase with | some .cruise => 1 | some .rampDown => 2 | _ => 0
      let stop : Nat := match n.stopRate with | none => 0 | some .stop => 1 | some .halt => 2
      let profile (dir start peak accel decel limit : Nat) (target : Int) : List Byte :=
        one dir ++ bytesOf 4 target ++ bytesOf 4 start ++ bytesOf 4 peak ++ bytesOf 2 accel ++ bytesOf 2 decel ++
          bytesOf 4 limit ++ bytesOf 3 0
      let record (r : MoveRecord) : List Byte :=
        bytesOf 2 r.tag.toNat ++
          one (match r.kind with
            | .position _ _ _ _ _ _ => 0 | .velocity _ _ _ _ _ _ => 1 | .follow _ _ _ _ => 2 | .dwell _ => 3 | .home _ => 4) ++
          one (if r.start = .onTrigger then 1 else 0) ++
          match r.kind with
          | .position mode target v peak accel decel => profile (if mode = .relative then 1 else 0) v peak accel decel 0 target
          | .velocity d v peak accel decel limit => profile (dir d) v peak accel decel (limit.getD 0) 0
          | .follow source num den limit =>
            one (axisId source) ++ bytesOf 2 num ++ bytesOf 2 den ++ bytesOf 12 0 ++ bytesOf 4 (limit.getD 0) ++ bytesOf 3 0
          | .dwell ms => one 0 ++ bytesOf 2 ms ++ bytesOf 21 0
          | .home f =>
            one (dir f.direction) ++ bytesOf 4 f.home ++ bytesOf 4 f.creepSpeed ++ bytesOf 4 f.searchSpeed ++
              bytesOf 2 f.accel ++ bytesOf 2 f.decel ++ bytesOf 4 f.limit ++
              one (match f.line with | .ref0 => 0 | .ref1 => 1 | .ref2 => 2 | .ref3 => 3) ++
              one (match f.markerAxis with | some .ea => 0x18 | some .eb => 0x19 | none => 0xFF) ++ bytesOf 1 f.markerCount
      let search : List Byte := match n.current.bind CurrentMove.search with
        | none => bytesOf 9 0
        | some r =>
          one (match r.phase with | .clearing => 0 | .seek => 1 | .creep => 2 | .final => 3) ++ one (dir r.motion) ++
            one (bit r.found) ++ bytesOf 1 r.markers ++ bytesOf 4 r.steps ++
            one (match r.mark with | none => 0 | some .limit => 1 | some .overrun => 2)
      reads (.readGenerator p seq id)
        (bytesOf 4 n.maxRate ++ bytesOf 2 n.stopDecel ++ bytesOf 2 n.haltDecel ++ one (sense n.sense) ++
          bytesOf 4 n.counter ++ one state ++ one phase ++ one stop ++ bytesOf 4 n.speed ++
          one (bit n.current.isSome * 8 + bit n.endByNext * 4 + bit n.pendingTrigger * 2 + bit n.halt) ++
          (match n.current with
            | none => bytesOf 28 0 ++ bytesOf 4 0 ++ bytesOf 4 0
            | some m => record m.record ++ bytesOf 4 m.issued ++ bytesOf 4 (m.remaining.getD 0)) ++
          bytesOf 1 n.queue.length ++ n.queue.flatMap (fun r => bytesOf 2 r.tag.toNat) ++ bytesOf 2 n.accumulator ++
          bytesOf 1 n.backlog ++ one (dir n.backlogDir) ++ search)) ∧
    (∀ i : Fin 48, id.toNat = i.val →
      let w := s.slots[i]
      let copy (c : Option WindowCopy) : List Byte := match c with
        | none => List.replicate 11 0
        | some c =>
          bytesOf 4 c.on ++ bytesOf 4 c.off ++
            one (match c.qualifier with | .forward => 0 | .reverse => 1 | .either => 2) ++ bytesOf 2 c.lead
      let commit : Bool := match s.holder (.output w.output) with | some q => s.hasCommit q w.axis | none => false
      reads (.readWindow p seq id)
        (if w.status = .free then List.replicate 27 0
        else
          one (match w.status with | .free => 0 | .staged => 1 | .live => 2 | .liveEdited => 3 | .retiring => 4) ++
            one (axisId w.axis) ++ one w.output.val ++ one (s.holderStation (.output w.output)) ++
            one (bit w.active.isSome * 16 + bit w.staged.isSome * 8 + (if w.status = .retiring then 1 else 0) * 4 +
              bit w.inside * 2 + bit commit) ++
            copy w.active ++ copy w.staged)) ∧
    ∀ (x : AxisId) (index : Byte), axisOf id = some x → index.toNat ≤ 31 →
      let shown := ((s.compareList x).drop index.toNat).take 6
      let rec18 (e : CompareEntry) : List Byte :=
        let action : Nat × Nat × Nat := match e.action with
          | .notify => (0, 0, 0)
          | .outHigh o => (1, o.val, 0)
          | .outLow o => (2, o.val, 0)
          | .outPulse o width => (3, o.val, width)
          | .outClear o => (4, o.val, 0)
          | .triggerGen g => (5, genId g, 0)
          | .capture => (6, 0, 0)
        bytesOf 1 e.id ++ bytesOf 2 e.tag.toNat ++
          one ((s.session e.owner).station * 16 + (match e.crossing with | .up => 0 | .down => 1 | .either => 2)) ++
          one (action.1 * 32 + action.2.1) ++ bytesOf 2 action.2.2 ++ bytesOf 5 e.target ++
          bytesOf 4 (match e.rep with | some r => r.step | none => 0) ++
          bytesOf 2 (match e.rep with | some r => r.remaining | none => 0)
      reads (.readCompares p seq id index)
        (bytesOf 1 (s.compareList x).length ++ bytesOf 1 shown.length ++ shown.flatMap rec18)

/-! ### Requests: windows -/

/-- Define Window puts a STAGED window into the lowest FREE slot (R25); Edit Window makes the given values the staged copy
and leaves the active one (R27); Delete Window frees a STAGED slot and makes a counting one RETIRING (R28). Nothing is
evaluated. With a pending commit of the caller on the axis each is refused BUSY (R34). That a freed slot stands at axis
A and output Q0, where they mean nothing, is the model's choice (log 17). -/
def Obligations.WindowRequestsStage : Prop :=
  ∀ (s : State) (p : PortId) (seq : Byte) (raw : RawWindow) (x : AxisId) (o : OutputId) (w : WindowCopy) (i : Fin 48),
    s.ServesSession p seq → s.Lawful → windowOf (s.axis x) raw = some w → s.holds p (.output o) = true →
    let old := s.slots[i]
    let put (c : Instr) (r : Request) (slot : Slot) (results : List Byte) : Prop :=
      (s.hasCommit p x = false →
        exec c s =
          .next
            (State.answered { s.received p seq r with slots := s.slots.set i slot } p seq
              (r.code :: 0x00 :: results))) ∧
      (s.hasCommit p x = true → exec c s = .next ((s.received p seq r).answered p seq [r.code, 0x23]))
    (∀ axis output, axisOf axis = some x → outputOf output = some o → old.status = .free →
      (∀ j : Fin 48, j < i → s.slots[j].status ≠ .free) →
      put (.defineWindow p seq axis output raw) (.defineWindow axis output raw)
        { status := .staged, axis := x, output := o, active := none, staged := some w, inside := false }
        [BitVec.ofNat 8 i.val]) ∧
    (∀ slot : Byte, slot.toNat = i.val → old.status ≠ .free → old.axis = x → old.output = o →
      put (.editWindow p seq slot raw) (.editWindow slot raw)
        { old with
          staged := some w
          status := if old.status = .staged then .staged else .liveEdited } [] ∧
      (old.status = .staged →
        put (.deleteWindow p seq slot) (.deleteWindow slot)
          { status := .free, axis := .a, output := 0, active := none, staged := none, inside := false } []) ∧
      (old.status = .live ∨ old.status = .liveEdited →
        put (.deleteWindow p seq slot) (.deleteWindow slot) { old with status := .retiring, staged := none } []) ∧
      (old.status = .retiring → put (.deleteWindow p seq slot) (.deleteWindow slot) old []))

/-- Commit Windows NOW acts on every window of the caller on the axis and on no other (R29, R30): STAGED and LIVE_EDITED
become LIVE by the staged copy, RETIRING becomes FREE, and those now LIVE are evaluated at once (R42); COMMIT_DONE, with
the number of slots changed, joins the caller's notices, or is counted as lost where 24 stand in its queue (R36, R166). -/
def Obligations.CommitNowAppliesOwnWindows : Prop :=
  ∀ (s : State) (p : PortId) (seq axis : Byte) (x : AxisId), s.ServesSession p seq → s.Lawful → axisOf axis = some x →
    s.hasCommit p x = false →
    let own (w : Slot) : Bool := decide (w.status ≠ .free) && decide (w.axis = x) && s.holds p (.output w.output)
    let changed : Nat :=
      (s.slots.toList.filter fun w =>
        own w && decide (w.status = .staged ∨ w.status = .liveEdited ∨ w.status = .retiring)).length
    ∃ t, exec (.commitWindowsNow p seq axis) s = .next t ∧
      (∀ i : Fin 48, own s.slots[i] = false → t.slots[i] = s.slots[i]) ∧
      (∀ i : Fin 48, own s.slots[i] = true →
        (s.slots[i].status = .retiring → t.slots[i].status = .free ∧ t.slots[i].inside = false) ∧
        (∀ w, s.slots[i].status = .live → s.slots[i].active = some w →
          t.slots[i] = { s.slots[i] with inside := w.insideOn (s.axis x) }) ∧
        (∀ w, s.slots[i].status = .staged ∨ s.slots[i].status = .liveEdited → s.slots[i].staged = some w →
          t.slots[i] =
            { s.slots[i] with
              status := .live, active := some w, staged := none, inside := w.insideOn (s.axis x) })) ∧
      (if (s.port p).notices.items.length < 24 then
        ∃ n, n ∈ (t.port p).notices.items ∧ n.kind = .commitDone x .now changed (s.axis x).extended
      else (t.port p).notices.lost = min ((s.port p).notices.lost + 1) 65535) ∧
      (t.port p).cache = some { seq := seq, body := [0x33, 0x00] } ∧ t.axes = s.axes ∧ t.gens = s.gens ∧
      t.claims = s.claims ∧ t.commits = s.commits ∧ t.compares = s.compares

/-- Commit Windows AT_ROLLOVER on a ROTARY axis leaves a pending commit, on a LINEAR one is refused BAD_VALUE, and with one
pending BUSY (R30, R31); Cancel Commit removes it, and without one is refused NOT_FOUND (R33). -/
def Obligations.PendingCommitsComeAndGo : Prop :=
  ∀ (s : State) (p : PortId) (seq axis : Byte) (x : AxisId), s.ServesSession p seq → axisOf axis = some x →
    let u := s.received p seq (.commitWindows axis 1)
    let v := s.received p seq (.cancelCommit axis)
    ((s.axis x).mode = .linear →
      exec (.commitWindowsAtRollover p seq axis) s = .next (u.answered p seq [0x33, 0x22])) ∧
    ((s.axis x).mode = .rotary → s.hasCommit p x = true →
      exec (.commitWindowsAtRollover p seq axis) s = .next (u.answered p seq [0x33, 0x23])) ∧
    ((s.axis x).mode = .rotary → s.hasCommit p x = false →
      exec (.commitWindowsAtRollover p seq axis) s = .next ((u.setCommit p x true).answered p seq [0x33, 0x00])) ∧
    (s.hasCommit p x = true →
      exec (.cancelCommit p seq axis) s = .next ((v.setCommit p x false).answered p seq [0x34, 0x00])) ∧
    (s.hasCommit p x = false → exec (.cancelCommit p seq axis) s = .next (v.answered p seq [0x34, 0x32]))

/-! ### Requests: compares -/

/-- Queue Compare puts a new entry of the caller into the list of its axis, after every entry with a target at or below
its own and before every one above (R52), under the first id from the counter on, 1 following 255, that no entry in use
carries, the counter going to the id after it (R49); an axis in OVERRANGE refuses it OVERRANGE, a full pool
TABLE_FULL (R51).
Withdraw Compare removes the caller's entry with the id, and the others close up in their order; without such an entry
it is refused NOT_FOUND (R63). -/
def Obligations.CompareRequestsKeepTheOrder : Prop :=
  (∀ (s : State) (p : PortId) (seq : Byte) (raw : RawCompare) (x : AxisId) (crossing : Crossing) (action : CompareAction)
     (target : Int) (rep : Option CompareRepeat), s.ServesSession p seq → s.Lawful →
     axisOf raw.axis = some x → crossingOf raw.crossing = some crossing →
     compareActionOf raw.action raw.argument raw.width = some action →
     compareTargetOf (s.axis x) raw.turn raw.position = some target →
     compareRepeatOf raw.step raw.remaining = some rep → (∀ r, action.resource = some r → s.holds p r = true) →
     let u := s.received p seq (.queueCompare raw)
     let candidate (k : Nat) : Nat := (s.nextCompareId - 1 + k) % 255 + 1
     ((s.axis x).status = .overrange → exec (.queueCompare p seq raw) s = .next (u.answered p seq [0x40, 0x25])) ∧
     ((s.axis x).status = .counting → s.poolSize = 32 →
       exec (.queueCompare p seq raw) s = .next (u.answered p seq [0x40, 0x30])) ∧
     ((s.axis x).status = .counting → s.poolSize < 32 →
       ∃ (k : Nat) (low high : List CompareEntry),
         (∀ y, ∀ e ∈ s.compareList y, e.id ≠ candidate k) ∧
         (∀ j, j < k → ∃ y, ∃ e ∈ s.compareList y, e.id = candidate j) ∧ s.compareList x = low ++ high ∧
         (∀ e ∈ low, e.target ≤ target) ∧ (∀ e ∈ high, target < e.target) ∧
         let entry : CompareEntry :=
           { id := candidate k, owner := p, tag := raw.tag, target := target, crossing := crossing, action := action,
             rep := rep }
         let v : State :=
           { u.setCompareList x (low ++ [entry] ++ high) with nextCompareId := candidate (k + 1) }
         exec (.queueCompare p seq raw) s = .next (v.answered p seq [0x40, 0x00, BitVec.ofNat 8 (candidate k)]))) ∧
  ∀ (s : State) (p : PortId) (seq id : Byte), s.ServesSession p seq → s.Lawful →
    let u := s.received p seq (.withdrawCompare id)
    (∀ (x : AxisId) (low high : List CompareEntry) (e : CompareEntry), s.compareList x = low ++ [e] ++ high →
      e.id = id.toNat → e.owner = p →
      exec (.withdrawCompare p seq id) s =
        .next ((u.setCompareList x (low ++ high)).answered p seq [0x41, 0x00])) ∧
    ((∀ x, ∀ e ∈ s.compareList x, ¬(e.id = id.toNat ∧ e.owner = p)) →
      exec (.withdrawCompare p seq id) s = .next (u.answered p seq [0x41, 0x32]))

/-- A rollover of the encoder's axis applies every pending commit on the axis and removes it (R32): each window of its
session goes LIVE by its staged copy and is evaluated, or FREE where it was RETIRING, and COMMIT_DONE reports the slots
changed and the place (R36): 12 notices in the queue leave room for all that an event without a due entry can post to
it. A count event that is no rollover leaves every pending commit (R9). Axis V's events are not stated here.
An entry whose target a count event reaches in a matching direction fires (R53): without a repeat it is gone after the
event (R59), whatever else fires with it, and entries of the axis at other targets stand as they were.
What one due entry does where it is the only one: its output action reaches the channel of an output that its owner
holds, and no other (R55, R73); TRIGGER_GEN leaves the trigger pending at a generator in IDLE or in a move that has
started (R56), also where a FOLLOW move ends by overspeed at the same event (the model's reading, log 12); CAPTURE logs
the place, or is lost in a full log (R57). It is removed, or re-armed at its target plus the step with one firing less,
in target order behind its equals, where that lies in the axis's range (R59, R60).
COMPARE_FIRED reports it to its owner (R58); 8 notices in the owner's queue leave room for all that the event can post
to it, as long as it does not start an ARMED move. -/
def Obligations.CountEventReachesCommitsAndCompares : Prop :=
  (∀ (s : State) (e : Encoder) (phase1 phase2 : Bool) (d : AxisDir), s.Lawful →
     quadrature (s.lines.pair e) { phase1 := phase1, phase2 := phase2 } = some d →
     (s.axis e.axis).status = .counting →
     ∃ t, exec (.encoderTransition e phase1 phase2) s = .next t ∧
       ((t.axis e.axis).turn = (s.axis e.axis).turn → ∀ p, t.hasCommit p e.axis = s.hasCommit p e.axis) ∧
       ((t.axis e.axis).turn ≠ (s.axis e.axis).turn → ∀ p, t.hasCommit p e.axis = false ∧
         (s.hasCommit p e.axis = true →
           (∀ i : Fin 48, s.slots[i].axis = e.axis → s.holds p (.output s.slots[i].output) = true →
             (s.slots[i].status = .retiring → t.slots[i].status = .free) ∧
             ∀ w, s.slots[i].status = .staged ∨ s.slots[i].status = .liveEdited → s.slots[i].staged = some w →
               t.slots[i] =
                 { s.slots[i] with
                   status := .live, active := some w, staged := none, inside := w.insideOn (t.axis e.axis) }) ∧
           let changed : Nat :=
             (s.slots.toList.filter fun w =>
               decide (w.axis = e.axis) && s.holds p (.output w.output) &&
                 decide (w.status = .staged ∨ w.status = .liveEdited ∨ w.status = .retiring)).length
           ((∀ c ∈ s.compareList e.axis, c.target ≠ (t.axis e.axis).extended) → (s.port p).notices.items.length ≤ 12 →
             ∃ n ∈ (t.port p).notices.items,
               n.kind = .commitDone e.axis .atRollover changed (t.axis e.axis).extended)))) ∧
  ∀ (s : State) (e : Encoder) (phase1 phase2 : Bool) (d : AxisDir), s.Lawful →
    quadrature (s.lines.pair e) { phase1 := phase1, phase2 := phase2 } = some d →
    (s.axis e.axis).status = .counting →
    let a := s.axis e.axis
    let dir := if a.sense = .normal then d else d.opposite
    let there := a.extended + if dir = .forward then 1 else -1
    let due (c : CompareEntry) : Prop := c.target = there ∧ (c.crossing = .either ∨ (c.crossing = .up ↔ dir = .forward))
    ∃ t, exec (.encoderTransition e phase1 phase2) s = .next t ∧
      ((t.axis e.axis).status = .counting →
        (t.axis e.axis).extended = there ∧
        (∀ c ∈ s.compareList e.axis, due c → c.rep = none → ∀ f ∈ t.compareList e.axis, f.id ≠ c.id) ∧
        (∀ c ∈ s.compareList e.axis, c.target ≠ there → c ∈ t.compareList e.axis) ∧
        ∀ (c : CompareEntry) (low high : List CompareEntry), s.compareList e.axis = low ++ [c] ++ high → due c →
          (∀ f ∈ low ++ high, ¬due f) →
          let inRange (x : Int) : Prop := match a.mode with
            | .linear => -2000000000 ≤ x ∧ x ≤ 2000000000
            | .rotary => -32768 * (a.cycle : Int) ≤ x ∧ x ≤ 32767 * (a.cycle : Int) + a.cycle - 1
          let holds (o : OutputId) : Bool := s.holds c.owner (.output o)
          let sets (o : OutputId) (overlay : Overlay) (pulse : Option Nat) : Prop :=
            (holds o = true → (t.channel o).overlay = overlay ∧ (t.channel o).pulse = pulse) ∧
              (holds o = false →
                (t.channel o).overlay = (s.channel o).overlay ∧ (t.channel o).pulse = (s.channel o).pulse)
          let fired (result : CompareResult) (disposition : Disposition) (turn place : Int) (left : Nat) : Prop :=
            (s.port c.owner).notices.items.length ≤ 8 →
            (∀ g, c.action = .triggerGen g → (s.gen g).state ≠ .armed) →
            ∃ n ∈ (t.port c.owner).notices.items,
              n.kind =
                .compareFired c.id c.tag e.axis there dir c.action result disposition turn place left
          let result : CompareResult := match c.action with
            | .notify => .done
            | .outHigh o => if holds o then .done else .skippedNotOwner
            | .outLow o => if holds o then .done else .skippedNotOwner
            | .outPulse o _ => if holds o then .done else .skippedNotOwner
            | .outClear o => if holds o then .done else .skippedNotOwner
            | .triggerGen g => if s.holds c.owner (.generator g) then .done else .skippedNotOwner
            | .capture => if a.log.length < 8 then .done else .logFull
          (∀ o, c.action = .outHigh o → sets o .high none) ∧ (∀ o, c.action = .outLow o → sets o .low none) ∧
          (∀ o w, c.action = .outPulse o w → sets o .high (some w)) ∧
          (∀ o, c.action = .outClear o → sets o .none none) ∧
          (∀ g, c.action = .triggerGen g → s.holds c.owner (.generator g) = true →
            (s.gen g).state ≠ .armed → (s.gen g).state ≠ .stopping → (s.gen g).state ≠ .halted →
            (t.gen g).pendingTrigger = true) ∧
          (c.action = .capture →
            if a.log.length < 8 then
              (t.axis e.axis).log =
                a.log ++ [{ source := .compare, position := there, velocity := a.velocity, time := s.now }]
            else (t.axis e.axis).log = a.log ∧ (t.axis e.axis).lost = min (a.lost + 1) 65535) ∧
          (c.rep = none → t.compareList e.axis = low ++ high ∧ fired result .removed 0 0 0) ∧
          ∀ r, c.rep = some r →
            (r.remaining ≤ 1 → t.compareList e.axis = low ++ high ∧ fired result .repeatEnded 0 0 0) ∧
            (2 ≤ r.remaining → ¬inRange (there + r.step) →
              t.compareList e.axis = low ++ high ∧ fired result .rangeEnded 0 0 0) ∧
            (2 ≤ r.remaining → inRange (there + r.step) →
              let left := if r.remaining < 65535 then r.remaining - 1 else r.remaining
              let again : CompareEntry :=
                { c with target := there + r.step, rep := some { step := r.step, remaining := left } }
              (∃ l h, low ++ high = l ++ h ∧ (∀ f ∈ l, f.target ≤ again.target) ∧ (∀ f ∈ h, again.target < f.target) ∧
                t.compareList e.axis = l ++ [again] ++ h) ∧
              fired result .reArmed
                (match a.mode with | .linear => 0 | .rotary => again.target / a.cycle)
                (match a.mode with | .linear => again.target | .rotary => again.target % a.cycle) left))

/-! ### Requests: outputs, generators and the halt -/

/-- The holder's output requests are arrivals at the channel (R74 to R79): mode, manual level, fallback level, a pulse
under overlay HIGH, no overlay; the line takes the effective level of the fields that then stand (R69). -/
def Obligations.OutputRequestsAreArrivals : Prop :=
  ∀ (s : State) (p : PortId) (seq output : Byte) (o : OutputId), s.ServesSession p seq → outputOf output = some o →
    s.holds p (.output o) = true →
    let c := s.channel o
    let arrives (i : Instr) (b : Channel) : Prop :=
      ∀ r, i.asRequest = some (p, seq, r) →
        let level : Level :=
          if b.halt then b.fallback
          else if b.overlay = .high then .high
          else if b.overlay = .low then .low
          else if b.mode = .manual then b.manual
          else if b.cam then .high else .low
        exec i s =
          .next
            (State.answered { s.received p seq r with channels := s.channels.set o { b with line := level } } p seq
              [r.code, 0x00])
    (∀ v m, outputModeOf v = some m → arrives (.setOutputMode p seq output v) { c with mode := m }) ∧
    (∀ v l, levelOf v = some l → arrives (.setOutputLevel p seq output v) { c with manual := l }) ∧
    (∀ v l, levelOf v = some l → arrives (.setFallback p seq output v) { c with fallback := l }) ∧
    (∀ w : Half, 1 ≤ w.toNat → w.toNat ≤ 10000 →
      arrives (.pulseOutput p seq output w) { c with overlay := .high, pulse := some w.toNat }) ∧
    arrives (.clearOverlay p seq output) { c with overlay := .none, pulse := none }

/-- Append Move puts a valid record at the tail of the queue (R105): behind a move that it does not supersede the record
waits; behind a RUNNING VELOCITY move it sets the end-by-next mark (R97); a FOLLOW move, also one in ARMED (log 11),
ends with ENDED_BY_NEXT, of which the holder hears, and the head of the queue becomes current (R100, R92, R90); an
ON_TRIGGER record on an IDLE generator with no trigger pending makes it ARMED (R90), its distance limit whole (R96; log
22). In halt it is refused HALTED, in STOPPING BUSY, at 8 records QUEUE_FULL. -/
def Obligations.AppendMoveJoinsTheQueue : Prop :=
  ∀ (s : State) (p : PortId) (seq gen : Byte) (g : GenId) (raw : RawMove), s.ServesSession p seq → s.Lawful →
    genOf gen = some g → s.holds p (.generator g) = true →
    let n := s.gen g
    let u := s.received p seq (.appendMove gen raw)
    (n.halt = true → exec (.appendMove p seq gen raw) s = .next (u.answered p seq [0x61, 0x24])) ∧
    (n.halt = false → n.state = .stopping → exec (.appendMove p seq gen raw) s = .next (u.answered p seq [0x61, 0x23])) ∧
    ∀ r, n.halt = false → n.state ≠ .stopping → moveOf g n.maxRate raw = some r →
      (n.queue.length = 8 → exec (.appendMove p seq gen raw) s = .next (u.answered p seq [0x61, 0x31])) ∧
      (∀ m, n.queue.length < 8 → n.current = some m → m.record.kind.code ≠ 2 →
        exec (.appendMove p seq gen raw) s =
          .next
            ((u.modGen g fun _ =>
                { n with
                  queue := n.queue ++ [r]
                  endByNext := if m.record.kind.code = 1 ∧ n.state = .running then true else n.endByNext }).answered p
              seq [0x61, 0x00, BitVec.ofNat 8 (n.queue.length + 1)])) ∧
      (∀ (m : CurrentMove) (h : MoveRecord) (rest : List MoveRecord), n.queue.length < 8 → n.current = some m →
        m.record.kind.code = 2 → n.queue ++ [r] = h :: rest →
        ∃ t, exec (.appendMove p seq gen raw) s = .next t ∧ s.EndedByNext t g m (h :: rest) ∧
          (g ≠ .gv ∨ h.start = .onTrigger ∧ n.pendingTrigger = false ∨ (∃ ms, h.kind = .dwell ms) →
            (t.port p).cache =
              some { seq := seq, body := [0x61, 0x00, BitVec.ofNat 8 (t.gen g).queue.length] })) ∧
      (n.state = .idle → r.start = .onTrigger → n.pendingTrigger = false →
        exec (.appendMove p seq gen raw) s =
          .next
            ((u.modGen g fun _ =>
                { n with
                  state := .armed
                  current :=
                    some
                      { record := r, started := false, issued := 0, dir := .up, search := none
                        remaining :=
                          match r.kind with
                          | .velocity _ _ _ _ _ limit => limit
                          | .follow _ _ _ limit => limit
                          | _ => none } }).answered p seq [0x61, 0x00, 0]))

/-- A POSITION move that starts on G1 or G2 (R94, R93): the distance is fixed by the counter, the generator runs at the
start speed in RAMP_UP or CRUISE, and the first step is issued with the start. The step's pulse count and interval
speed are the model's own fields (log 4). -/
def Obligations.PositionMoveStartsWithItsFirstStep : Prop :=
  ∀ (s : State) (p : PortId) (seq gen : Byte) (g : GenId) (raw : RawMove) (r : MoveRecord) (mode : TargetMode)
    (target : Int) (start peak accel decel : Nat), g ≠ .gv → s.ServesSession p seq → s.Lawful →
    genOf gen = some g → s.holds p (.generator g) = true → (s.gen g).state = .idle →
    moveOf g (s.gen g).maxRate raw = some r → r.start = .immediate →
    r.kind = .position mode target start peak accel decel →
    let c := (s.gen g).counter
    let distance := if mode = .relative then target else target - c
    let dir : StepDir := if 0 < distance then .up else .down
    2 ≤ distance.natAbs → -2000000000 ≤ c + distance → c + distance ≤ 2000000000 → -2000000000 ≤ c → c ≤ 2000000000 →
    ∃ t, exec (.appendMove p seq gen raw) s = .next t ∧
      t.gen g =
        { s.gen g with
          state := .running
          speed := start
          phase := some (if start < peak then .rampUp else .cruise)
          rampLeft := some 1
          endByNext := false
          counter := if dir = .up then c + 1 else c - 1
          dirLine := if (dir = .up ↔ (s.gen g).sense = .normal) then .high else .low
          stepLine := .low
          stepPulses := (s.gen g).stepPulses + 1
          intervalSpeed := start
          firstStepDue := false
          current :=
            some
              { record := r, started := true, issued := 1, remaining := some (distance.natAbs - 1), dir := dir,
                search := none } } ∧
      (∀ h, h ≠ g → t.gen h = s.gen h) ∧ t.axes = s.axes

/-- Stop Generator RAMP by the state of the generator (R103, Table 5.5): without effect in IDLE, STOPPING and HALTED; an
ARMED, DWELLING or FOLLOWING move ends at once; a RUNNING or SEARCHING one above its floor enters STOPPING at the stop
decel rate with its speed and move kept. Queue and trigger are gone wherever it has an effect.
Stop Generator FINISH flushes the queue and changes nothing else of the generator (R104). -/
def Obligations.StopGeneratorFollowsItsTable : Prop :=
  (∀ (s : State) (p : PortId) (seq gen : Byte) (g : GenId), s.ServesSession p seq → s.Lawful → genOf gen = some g →
     s.holds p (.generator g) = true →
     let n := s.gen g
     (n.state = .idle ∨ n.state = .stopping ∨ n.state = .halted →
       exec (.stopGeneratorRamp p seq gen) s =
         .next ((s.received p seq (.stopGenerator gen 0)).answered p seq [0x62, 0x00])) ∧
     (n.state = .armed ∨ n.state = .dwelling ∨ n.state = .following →
       ∃ t, exec (.stopGeneratorRamp p seq gen) s = .next t ∧
         t.gen g = { n.atStandstill .idle with queue := [], pendingTrigger := false } ∧ t.axes = s.axes) ∧
     ∀ m, n.state = .running ∨ n.state = .searching → n.current = some m → m.record.kind.floor < n.speed →
       ∃ t, exec (.stopGeneratorRamp p seq gen) s = .next t ∧
         t.gen g =
           { n with
             state := .stopping, phase := none, stopRate := some .stop, queue := [], pendingTrigger := false } ∧
         t.axes = s.axes) ∧
  ∀ (s : State) (p : PortId) (seq gen : Byte) (g : GenId), s.ServesSession p seq → genOf gen = some g →
    s.holds p (.generator g) = true →
    ∃ t, exec (.stopGeneratorFinish p seq gen) s = .next t ∧ t.gen g = { s.gen g with queue := [] } ∧
      (∀ h, h ≠ g → t.gen h = s.gen h) ∧ t.axes = s.axes ∧ t.claims = s.claims ∧
      (t.port p).cache = some { seq := seq, body := [0x62, 0x00] }

/-- Configure Generator replaces the four settings and Set Generator Position the counter, both from IDLE alone, else BUSY;
no step is issued and axis V does not move (R107).
Trigger Generator outside a halt sets the pending trigger of a generator in IDLE or in a move, where none is set (R91,
R106); one that is set stays set, and TRIGGER_LOST is posted; in a halt it is refused HALTED.
A trigger starts the move of a generator in ARMED with MOVE_STARTED by trigger (R91, R90): a DWELL move enters DWELLING
with its timer (R101), a VELOCITY move of G1 or G2 runs at its start speed with its first step issued (R96, R93). -/
def Obligations.GeneratorSettingsAndTriggers : Prop :=
  (∀ (s : State) (p : PortId) (seq gen : Byte) (g : GenId), s.ServesSession p seq → genOf gen = some g →
     s.holds p (.generator g) = true →
     (∀ (m : Word) (sd hd : Half) (d : Byte) (sense : Sense), 2 ≤ m.toNat → m.toNat ≤ 250000 → sd ≠ 0 → hd ≠ 0 →
       senseOf d = some sense →
       let u := s.received p seq (.configureGenerator gen m sd hd d)
       exec (.configureGenerator p seq gen m sd hd d) s =
         .next
           (if (s.gen g).state = .idle then
             (u.modGen g fun n =>
                 { n with
                   maxRate := m.toNat, stopDecel := sd.toNat, haltDecel := hd.toNat, sense := sense }).answered p seq
               [0x60, 0x00]
           else u.answered p seq [0x60, 0x23])) ∧
     ∀ v : Word, -2000000000 ≤ v.toInt → v.toInt ≤ 2000000000 →
       let u := s.received p seq (.setGeneratorPosition gen v)
       exec (.setGeneratorPosition p seq gen v) s =
         .next
           (if (s.gen g).state = .idle then
             (u.modGen g fun n => { n with counter := v.toInt }).answered p seq [0x64, 0x00]
           else u.answered p seq [0x64, 0x23])) ∧
  ∀ (s : State) (p : PortId) (seq gen : Byte) (g : GenId), s.ServesSession p seq → genOf gen = some g →
    s.holds p (.generator g) = true →
    let n := s.gen g
    let u := s.received p seq (.triggerGenerator gen)
    (s.halt ≠ .clear → exec (.triggerGenerator p seq gen) s = .next (u.answered p seq [0x63, 0x24])) ∧
    (s.halt = .clear → n.state ≠ .armed → n.state ≠ .stopping → n.state ≠ .halted →
      exec (.triggerGenerator p seq gen) s =
        .next
          ((if n.pendingTrigger then u.post p (.triggerLost g .request n.state)
            else u.modGen g fun n => { n with pendingTrigger := true }).answered p seq [0x63, 0x00])) ∧
    (s.halt = .clear → n.state = .stopping ∨ n.state = .halted →
      exec (.triggerGenerator p seq gen) s =
        .next ((u.post p (.triggerLost g .request n.state)).answered p seq [0x63, 0x00])) ∧
    ∀ m, s.Lawful → s.halt = .clear → n.state = .armed → n.current = some m →
      let startsWith (t : State) : Prop :=
        ((t.gen g).current.map CurrentMove.record = some m.record ∧ (t.gen g).queue = n.queue ∧
          (t.gen g).pendingTrigger = false ∧ (t.port p).cache = some { seq := seq, body := [0x63, 0x00] }) ∧
        ((s.port p).notices.items.length < 24 →
          ∃ k ∈ (t.port p).notices.items,
            k.kind = .moveStarted g m.record.tag m.record.kind n.counter true none)
      (∀ ms, m.record.kind = .dwell ms →
        ∃ t, exec (.triggerGenerator p seq gen) s = .next t ∧ startsWith t ∧ (t.gen g).state = .dwelling ∧
          (t.gen g).dwellLeft = some ms ∧ (t.gen g).counter = n.counter) ∧
      ∀ (dir : StepDir) (start peak accel decel : Nat), g ≠ .gv →
        m.record.kind = .velocity dir start peak accel decel none → -2000000000 < n.counter → n.counter < 2000000000 →
        ∃ t, exec (.triggerGenerator p seq gen) s = .next t ∧ startsWith t ∧ (t.gen g).state = .running ∧
          (t.gen g).speed = start ∧ (t.gen g).phase = some (if start < peak then .rampUp else .cruise) ∧
          (t.gen g).rampLeft = some 1 ∧ (t.gen g).endByNext = decide (n.queue ≠ []) ∧
          (t.gen g).counter = (if dir = .up then n.counter + 1 else n.counter - 1) ∧
          (t.gen g).current.map CurrentMove.issued = some 1

/-- Clear Halt (R129, R127): once every receiver has taken the halt change before, it is refused HALTED in ACTIVE; in CLEAR
it changes nothing; in LATCHED the state becomes CLEAR, and each receiver takes the change, or has still to take it and
stands as it was (R127; which do is a free value, log 19): a line takes the level of overlay, cam or manual level (R71),
and a HALTED generator is IDLE (R109). The response is sent once every receiver has taken it: at once where none waits,
and with the end of the hand-over otherwise (R129). HALT_CHANGED with the caller's station goes to every session that
has subscribed to it (R128); 16 notices in a queue leave room for all that the clear can post to it. -/
def Obligations.ClearHaltEndsALatchedHalt : Prop :=
  ∀ (s : State) (p : PortId) (seq : Byte), s.ServesSession p seq → s.Lawful →
    let b := (s.received p seq .clearHalt).completeHandOver
    (s.handing = [] → b = s.received p seq .clearHalt) ∧
    (s.halt = .active → exec (.clearHalt p seq) s = .next (b.answered p seq [0x71, 0x24, 1])) ∧
    (s.halt = .clear → exec (.clearHalt p seq) s = .next (b.answered p seq [0x71, 0x00, 0])) ∧
    (s.halt = .latched →
      ∃ t, exec (.clearHalt p seq) s = .next t ∧ t.halt = .clear ∧
        (∀ r : HaltReceiver, if r ∈ t.handing then r.Stood s t else r.Took s t false) ∧
        t.axes = s.axes ∧ t.slots = s.slots ∧ t.compares = s.compares ∧
        (t.port p).cache = some { seq := seq, body := [0x71, 0x00, 0] } ∧
        (if t.handing = [] then t.clearing = none ∧ (t.port p).Answers seq [0x71, 0x00, 0]
        else
          t.clearing = some p ∧ (t.port p).waiting = none ∧
            (∀ f, (t.port p).tx = some f → f.answersHead = false) ∧
            (t.completeHandOver.port p).Answers seq [0x71, 0x00, 0] ∧
            ∀ r ∈ t.handing, r.Took s t.completeHandOver false) ∧
        ∀ q, (s.session q).isOpen = true → (s.session q).subs.haltChanged = true →
          (s.port q).notices.items.length ≤ 16 →
          ∃ n ∈ (t.port q).notices.items, n.kind = .haltChanged .clear .latched .cleared (s.session p).station)
end

