-- ==== Sys2Proof/Laws/Check.lean ====
section
/-! SUPPORT. A check that evaluates the laws of Safety.lean on a concrete state, and that it is right: what the
tests show of a witness state, they show through it. -/

namespace Sys2Proof.Machine

/-! ### Quantifiers over the small types -/

theorem forall_axis {P : AxisId → Prop} : (∀ x, P x) ↔ P .a ∧ P .b ∧ P .v :=
  ⟨fun h => ⟨h _, h _, h _⟩, fun ⟨a, b, v⟩ x => by cases x <;> assumption⟩

theorem forall_port {P : PortId → Prop} : (∀ p, P p) ↔ P .p1 ∧ P .p2 ∧ P .p3 :=
  ⟨fun h => ⟨h _, h _, h _⟩, fun ⟨a, b, v⟩ x => by cases x <;> assumption⟩

theorem forall_gen {P : GenId → Prop} : (∀ g, P g) ↔ P .g1 ∧ P .g2 ∧ P .gv :=
  ⟨fun h => ⟨h _, h _, h _⟩, fun ⟨a, b, v⟩ x => by cases x <;> assumption⟩

theorem forall_resource {P : Resource → Prop} :
    (∀ r, P r) ↔ (∀ o, P (.output o)) ∧ (∀ g, P (.generator g)) ∧ ∀ x, P (.axis x) :=
  ⟨fun h => ⟨fun _ => h _, fun _ => h _, fun _ => h _⟩, fun ⟨a, b, c⟩ r => by
    cases r with
    | output o => exact a o
    | generator g => exact b g
    | axis x => exact c x⟩

/-- A check on the content of an Option says it of the content. -/
theorem all_some {α : Type} {o : Option α} {f : α → Bool} (h : o.all f = true) (x : α) (hx : o = some x) : f x = true := by
  subst hx; exact h

/-! ### The checks -/

/-- The check of Axis.Lawful. -/
def Axis.check (a : Axis) : Bool :=
  decide
      ((16 ≤ a.cycle ∧ a.cycle ≤ 1048576) ∧ (1 ≤ a.gateTime ∧ a.gateTime ≤ 1000 ∧ a.gateLeft ≤ a.gateTime) ∧
        (a.mode = .rotary → 0 ≤ a.position ∧ a.position < (a.cycle : Int) ∧ -32768 ≤ a.turn ∧ a.turn ≤ 32767) ∧
        (a.mode = .linear → -2000000000 ≤ a.position ∧ a.position ≤ 2000000000 ∧ a.turn = 0) ∧
        (-2147483647 ≤ a.accumulation ∧ a.accumulation ≤ 2147483647) ∧
        (-2147483647 ≤ a.velocity ∧ a.velocity ≤ 2147483647) ∧ a.log.length ≤ 8 ∧ a.lost ≤ 65535) &&
    a.arming.all fun m => decide (1 ≤ m.remaining ∧ m.remaining ≤ 8)

theorem Axis.lawful_of_check {a : Axis} (h : a.check = true) : a.Lawful := by
  simp only [Axis.check, Bool.and_eq_true, decide_eq_true_eq] at h
  obtain ⟨⟨h1, h2, h3, h4, h5, h6, h7, h8⟩, h9⟩ := h
  exact ⟨h1, h2, h3, h4, h5, h6, fun m hm => of_decide_eq_true (all_some h9 m hm), h7, h8⟩

/-- The check of State.AxesLawful, ChannelsLawful, HaltLawful and CamLawful. -/
def State.checkField (s : State) : Bool :=
  (s.axis .a).check && (s.axis .b).check && (s.axis .v).check && decide ((s.axis .v).sense = .normal) &&
    decide
      ((∀ o : OutputId,
          (s.channel o).halt = s.inForceAt (.output o) ∧ (s.channel o).line = (s.channel o).effective ∧
            ((s.channel o).pulse.isSome = true → (s.channel o).overlay = .high)) ∧
        (s.halt = .active ↔ s.lines.haltAsserted = true) ∧
        ∀ o : OutputId, s.camLevels[o] = s.camOf o ∧ (s.channel o).cam = s.camOf o)

/-- The check of Slot.Lawful. -/
def Slot.check (w : Slot) : Bool :=
  match w.status with
  | .free => decide (w.active = none ∧ w.staged = none ∧ w.inside = false)
  | .staged => decide (w.active = none ∧ w.staged.isSome = true ∧ w.inside = false)
  | .live => decide (w.active.isSome = true ∧ w.staged = none)
  | .liveEdited => decide (w.active.isSome = true ∧ w.staged.isSome = true)
  | .retiring => decide (w.active.isSome = true ∧ w.staged = none)

theorem Slot.lawful_of_check {w : Slot} (h : w.check = true) : w.Lawful := by
  unfold Slot.check at h
  unfold Slot.Lawful
  cases hs : w.status <;> rw [hs] at h <;> simpa using h

/-- Whether every pending commit of a port on an axis is one that may stand (R31). -/
def State.checkCommit (s : State) (p : PortId) (x : AxisId) : Bool :=
  decide (s.hasCommit p x = true → (s.axis x).mode = .rotary ∧ (s.session p).isOpen = true)

/-- The check of State.SlotsLawful and CommitsLawful. -/
def State.checkWindows (s : State) : Bool :=
  decide
      (∀ i : Fin 48,
        s.slots[i].check = true ∧
          (s.slots[i].status ≠ .free → (s.claim (.output s.slots[i].output)).state = .held)) &&
    allPorts.all fun p => allAxes.all fun x => s.checkCommit p x

/-- The check of State.PoolLawful on one list. -/
def State.checkList (s : State) (x : AxisId) : Bool :=
  decide
    ((s.compareList x).Pairwise (fun e f => e.target ≤ f.target) ∧
      ∀ e ∈ s.compareList x, 1 ≤ e.id ∧ e.id ≤ 255 ∧ (s.session e.owner).isOpen = true)

/-- The check of State.PoolLawful. -/
def State.checkPool (s : State) : Bool :=
  decide
      (s.poolSize ≤ 32 ∧ ((s.compares.a ++ s.compares.b ++ s.compares.v).map CompareEntry.id).Nodup ∧
        1 ≤ s.nextCompareId ∧ s.nextCompareId ≤ 255) &&
    allAxes.all s.checkList

/-- The check of Generator.Lawful, and of what the claim of the generator asks of it. -/
def State.checkGen (s : State) (g : GenId) : Bool :=
  let n := s.gen g
  decide
      (n.halt = s.inForceAt (.generator g) ∧ n.queue.length ≤ 8 ∧
        (n.state.atRest = true → n.current = none ∧ n.queue = []) ∧ (n.state = .halted → n.halt = true) ∧
        (n.halt = true → n.state = .halted ∨ n.state = .stopping) ∧ (n.state = .stopping → n.queue = []) ∧
        (n.state = .armed → n.pendingTrigger = false) ∧
        (n.state = .halted ∨ n.state = .stopping → n.pendingTrigger = false) ∧ n.backlog ≤ 64 ∧
        (n.backlog = 0 → n.backlogDir = .up) ∧
        ((s.claim (.generator g)).state = .free → n.state.atRest = true) ∧
        ((s.claim (.generator g)).state = .releasing → n.state = .stopping ∨ n.state = .halted) ∧
        (-2000000000 ≤ n.counter ∧ n.counter ≤ 2000000000) ∧ ∀ r ∈ n.queue, r.kind.homesInRange = true) &&
    (n.current.all fun m => m.record.kind.homesInRange) && (n.state.atRest || n.current.any fun m => n.state.suits m.record.kind)

/-- The check of Claim.Lawful, and that owner and waiters are open sessions. -/
def State.checkClaim (s : State) (r : Resource) : Bool :=
  let c := s.claim r
  decide
      (c.waiters.length ≤ 2 ∧ c.waiters.Nodup ∧ (c.state = .free → c.owner = none ∧ c.waiters = []) ∧
        (c.state = .held → c.owner.isSome = true) ∧ (∀ p ∈ c.waiters, (s.session p).isOpen = true)) &&
    (c.owner.all fun p => decide (p ∉ c.waiters ∧ (s.session p).isOpen = true)) &&
    (decide (c.state ≠ .releasing) ||
      match r with
      | .generator _ => decide (c.owner = none)
      | .output _ => false
      | .axis _ => false)

/-- The check of Session.Lawful. -/
def Session.check (x : Session) : Bool :=
  decide
      ((x.isOpen = false → x = Session.closed) ∧ (x.isOpen = true → 1 ≤ x.station ∧ x.station ≤ 15) ∧
        (x.isOpen = true → 50 ≤ x.lease ∧ x.lease ≤ 5000 ∧ x.lease % 10 = 0) ∧
        (x.isOpen = true → (x.leaseLeft = none ↔ x.closing = true))) &&
    x.leaseLeft.all fun n => decide (n ≤ x.lease)

theorem Session.lawful_of_check {x : Session} (h : x.check = true) : x.Lawful := by
  simp only [Session.check, Bool.and_eq_true, decide_eq_true_eq] at h
  obtain ⟨⟨h1, h2, h3, h4⟩, h5⟩ := h
  exact ⟨h1, h2, h3, h4, fun n hn => of_decide_eq_true (all_some h5 n hn)⟩

/-- The check that two sessions are not open with one station (R147). -/
def State.checkStations (s : State) (p q : PortId) : Bool :=
  decide
    ((s.session p).isOpen = true → (s.session q).isOpen = true → (s.session p).station = (s.session q).station → p = q)

/-- The check of numberedBelow. -/
def checkNumbers (next : Nat) : List Notice → Bool
  | [] => true
  | [n] => decide (numberAfter n.number = next)
  | n :: m :: rest => decide (numberAfter n.number = m.number) && checkNumbers next (m :: rest)

theorem numbered_of_check {next : Nat} : ∀ {l : List Notice}, checkNumbers next l = true → numberedBelow next l
  | [], _ => trivial
  | [_], h => by simpa [checkNumbers, numberedBelow] using h
  | _ :: m :: rest, h => by
    simp only [checkNumbers, Bool.and_eq_true, decide_eq_true_eq] at h
    exact ⟨h.1, numbered_of_check h.2⟩

/-- The check of NoticeQueue.Lawful. -/
def NoticeQueue.check (q : NoticeQueue) : Bool :=
  decide
      (q.items.length ≤ 24 ∧ q.sentCount ≤ 8 ∧
        q.items.Pairwise (fun n m => m.sentAt.isSome = true → n.sentAt.isSome = true) ∧
        (1 ≤ q.next ∧ q.next ≤ 65535) ∧ q.lost ≤ 65535 ∧ q.resendAt = q.resendDue) &&
    checkNumbers q.next q.items

theorem NoticeQueue.lawful_of_check {q : NoticeQueue} (h : q.check = true) : q.Lawful := by
  simp only [NoticeQueue.check, Bool.and_eq_true, decide_eq_true_eq] at h
  obtain ⟨⟨h1, h2, h3, h4, h5, h6⟩, h7⟩ := h
  exact ⟨h1, h2, h3, numbered_of_check h7, h4, h5, h6⟩

/-- The check of Port.LinkLawful. -/
def Port.checkLink (awaits : Bool) (q : Port) : Bool :=
  let answers := q.tx.any TxFrame.answersHead
  decide
    (q.intake.length ≤ 2 ∧ (q.waiting.isSome = true → q.tx.isSome = true ∧ answers = false) ∧
      (awaits = true → q.waiting = none ∧ answers = false) ∧
      (awaits = false → q.intake ≠ [] → q.waiting.isSome = true ∨ answers = true) ∧
      (q.intake = [] → q.waiting = none ∧ answers = false) ∧
      q.faults.gapAbort ≤ 65535 ∧ q.faults.length ≤ 65535 ∧ q.faults.crc ≤ 65535 ∧ q.faults.foreign ≤ 65535 ∧
      q.faults.overrun ≤ 65535)

theorem Port.linkLawful_of_check {awaits : Bool} {q : Port} (h : q.checkLink awaits = true) : q.LinkLawful awaits := by
  simp only [Port.checkLink, decide_eq_true_eq] at h
  obtain ⟨h1, h2, h6, h3, h4, h5⟩ := h
  refine
    ⟨h1, fun hw => ?_, fun ha => ⟨(h6 ha).1, fun f hf => ?_⟩, fun ha hi => ?_, fun hi => ⟨(h4 hi).1, fun f hf => ?_⟩, h5⟩
  · obtain ⟨hs, ha⟩ := h2 hw
    obtain ⟨f, hf⟩ := Option.isSome_iff_exists.mp hs
    exact ⟨f, hf, by simpa [hf] using ha⟩
  · simpa [hf] using (h6 ha).2
  · refine (h3 ha hi).imp id fun ha => ?_
    cases hf : q.tx with
    | none => simp [hf] at ha
    | some f => exact ⟨f, rfl, by simpa [hf] using ha⟩
  · simpa [hf] using (h4 hi).2

/-- The check of State.HandOverLawful. -/
def State.checkHandOver (s : State) : Bool :=
  decide (s.handing.Nodup ∧ (s.handing ≠ [] → s.halt ≠ .latched)) &&
    s.clearing.all fun p =>
      decide (s.halt = .clear ∧ s.handing ≠ []) &&
        match (s.port p).intake with
        | [] => false
        | h :: _ => decide (h.request = .clearHalt)

theorem State.handOver_of_check {s : State} (h : s.checkHandOver = true) : s.HandOverLawful := by
  simp only [State.checkHandOver, Bool.and_eq_true, decide_eq_true_eq] at h
  refine ⟨h.1.1, h.1.2, fun p hp => ?_⟩
  have c := all_some h.2 p hp
  simp only [Bool.and_eq_true, decide_eq_true_eq] at c
  refine ⟨c.1.1, c.1.2, ?_⟩
  cases hi : (s.port p).intake with
  | nil => simp [hi] at c
  | cons k rest => exact ⟨k, rest, rfl, by simpa [hi] using c.2⟩

/-- The check of every law. -/
def State.check (s : State) : Bool :=
  s.checkField && s.checkWindows && s.checkPool && allGens.all s.checkGen && allResources.all s.checkClaim &&
    (allPorts.all fun p => (s.session p).check && (s.port p).notices.check && (s.port p).checkLink (decide (s.clearing = some p))) &&
    (allPorts.all fun p => allPorts.all fun q => s.checkStations p q) &&
    decide (s.vEvents = [] ∧ s.vTaking = false) && s.checkHandOver && allGens.all fun g => !(s.gen g).firstStepDue

theorem State.fields_of_check {s : State} (h : s.checkField = true) :
    s.AxesLawful ∧ s.ChannelsLawful ∧ s.HaltLawful ∧ s.CamLawful := by
  simp only [State.checkField, Bool.and_eq_true, decide_eq_true_eq] at h
  obtain ⟨⟨⟨⟨ha, hb⟩, hv⟩, hn⟩, hc, hh, hcam⟩ := h
  refine ⟨⟨forall_axis.mpr ⟨?_, ?_, ?_⟩, hn⟩, fun o => ?_, hh, hcam⟩
  · exact Axis.lawful_of_check ha
  · exact Axis.lawful_of_check hb
  · exact Axis.lawful_of_check hv
  · exact ⟨(hc o).1, (hc o).2.1, (hc o).2.2⟩

theorem mem_allAxes (x : AxisId) : x ∈ allAxes := by cases x <;> decide

theorem mem_allPorts (p : PortId) : p ∈ allPorts := by cases p <;> decide

theorem mem_allGens (g : GenId) : g ∈ allGens := by cases g <;> decide

theorem mem_allResources (r : Resource) : r ∈ allResources := by
  cases r with
  | output o => simp [allResources]
  | generator g => simp [allResources, mem_allGens]
  | axis x => simp [allResources, mem_allAxes]

theorem State.windows_of_check {s : State} (h : s.checkWindows = true) : s.SlotsLawful ∧ s.CommitsLawful := by
  simp only [State.checkWindows, Bool.and_eq_true, decide_eq_true_eq, List.all_eq_true] at h
  exact
    ⟨fun i => ⟨Slot.lawful_of_check (h.1 i).1, (h.1 i).2⟩,
      fun p x => of_decide_eq_true (h.2 p (mem_allPorts p) x (mem_allAxes x))⟩

theorem State.pool_of_check {s : State} (h : s.checkPool = true) : s.PoolLawful := by
  simp only [State.checkPool, Bool.and_eq_true, decide_eq_true_eq, List.all_eq_true] at h
  obtain ⟨⟨h1, h2, h3⟩, h4⟩ := h
  have hx := fun x => of_decide_eq_true (h4 x (mem_allAxes x))
  exact
    ⟨h1, fun x => (hx x).1, h2, fun x e he => ⟨((hx x).2 e he).1, ((hx x).2 e he).2.1⟩, h3,
      fun x e he => ((hx x).2 e he).2.2⟩

theorem State.gens_of_check {s : State} (h : ∀ g, s.checkGen g = true) : s.GensLawful := by
  simp only [State.checkGen, Bool.and_eq_true, decide_eq_true_eq, Bool.or_eq_true, Option.any_eq_true] at h
  refine ⟨fun g => ?_, fun g => (h g).1.1.2.2.2.2.2.2.2.2.2.2.1, fun g => (h g).1.1.2.2.2.2.2.2.2.2.2.2.2.1⟩
  obtain ⟨⟨⟨h1, h2, h3, h4, h5, h6, h7, h11, h9, h10, -, -, h12, h13⟩, h14⟩, h8⟩ := h g
  exact ⟨h1, h12, ⟨h13, all_some h14⟩, h2, h3, fun hr => by simpa [hr] using h8, h4, h5, h6, h7, h11, h9, h10⟩

theorem State.claims_of_check {s : State} (h : ∀ r, s.checkClaim r = true) : s.ClaimsLawful := by
  simp only [State.checkClaim, Bool.and_eq_true, decide_eq_true_eq, Bool.or_eq_true] at h
  have ho := fun r p (hp : (s.claim r).owner = some p) => of_decide_eq_true (all_some (h r).1.2 p hp)
  refine ⟨fun r => ?_, fun r p hp => (ho r p hp).2, fun r p hp => (h r).1.1.2.2.2.2 p hp⟩
  obtain ⟨⟨⟨h1, h2, h3, h4, -⟩, -⟩, h5⟩ := h r
  refine ⟨h1, h2, fun p hp => (ho r p hp).1, h3, h4, fun hr => ?_⟩
  simp only [hr, ne_eq, not_true_eq_false, false_or] at h5
  cases r with
  | generator g => exact ⟨of_decide_eq_true h5, g, rfl⟩
  | output o => simp at h5
  | axis x => simp at h5

/-- A state that the check accepts keeps every law. -/
theorem State.lawful_of_check {s : State} (h : s.check = true) : s.Lawful := by
  simp only [State.check, Bool.and_eq_true, decide_eq_true_eq, List.all_eq_true] at h
  obtain ⟨⟨⟨⟨⟨⟨⟨⟨⟨hf, hw⟩, hp⟩, hg⟩, hc⟩, hq⟩, hs⟩, hv⟩, ho⟩, hd⟩ := h
  obtain ⟨ha, hch, hh, hcam⟩ := State.fields_of_check hf
  obtain ⟨hsl, hco⟩ := State.windows_of_check hw
  have hq' := fun p => hq p (mem_allPorts p)
  exact
    ⟨ha, hch, hh, State.handOver_of_check ho, hcam, hsl, hco, State.pool_of_check hp, State.gens_of_check fun g => hg g (mem_allGens g),
      State.claims_of_check fun r => hc r (mem_allResources r),
      ⟨fun p => Session.lawful_of_check (hq' p).1.1,
        fun p q => of_decide_eq_true (hs p (mem_allPorts p) q (mem_allPorts q))⟩,
      fun p => NoticeQueue.lawful_of_check (hq' p).1.2, fun p => Port.linkLawful_of_check (hq' p).2,
      ⟨hv.1, hv.2, fun g => by simpa using hd g (mem_allGens g)⟩⟩

/-- The check of State.Serves. -/
def State.serves (s : State) (p : PortId) (seq : Byte) : Bool :=
  decide
    ((s.port p).atSpace = false ∧ (s.port p).intake = [] ∧ (s.port p).cached seq = none ∧ s.vEvents = [])

theorem State.serves_of_check {s : State} {p : PortId} {seq : Byte} (h : s.serves p seq = true) : s.Serves p seq :=
  have h := of_decide_eq_true h
  ⟨h.1, h.2.1, h.2.2.1, h.2.2.2⟩

theorem State.servesSession_of_check {s : State} {p : PortId} {seq : Byte}
    (h : (s.serves p seq && (s.session p).isOpen) = true) : s.ServesSession p seq :=
  have h := Bool.and_eq_true_iff.mp h
  ⟨State.serves_of_check h.1, h.2⟩

end Sys2Proof.Machine
end

