-- ==== Sys2Proof/Laws/State.lean ====
section
/-! SUPPORT. The fields of State after each named update: one lemma for each field that an update leaves alone, and
for each field that it writes what is read back. -/

namespace Sys2Proof

@[simp] theorem PerPort.get_set_same {α : Type} (t : PerPort α) (i : PortId) (x : α) : (t.set i x).get i = x := by
  cases i <;> rfl

theorem PerPort.get_set_other {α : Type} (t : PerPort α) (i j : PortId) (x : α) (h : j ≠ i) : (t.set i x).get j = t.get j := by
  cases i <;> cases j <;> first | rfl | exact absurd rfl h

theorem PerPort.get_set {α : Type} (t : PerPort α) (i j : PortId) (x : α) :
    (t.set i x).get j = if j = i then x else t.get j := by
  cases i <;> cases j <;> rfl

@[simp] theorem PerPort.set_get_same {α : Type} (t : PerPort α) (i : PortId) : t.set i (t.get i) = t := by
  cases i <;> rfl

@[simp] theorem PerPort.set_set_same {α : Type} (t : PerPort α) (i : PortId) (x y : α) : (t.set i x).set i y = t.set i y := by
  cases i <;> rfl

theorem PerPort.ext_get {α : Type} {t u : PerPort α} (h : ∀ i, t.get i = u.get i) : t = u := by
  cases t; cases u
  simp only [PerPort.mk.injEq]
  exact ⟨h .p1, h .p2, h .p3⟩

@[simp] theorem PerAxis.get_set_same {α : Type} (t : PerAxis α) (i : AxisId) (x : α) : (t.set i x).get i = x := by
  cases i <;> rfl

theorem PerAxis.get_set_other {α : Type} (t : PerAxis α) (i j : AxisId) (x : α) (h : j ≠ i) : (t.set i x).get j = t.get j := by
  cases i <;> cases j <;> first | rfl | exact absurd rfl h

theorem PerAxis.get_set {α : Type} (t : PerAxis α) (i j : AxisId) (x : α) :
    (t.set i x).get j = if j = i then x else t.get j := by
  cases i <;> cases j <;> rfl

@[simp] theorem PerAxis.set_get_same {α : Type} (t : PerAxis α) (i : AxisId) : t.set i (t.get i) = t := by
  cases i <;> rfl

@[simp] theorem PerAxis.set_set_same {α : Type} (t : PerAxis α) (i : AxisId) (x y : α) : (t.set i x).set i y = t.set i y := by
  cases i <;> rfl

theorem PerAxis.ext_get {α : Type} {t u : PerAxis α} (h : ∀ i, t.get i = u.get i) : t = u := by
  cases t; cases u
  simp only [PerAxis.mk.injEq]
  exact ⟨h .a, h .b, h .v⟩

@[simp] theorem PerGen.get_set_same {α : Type} (t : PerGen α) (i : GenId) (x : α) : (t.set i x).get i = x := by
  cases i <;> rfl

theorem PerGen.get_set_other {α : Type} (t : PerGen α) (i j : GenId) (x : α) (h : j ≠ i) : (t.set i x).get j = t.get j := by
  cases i <;> cases j <;> first | rfl | exact absurd rfl h

theorem PerGen.get_set {α : Type} (t : PerGen α) (i j : GenId) (x : α) :
    (t.set i x).get j = if j = i then x else t.get j := by
  cases i <;> cases j <;> rfl

@[simp] theorem PerGen.set_get_same {α : Type} (t : PerGen α) (i : GenId) : t.set i (t.get i) = t := by
  cases i <;> rfl

@[simp] theorem PerGen.set_set_same {α : Type} (t : PerGen α) (i : GenId) (x y : α) : (t.set i x).set i y = t.set i y := by
  cases i <;> rfl

theorem PerGen.ext_get {α : Type} {t u : PerGen α} (h : ∀ i, t.get i = u.get i) : t = u := by
  cases t; cases u
  simp only [PerGen.mk.injEq]
  exact ⟨h .g1, h .g2, h .gv⟩

end Sys2Proof

namespace Sys2Proof.Machine

variable (s : State)

/-! ### modPort -/

@[simp] theorem State.modPort_now (p : PortId) (f : Port → Port) : (s.modPort p f).now = s.now := rfl
@[simp] theorem State.modPort_lines (p : PortId) (f : Port → Port) : (s.modPort p f).lines = s.lines := rfl
@[simp] theorem State.modPort_axes (p : PortId) (f : Port → Port) : (s.modPort p f).axes = s.axes := rfl
@[simp] theorem State.modPort_slots (p : PortId) (f : Port → Port) : (s.modPort p f).slots = s.slots := rfl
@[simp] theorem State.modPort_camLevels (p : PortId) (f : Port → Port) : (s.modPort p f).camLevels = s.camLevels := rfl
@[simp] theorem State.modPort_commits (p : PortId) (f : Port → Port) : (s.modPort p f).commits = s.commits := rfl
@[simp] theorem State.modPort_compares (p : PortId) (f : Port → Port) : (s.modPort p f).compares = s.compares := rfl
@[simp] theorem State.modPort_nextCompareId (p : PortId) (f : Port → Port) : (s.modPort p f).nextCompareId = s.nextCompareId := rfl
@[simp] theorem State.modPort_channels (p : PortId) (f : Port → Port) : (s.modPort p f).channels = s.channels := rfl
@[simp] theorem State.modPort_gens (p : PortId) (f : Port → Port) : (s.modPort p f).gens = s.gens := rfl
@[simp] theorem State.modPort_halt (p : PortId) (f : Port → Port) : (s.modPort p f).halt = s.halt := rfl
@[simp] theorem State.modPort_handing (p : PortId) (f : Port → Port) : (s.modPort p f).handing = s.handing := rfl
@[simp] theorem State.modPort_clearing (p : PortId) (f : Port → Port) : (s.modPort p f).clearing = s.clearing := rfl
@[simp] theorem State.modPort_claims (p : PortId) (f : Port → Port) : (s.modPort p f).claims = s.claims := rfl
@[simp] theorem State.modPort_vEvents (p : PortId) (f : Port → Port) : (s.modPort p f).vEvents = s.vEvents := rfl
@[simp] theorem State.modPort_vTaking (p : PortId) (f : Port → Port) : (s.modPort p f).vTaking = s.vTaking := rfl
@[simp] theorem State.modPort_choices (p : PortId) (f : Port → Port) : (s.modPort p f).choices = s.choices := rfl
@[simp] theorem State.modPort_pending (p : PortId) (f : Port → Port) : (s.modPort p f).pending = s.pending := rfl

/-! ### modSession -/

@[simp] theorem State.modSession_now (p : PortId) (f : Session → Session) : (s.modSession p f).now = s.now := rfl
@[simp] theorem State.modSession_lines (p : PortId) (f : Session → Session) : (s.modSession p f).lines = s.lines := rfl
@[simp] theorem State.modSession_axes (p : PortId) (f : Session → Session) : (s.modSession p f).axes = s.axes := rfl
@[simp] theorem State.modSession_slots (p : PortId) (f : Session → Session) : (s.modSession p f).slots = s.slots := rfl
@[simp] theorem State.modSession_camLevels (p : PortId) (f : Session → Session) : (s.modSession p f).camLevels = s.camLevels := rfl
@[simp] theorem State.modSession_commits (p : PortId) (f : Session → Session) : (s.modSession p f).commits = s.commits := rfl
@[simp] theorem State.modSession_compares (p : PortId) (f : Session → Session) : (s.modSession p f).compares = s.compares := rfl
@[simp] theorem State.modSession_nextCompareId (p : PortId) (f : Session → Session) : (s.modSession p f).nextCompareId = s.nextCompareId := rfl
@[simp] theorem State.modSession_channels (p : PortId) (f : Session → Session) : (s.modSession p f).channels = s.channels := rfl
@[simp] theorem State.modSession_gens (p : PortId) (f : Session → Session) : (s.modSession p f).gens = s.gens := rfl
@[simp] theorem State.modSession_halt (p : PortId) (f : Session → Session) : (s.modSession p f).halt = s.halt := rfl
@[simp] theorem State.modSession_handing (p : PortId) (f : Session → Session) : (s.modSession p f).handing = s.handing := rfl
@[simp] theorem State.modSession_clearing (p : PortId) (f : Session → Session) : (s.modSession p f).clearing = s.clearing := rfl
@[simp] theorem State.modSession_claims (p : PortId) (f : Session → Session) : (s.modSession p f).claims = s.claims := rfl
@[simp] theorem State.modSession_vEvents (p : PortId) (f : Session → Session) : (s.modSession p f).vEvents = s.vEvents := rfl
@[simp] theorem State.modSession_vTaking (p : PortId) (f : Session → Session) : (s.modSession p f).vTaking = s.vTaking := rfl
@[simp] theorem State.modSession_choices (p : PortId) (f : Session → Session) : (s.modSession p f).choices = s.choices := rfl
@[simp] theorem State.modSession_pending (p : PortId) (f : Session → Session) : (s.modSession p f).pending = s.pending := rfl

/-! ### modAxis -/

@[simp] theorem State.modAxis_now (x : AxisId) (f : Axis → Axis) : (s.modAxis x f).now = s.now := rfl
@[simp] theorem State.modAxis_lines (x : AxisId) (f : Axis → Axis) : (s.modAxis x f).lines = s.lines := rfl
@[simp] theorem State.modAxis_slots (x : AxisId) (f : Axis → Axis) : (s.modAxis x f).slots = s.slots := rfl
@[simp] theorem State.modAxis_camLevels (x : AxisId) (f : Axis → Axis) : (s.modAxis x f).camLevels = s.camLevels := rfl
@[simp] theorem State.modAxis_commits (x : AxisId) (f : Axis → Axis) : (s.modAxis x f).commits = s.commits := rfl
@[simp] theorem State.modAxis_compares (x : AxisId) (f : Axis → Axis) : (s.modAxis x f).compares = s.compares := rfl
@[simp] theorem State.modAxis_nextCompareId (x : AxisId) (f : Axis → Axis) : (s.modAxis x f).nextCompareId = s.nextCompareId := rfl
@[simp] theorem State.modAxis_channels (x : AxisId) (f : Axis → Axis) : (s.modAxis x f).channels = s.channels := rfl
@[simp] theorem State.modAxis_gens (x : AxisId) (f : Axis → Axis) : (s.modAxis x f).gens = s.gens := rfl
@[simp] theorem State.modAxis_halt (x : AxisId) (f : Axis → Axis) : (s.modAxis x f).halt = s.halt := rfl
@[simp] theorem State.modAxis_handing (x : AxisId) (f : Axis → Axis) : (s.modAxis x f).handing = s.handing := rfl
@[simp] theorem State.modAxis_clearing (x : AxisId) (f : Axis → Axis) : (s.modAxis x f).clearing = s.clearing := rfl
@[simp] theorem State.modAxis_claims (x : AxisId) (f : Axis → Axis) : (s.modAxis x f).claims = s.claims := rfl
@[simp] theorem State.modAxis_ports (x : AxisId) (f : Axis → Axis) : (s.modAxis x f).ports = s.ports := rfl
@[simp] theorem State.modAxis_vEvents (x : AxisId) (f : Axis → Axis) : (s.modAxis x f).vEvents = s.vEvents := rfl
@[simp] theorem State.modAxis_vTaking (x : AxisId) (f : Axis → Axis) : (s.modAxis x f).vTaking = s.vTaking := rfl
@[simp] theorem State.modAxis_choices (x : AxisId) (f : Axis → Axis) : (s.modAxis x f).choices = s.choices := rfl
@[simp] theorem State.modAxis_pending (x : AxisId) (f : Axis → Axis) : (s.modAxis x f).pending = s.pending := rfl

/-! ### modGen -/

@[simp] theorem State.modGen_now (g : GenId) (f : Generator → Generator) : (s.modGen g f).now = s.now := rfl
@[simp] theorem State.modGen_lines (g : GenId) (f : Generator → Generator) : (s.modGen g f).lines = s.lines := rfl
@[simp] theorem State.modGen_axes (g : GenId) (f : Generator → Generator) : (s.modGen g f).axes = s.axes := rfl
@[simp] theorem State.modGen_slots (g : GenId) (f : Generator → Generator) : (s.modGen g f).slots = s.slots := rfl
@[simp] theorem State.modGen_camLevels (g : GenId) (f : Generator → Generator) : (s.modGen g f).camLevels = s.camLevels := rfl
@[simp] theorem State.modGen_commits (g : GenId) (f : Generator → Generator) : (s.modGen g f).commits = s.commits := rfl
@[simp] theorem State.modGen_compares (g : GenId) (f : Generator → Generator) : (s.modGen g f).compares = s.compares := rfl
@[simp] theorem State.modGen_nextCompareId (g : GenId) (f : Generator → Generator) : (s.modGen g f).nextCompareId = s.nextCompareId := rfl
@[simp] theorem State.modGen_channels (g : GenId) (f : Generator → Generator) : (s.modGen g f).channels = s.channels := rfl
@[simp] theorem State.modGen_halt (g : GenId) (f : Generator → Generator) : (s.modGen g f).halt = s.halt := rfl
@[simp] theorem State.modGen_handing (g : GenId) (f : Generator → Generator) : (s.modGen g f).handing = s.handing := rfl
@[simp] theorem State.modGen_clearing (g : GenId) (f : Generator → Generator) : (s.modGen g f).clearing = s.clearing := rfl
@[simp] theorem State.modGen_claims (g : GenId) (f : Generator → Generator) : (s.modGen g f).claims = s.claims := rfl
@[simp] theorem State.modGen_ports (g : GenId) (f : Generator → Generator) : (s.modGen g f).ports = s.ports := rfl
@[simp] theorem State.modGen_vEvents (g : GenId) (f : Generator → Generator) : (s.modGen g f).vEvents = s.vEvents := rfl
@[simp] theorem State.modGen_vTaking (g : GenId) (f : Generator → Generator) : (s.modGen g f).vTaking = s.vTaking := rfl
@[simp] theorem State.modGen_choices (g : GenId) (f : Generator → Generator) : (s.modGen g f).choices = s.choices := rfl
@[simp] theorem State.modGen_pending (g : GenId) (f : Generator → Generator) : (s.modGen g f).pending = s.pending := rfl

/-! ### setClaim -/

@[simp] theorem State.setClaim_now (r : Resource) (c : Claim) : (s.setClaim r c).now = s.now := rfl
@[simp] theorem State.setClaim_lines (r : Resource) (c : Claim) : (s.setClaim r c).lines = s.lines := rfl
@[simp] theorem State.setClaim_axes (r : Resource) (c : Claim) : (s.setClaim r c).axes = s.axes := rfl
@[simp] theorem State.setClaim_slots (r : Resource) (c : Claim) : (s.setClaim r c).slots = s.slots := rfl
@[simp] theorem State.setClaim_camLevels (r : Resource) (c : Claim) : (s.setClaim r c).camLevels = s.camLevels := rfl
@[simp] theorem State.setClaim_commits (r : Resource) (c : Claim) : (s.setClaim r c).commits = s.commits := rfl
@[simp] theorem State.setClaim_compares (r : Resource) (c : Claim) : (s.setClaim r c).compares = s.compares := rfl
@[simp] theorem State.setClaim_nextCompareId (r : Resource) (c : Claim) : (s.setClaim r c).nextCompareId = s.nextCompareId := rfl
@[simp] theorem State.setClaim_channels (r : Resource) (c : Claim) : (s.setClaim r c).channels = s.channels := rfl
@[simp] theorem State.setClaim_gens (r : Resource) (c : Claim) : (s.setClaim r c).gens = s.gens := rfl
@[simp] theorem State.setClaim_halt (r : Resource) (c : Claim) : (s.setClaim r c).halt = s.halt := rfl
@[simp] theorem State.setClaim_handing (r : Resource) (c : Claim) : (s.setClaim r c).handing = s.handing := rfl
@[simp] theorem State.setClaim_clearing (r : Resource) (c : Claim) : (s.setClaim r c).clearing = s.clearing := rfl
@[simp] theorem State.setClaim_ports (r : Resource) (c : Claim) : (s.setClaim r c).ports = s.ports := rfl
@[simp] theorem State.setClaim_vEvents (r : Resource) (c : Claim) : (s.setClaim r c).vEvents = s.vEvents := rfl
@[simp] theorem State.setClaim_vTaking (r : Resource) (c : Claim) : (s.setClaim r c).vTaking = s.vTaking := rfl
@[simp] theorem State.setClaim_choices (r : Resource) (c : Claim) : (s.setClaim r c).choices = s.choices := rfl
@[simp] theorem State.setClaim_pending (r : Resource) (c : Claim) : (s.setClaim r c).pending = s.pending := rfl

/-! ### setCompareList -/

@[simp] theorem State.setCompareList_now (x : AxisId) (l : List CompareEntry) : (s.setCompareList x l).now = s.now := rfl
@[simp] theorem State.setCompareList_lines (x : AxisId) (l : List CompareEntry) : (s.setCompareList x l).lines = s.lines := rfl
@[simp] theorem State.setCompareList_axes (x : AxisId) (l : List CompareEntry) : (s.setCompareList x l).axes = s.axes := rfl
@[simp] theorem State.setCompareList_slots (x : AxisId) (l : List CompareEntry) : (s.setCompareList x l).slots = s.slots := rfl
@[simp] theorem State.setCompareList_camLevels (x : AxisId) (l : List CompareEntry) : (s.setCompareList x l).camLevels = s.camLevels := rfl
@[simp] theorem State.setCompareList_commits (x : AxisId) (l : List CompareEntry) : (s.setCompareList x l).commits = s.commits := rfl
@[simp] theorem State.setCompareList_nextCompareId (x : AxisId) (l : List CompareEntry) : (s.setCompareList x l).nextCompareId = s.nextCompareId := rfl
@[simp] theorem State.setCompareList_channels (x : AxisId) (l : List CompareEntry) : (s.setCompareList x l).channels = s.channels := rfl
@[simp] theorem State.setCompareList_gens (x : AxisId) (l : List CompareEntry) : (s.setCompareList x l).gens = s.gens := rfl
@[simp] theorem State.setCompareList_halt (x : AxisId) (l : List CompareEntry) : (s.setCompareList x l).halt = s.halt := rfl
@[simp] theorem State.setCompareList_handing (x : AxisId) (l : List CompareEntry) : (s.setCompareList x l).handing = s.handing := rfl
@[simp] theorem State.setCompareList_clearing (x : AxisId) (l : List CompareEntry) : (s.setCompareList x l).clearing = s.clearing := rfl
@[simp] theorem State.setCompareList_claims (x : AxisId) (l : List CompareEntry) : (s.setCompareList x l).claims = s.claims := rfl
@[simp] theorem State.setCompareList_ports (x : AxisId) (l : List CompareEntry) : (s.setCompareList x l).ports = s.ports := rfl
@[simp] theorem State.setCompareList_vEvents (x : AxisId) (l : List CompareEntry) : (s.setCompareList x l).vEvents = s.vEvents := rfl
@[simp] theorem State.setCompareList_vTaking (x : AxisId) (l : List CompareEntry) : (s.setCompareList x l).vTaking = s.vTaking := rfl
@[simp] theorem State.setCompareList_choices (x : AxisId) (l : List CompareEntry) : (s.setCompareList x l).choices = s.choices := rfl
@[simp] theorem State.setCompareList_pending (x : AxisId) (l : List CompareEntry) : (s.setCompareList x l).pending = s.pending := rfl

/-! ### setCommit -/

@[simp] theorem State.setCommit_now (p : PortId) (x : AxisId) (b : Bool) : (s.setCommit p x b).now = s.now := rfl
@[simp] theorem State.setCommit_lines (p : PortId) (x : AxisId) (b : Bool) : (s.setCommit p x b).lines = s.lines := rfl
@[simp] theorem State.setCommit_axes (p : PortId) (x : AxisId) (b : Bool) : (s.setCommit p x b).axes = s.axes := rfl
@[simp] theorem State.setCommit_slots (p : PortId) (x : AxisId) (b : Bool) : (s.setCommit p x b).slots = s.slots := rfl
@[simp] theorem State.setCommit_camLevels (p : PortId) (x : AxisId) (b : Bool) : (s.setCommit p x b).camLevels = s.camLevels := rfl
@[simp] theorem State.setCommit_compares (p : PortId) (x : AxisId) (b : Bool) : (s.setCommit p x b).compares = s.compares := rfl
@[simp] theorem State.setCommit_nextCompareId (p : PortId) (x : AxisId) (b : Bool) : (s.setCommit p x b).nextCompareId = s.nextCompareId := rfl
@[simp] theorem State.setCommit_channels (p : PortId) (x : AxisId) (b : Bool) : (s.setCommit p x b).channels = s.channels := rfl
@[simp] theorem State.setCommit_gens (p : PortId) (x : AxisId) (b : Bool) : (s.setCommit p x b).gens = s.gens := rfl
@[simp] theorem State.setCommit_halt (p : PortId) (x : AxisId) (b : Bool) : (s.setCommit p x b).halt = s.halt := rfl
@[simp] theorem State.setCommit_handing (p : PortId) (x : AxisId) (b : Bool) : (s.setCommit p x b).handing = s.handing := rfl
@[simp] theorem State.setCommit_clearing (p : PortId) (x : AxisId) (b : Bool) : (s.setCommit p x b).clearing = s.clearing := rfl
@[simp] theorem State.setCommit_claims (p : PortId) (x : AxisId) (b : Bool) : (s.setCommit p x b).claims = s.claims := rfl
@[simp] theorem State.setCommit_ports (p : PortId) (x : AxisId) (b : Bool) : (s.setCommit p x b).ports = s.ports := rfl
@[simp] theorem State.setCommit_vEvents (p : PortId) (x : AxisId) (b : Bool) : (s.setCommit p x b).vEvents = s.vEvents := rfl
@[simp] theorem State.setCommit_vTaking (p : PortId) (x : AxisId) (b : Bool) : (s.setCommit p x b).vTaking = s.vTaking := rfl
@[simp] theorem State.setCommit_choices (p : PortId) (x : AxisId) (b : Bool) : (s.setCommit p x b).choices = s.choices := rfl
@[simp] theorem State.setCommit_pending (p : PortId) (x : AxisId) (b : Bool) : (s.setCommit p x b).pending = s.pending := rfl

/-! ### arrive -/

@[simp] theorem State.arrive_now (o : OutputId) (f : Channel → Channel) : (s.arrive o f).now = s.now := rfl
@[simp] theorem State.arrive_lines (o : OutputId) (f : Channel → Channel) : (s.arrive o f).lines = s.lines := rfl
@[simp] theorem State.arrive_axes (o : OutputId) (f : Channel → Channel) : (s.arrive o f).axes = s.axes := rfl
@[simp] theorem State.arrive_slots (o : OutputId) (f : Channel → Channel) : (s.arrive o f).slots = s.slots := rfl
@[simp] theorem State.arrive_camLevels (o : OutputId) (f : Channel → Channel) : (s.arrive o f).camLevels = s.camLevels := rfl
@[simp] theorem State.arrive_commits (o : OutputId) (f : Channel → Channel) : (s.arrive o f).commits = s.commits := rfl
@[simp] theorem State.arrive_compares (o : OutputId) (f : Channel → Channel) : (s.arrive o f).compares = s.compares := rfl
@[simp] theorem State.arrive_nextCompareId (o : OutputId) (f : Channel → Channel) : (s.arrive o f).nextCompareId = s.nextCompareId := rfl
@[simp] theorem State.arrive_gens (o : OutputId) (f : Channel → Channel) : (s.arrive o f).gens = s.gens := rfl
@[simp] theorem State.arrive_halt (o : OutputId) (f : Channel → Channel) : (s.arrive o f).halt = s.halt := rfl
@[simp] theorem State.arrive_handing (o : OutputId) (f : Channel → Channel) : (s.arrive o f).handing = s.handing := rfl
@[simp] theorem State.arrive_clearing (o : OutputId) (f : Channel → Channel) : (s.arrive o f).clearing = s.clearing := rfl
@[simp] theorem State.arrive_claims (o : OutputId) (f : Channel → Channel) : (s.arrive o f).claims = s.claims := rfl
@[simp] theorem State.arrive_ports (o : OutputId) (f : Channel → Channel) : (s.arrive o f).ports = s.ports := rfl
@[simp] theorem State.arrive_vEvents (o : OutputId) (f : Channel → Channel) : (s.arrive o f).vEvents = s.vEvents := rfl
@[simp] theorem State.arrive_vTaking (o : OutputId) (f : Channel → Channel) : (s.arrive o f).vTaking = s.vTaking := rfl
@[simp] theorem State.arrive_choices (o : OutputId) (f : Channel → Channel) : (s.arrive o f).choices = s.choices := rfl
@[simp] theorem State.arrive_pending (o : OutputId) (f : Channel → Channel) : (s.arrive o f).pending = s.pending := rfl

/-! ### The accessors after an update elsewhere -/

@[simp] theorem State.modPort_axis (p : PortId) (f : Port → Port) (y : AxisId) : (s.modPort p f).axis y = s.axis y := rfl
@[simp] theorem State.modPort_gen (p : PortId) (f : Port → Port) (h : GenId) : (s.modPort p f).gen h = s.gen h := rfl
@[simp] theorem State.modPort_channel (p : PortId) (f : Port → Port) (o : OutputId) : (s.modPort p f).channel o = s.channel o := rfl
@[simp] theorem State.modPort_claim (p : PortId) (f : Port → Port) (r : Resource) : (s.modPort p f).claim r = s.claim r := rfl
@[simp] theorem State.modPort_holder (p : PortId) (f : Port → Port) (r : Resource) : (s.modPort p f).holder r = s.holder r := rfl
@[simp] theorem State.modPort_compareList (p : PortId) (f : Port → Port) (y : AxisId) : (s.modPort p f).compareList y = s.compareList y := rfl
@[simp] theorem State.modPort_hasCommit (p : PortId) (f : Port → Port) (q : PortId) (y : AxisId) : (s.modPort p f).hasCommit q y = s.hasCommit q y := rfl
@[simp] theorem State.modSession_axis (p : PortId) (f : Session → Session) (y : AxisId) : (s.modSession p f).axis y = s.axis y := rfl
@[simp] theorem State.modSession_gen (p : PortId) (f : Session → Session) (h : GenId) : (s.modSession p f).gen h = s.gen h := rfl
@[simp] theorem State.modSession_channel (p : PortId) (f : Session → Session) (o : OutputId) : (s.modSession p f).channel o = s.channel o := rfl
@[simp] theorem State.modSession_claim (p : PortId) (f : Session → Session) (r : Resource) : (s.modSession p f).claim r = s.claim r := rfl
@[simp] theorem State.modSession_holder (p : PortId) (f : Session → Session) (r : Resource) : (s.modSession p f).holder r = s.holder r := rfl
@[simp] theorem State.modSession_compareList (p : PortId) (f : Session → Session) (y : AxisId) : (s.modSession p f).compareList y = s.compareList y := rfl
@[simp] theorem State.modSession_hasCommit (p : PortId) (f : Session → Session) (q : PortId) (y : AxisId) : (s.modSession p f).hasCommit q y = s.hasCommit q y := rfl
@[simp] theorem State.modAxis_port (x : AxisId) (f : Axis → Axis) (q : PortId) : (s.modAxis x f).port q = s.port q := rfl
@[simp] theorem State.modAxis_session (x : AxisId) (f : Axis → Axis) (q : PortId) : (s.modAxis x f).session q = s.session q := rfl
@[simp] theorem State.modAxis_station (x : AxisId) (f : Axis → Axis) (q : PortId) : (s.modAxis x f).station q = s.station q := rfl
@[simp] theorem State.modAxis_gen (x : AxisId) (f : Axis → Axis) (h : GenId) : (s.modAxis x f).gen h = s.gen h := rfl
@[simp] theorem State.modAxis_channel (x : AxisId) (f : Axis → Axis) (o : OutputId) : (s.modAxis x f).channel o = s.channel o := rfl
@[simp] theorem State.modAxis_claim (x : AxisId) (f : Axis → Axis) (r : Resource) : (s.modAxis x f).claim r = s.claim r := rfl
@[simp] theorem State.modAxis_holder (x : AxisId) (f : Axis → Axis) (r : Resource) : (s.modAxis x f).holder r = s.holder r := rfl
@[simp] theorem State.modAxis_compareList (x : AxisId) (f : Axis → Axis) (y : AxisId) : (s.modAxis x f).compareList y = s.compareList y := rfl
@[simp] theorem State.modAxis_hasCommit (x : AxisId) (f : Axis → Axis) (q : PortId) (y : AxisId) : (s.modAxis x f).hasCommit q y = s.hasCommit q y := rfl
@[simp] theorem State.modGen_port (g : GenId) (f : Generator → Generator) (q : PortId) : (s.modGen g f).port q = s.port q := rfl
@[simp] theorem State.modGen_session (g : GenId) (f : Generator → Generator) (q : PortId) : (s.modGen g f).session q = s.session q := rfl
@[simp] theorem State.modGen_station (g : GenId) (f : Generator → Generator) (q : PortId) : (s.modGen g f).station q = s.station q := rfl
@[simp] theorem State.modGen_axis (g : GenId) (f : Generator → Generator) (y : AxisId) : (s.modGen g f).axis y = s.axis y := rfl
@[simp] theorem State.modGen_channel (g : GenId) (f : Generator → Generator) (o : OutputId) : (s.modGen g f).channel o = s.channel o := rfl
@[simp] theorem State.modGen_claim (g : GenId) (f : Generator → Generator) (r : Resource) : (s.modGen g f).claim r = s.claim r := rfl
@[simp] theorem State.modGen_holder (g : GenId) (f : Generator → Generator) (r : Resource) : (s.modGen g f).holder r = s.holder r := rfl
@[simp] theorem State.modGen_compareList (g : GenId) (f : Generator → Generator) (y : AxisId) : (s.modGen g f).compareList y = s.compareList y := rfl
@[simp] theorem State.modGen_hasCommit (g : GenId) (f : Generator → Generator) (q : PortId) (y : AxisId) : (s.modGen g f).hasCommit q y = s.hasCommit q y := rfl
@[simp] theorem State.setClaim_port (r : Resource) (c : Claim) (q : PortId) : (s.setClaim r c).port q = s.port q := rfl
@[simp] theorem State.setClaim_session (r : Resource) (c : Claim) (q : PortId) : (s.setClaim r c).session q = s.session q := rfl
@[simp] theorem State.setClaim_station (r : Resource) (c : Claim) (q : PortId) : (s.setClaim r c).station q = s.station q := rfl
@[simp] theorem State.setClaim_axis (r : Resource) (c : Claim) (y : AxisId) : (s.setClaim r c).axis y = s.axis y := rfl
@[simp] theorem State.setClaim_gen (r : Resource) (c : Claim) (h : GenId) : (s.setClaim r c).gen h = s.gen h := rfl
@[simp] theorem State.setClaim_channel (r : Resource) (c : Claim) (o : OutputId) : (s.setClaim r c).channel o = s.channel o := rfl
@[simp] theorem State.setClaim_compareList (r : Resource) (c : Claim) (y : AxisId) : (s.setClaim r c).compareList y = s.compareList y := rfl
@[simp] theorem State.setClaim_hasCommit (r : Resource) (c : Claim) (q : PortId) (y : AxisId) : (s.setClaim r c).hasCommit q y = s.hasCommit q y := rfl
@[simp] theorem State.setCompareList_port (x : AxisId) (l : List CompareEntry) (q : PortId) : (s.setCompareList x l).port q = s.port q := rfl
@[simp] theorem State.setCompareList_session (x : AxisId) (l : List CompareEntry) (q : PortId) : (s.setCompareList x l).session q = s.session q := rfl
@[simp] theorem State.setCompareList_station (x : AxisId) (l : List CompareEntry) (q : PortId) : (s.setCompareList x l).station q = s.station q := rfl
@[simp] theorem State.setCompareList_axis (x : AxisId) (l : List CompareEntry) (y : AxisId) : (s.setCompareList x l).axis y = s.axis y := rfl
@[simp] theorem State.setCompareList_gen (x : AxisId) (l : List CompareEntry) (h : GenId) : (s.setCompareList x l).gen h = s.gen h := rfl
@[simp] theorem State.setCompareList_channel (x : AxisId) (l : List CompareEntry) (o : OutputId) : (s.setCompareList x l).channel o = s.channel o := rfl
@[simp] theorem State.setCompareList_claim (x : AxisId) (l : List CompareEntry) (r : Resource) : (s.setCompareList x l).claim r = s.claim r := rfl
@[simp] theorem State.setCompareList_holder (x : AxisId) (l : List CompareEntry) (r : Resource) : (s.setCompareList x l).holder r = s.holder r := rfl
@[simp] theorem State.setCompareList_hasCommit (x : AxisId) (l : List CompareEntry) (q : PortId) (y : AxisId) : (s.setCompareList x l).hasCommit q y = s.hasCommit q y := rfl
@[simp] theorem State.setCommit_port (p : PortId) (x : AxisId) (b : Bool) (q : PortId) : (s.setCommit p x b).port q = s.port q := rfl
@[simp] theorem State.setCommit_session (p : PortId) (x : AxisId) (b : Bool) (q : PortId) : (s.setCommit p x b).session q = s.session q := rfl
@[simp] theorem State.setCommit_station (p : PortId) (x : AxisId) (b : Bool) (q : PortId) : (s.setCommit p x b).station q = s.station q := rfl
@[simp] theorem State.setCommit_axis (p : PortId) (x : AxisId) (b : Bool) (y : AxisId) : (s.setCommit p x b).axis y = s.axis y := rfl
@[simp] theorem State.setCommit_gen (p : PortId) (x : AxisId) (b : Bool) (h : GenId) : (s.setCommit p x b).gen h = s.gen h := rfl
@[simp] theorem State.setCommit_channel (p : PortId) (x : AxisId) (b : Bool) (o : OutputId) : (s.setCommit p x b).channel o = s.channel o := rfl
@[simp] theorem State.setCommit_claim (p : PortId) (x : AxisId) (b : Bool) (r : Resource) : (s.setCommit p x b).claim r = s.claim r := rfl
@[simp] theorem State.setCommit_holder (p : PortId) (x : AxisId) (b : Bool) (r : Resource) : (s.setCommit p x b).holder r = s.holder r := rfl
@[simp] theorem State.setCommit_compareList (p : PortId) (x : AxisId) (b : Bool) (y : AxisId) : (s.setCommit p x b).compareList y = s.compareList y := rfl
@[simp] theorem State.arrive_port (o : OutputId) (f : Channel → Channel) (q : PortId) : (s.arrive o f).port q = s.port q := rfl
@[simp] theorem State.arrive_session (o : OutputId) (f : Channel → Channel) (q : PortId) : (s.arrive o f).session q = s.session q := rfl
@[simp] theorem State.arrive_station (o : OutputId) (f : Channel → Channel) (q : PortId) : (s.arrive o f).station q = s.station q := rfl
@[simp] theorem State.arrive_axis (o : OutputId) (f : Channel → Channel) (y : AxisId) : (s.arrive o f).axis y = s.axis y := rfl
@[simp] theorem State.arrive_gen (o : OutputId) (f : Channel → Channel) (h : GenId) : (s.arrive o f).gen h = s.gen h := rfl
@[simp] theorem State.arrive_claim (o : OutputId) (f : Channel → Channel) (r : Resource) : (s.arrive o f).claim r = s.claim r := rfl
@[simp] theorem State.arrive_holder (o : OutputId) (f : Channel → Channel) (r : Resource) : (s.arrive o f).holder r = s.holder r := rfl
@[simp] theorem State.arrive_compareList (o : OutputId) (f : Channel → Channel) (y : AxisId) : (s.arrive o f).compareList y = s.compareList y := rfl
@[simp] theorem State.arrive_hasCommit (o : OutputId) (f : Channel → Channel) (q : PortId) (y : AxisId) : (s.arrive o f).hasCommit q y = s.hasCommit q y := rfl

/-! ### What an update writes, read back -/

@[simp] theorem State.modPort_port_same (p : PortId) (f : Port → Port) : (s.modPort p f).port p = f (s.port p) := by
  simp [State.modPort, State.port]

theorem State.modPort_port_other (p q : PortId) (f : Port → Port) (h : q ≠ p) : (s.modPort p f).port q = s.port q := by
  simp [State.modPort, State.port, PerPort.get_set_other _ _ _ _ h]

theorem State.modPort_port (p q : PortId) (f : Port → Port) :
    (s.modPort p f).port q = if q = p then f (s.port p) else s.port q := by
  simp [State.modPort, State.port, PerPort.get_set]

@[simp] theorem State.modSession_session_same (p : PortId) (f : Session → Session) :
    (s.modSession p f).session p = f (s.session p) := by
  simp [State.modSession, State.session]

@[simp] theorem State.modAxis_axis_same (x : AxisId) (f : Axis → Axis) : (s.modAxis x f).axis x = f (s.axis x) := by
  simp [State.modAxis, State.axis]

theorem State.modAxis_axis_other (x y : AxisId) (f : Axis → Axis) (h : y ≠ x) : (s.modAxis x f).axis y = s.axis y := by
  simp [State.modAxis, State.axis, PerAxis.get_set_other _ _ _ _ h]

theorem State.modAxis_axis (x y : AxisId) (f : Axis → Axis) :
    (s.modAxis x f).axis y = if y = x then f (s.axis x) else s.axis y := by
  simp [State.modAxis, State.axis, PerAxis.get_set]

@[simp] theorem State.modGen_gen_same (g : GenId) (f : Generator → Generator) : (s.modGen g f).gen g = f (s.gen g) := by
  simp [State.modGen, State.gen]

theorem State.modGen_gen_other (g h : GenId) (f : Generator → Generator) (d : h ≠ g) : (s.modGen g f).gen h = s.gen h := by
  simp [State.modGen, State.gen, PerGen.get_set_other _ _ _ _ d]

theorem State.modGen_gen (g h : GenId) (f : Generator → Generator) :
    (s.modGen g f).gen h = if h = g then f (s.gen g) else s.gen h := by
  simp [State.modGen, State.gen, PerGen.get_set]

@[simp] theorem State.arrive_channel_same (o : OutputId) (f : Channel → Channel) :
    (s.arrive o f).channel o = { f (s.channel o) with line := (f (s.channel o)).effective } := by
  simp [State.arrive, State.channel]

theorem State.arrive_channel_other (o q : OutputId) (f : Channel → Channel) (h : q ≠ o) :
    (s.arrive o f).channel q = s.channel q := by
  have : o.val ≠ q.val := fun e => h (Fin.ext e.symm)
  simp [State.arrive, State.channel, this]

@[simp] theorem ClaimTable.get_set_same (t : ClaimTable) (r : Resource) (c : Claim) : (t.set r c).get r = c := by
  cases r <;> simp [ClaimTable.set, ClaimTable.get]

theorem ClaimTable.get_set_other (t : ClaimTable) (r q : Resource) (c : Claim) (h : q ≠ r) :
    (t.set r c).get q = t.get q := by
  cases r with
  | output o =>
    cases q with
    | output u =>
      have : o.val ≠ u.val := fun e => h (congrArg Resource.output (Fin.ext e.symm))
      simp [ClaimTable.set, ClaimTable.get, this]
    | generator g => rfl
    | axis x => rfl
  | generator g =>
    cases q with
    | output u => rfl
    | generator k =>
      have : k ≠ g := fun e => h (congrArg Resource.generator e)
      simp [ClaimTable.set, ClaimTable.get, PerGen.get_set_other _ _ _ _ this]
    | axis x => rfl
  | axis x =>
    cases q with
    | output u => rfl
    | generator g => rfl
    | axis y =>
      have : y ≠ x := fun e => h (congrArg Resource.axis e)
      simp [ClaimTable.set, ClaimTable.get, PerAxis.get_set_other _ _ _ _ this]

@[simp] theorem State.setClaim_claim_same (r : Resource) (c : Claim) : (s.setClaim r c).claim r = c := by
  simp [State.setClaim, State.claim]

theorem State.setClaim_claim_other (r q : Resource) (c : Claim) (h : q ≠ r) : (s.setClaim r c).claim q = s.claim q := by
  simp [State.setClaim, State.claim, ClaimTable.get_set_other _ _ _ _ h]

@[simp] theorem State.setCompareList_same (x : AxisId) (l : List CompareEntry) :
    (s.setCompareList x l).compareList x = l := by
  simp [State.setCompareList, State.compareList]

theorem State.setCompareList_other (x y : AxisId) (l : List CompareEntry) (h : y ≠ x) :
    (s.setCompareList x l).compareList y = s.compareList y := by
  simp [State.setCompareList, State.compareList, PerAxis.get_set_other _ _ _ _ h]

@[simp] theorem mapVector_get {α : Type} {n : Nat} (f : α → α) (v : Vector α n) (i : Nat) (h : i < n) :
    (mapVector f v)[i] = f v[i] := by
  simp [mapVector, Vector.getElem_mk]

end Sys2Proof.Machine
end

