-- ==== Sys2Proof/Laws/Reach.lean ====
section
/-! SUPPORT. How far each shared operation reaches: relations that say which fields of State may differ, with one lemma
for each operation. -/

namespace Sys2Proof.Machine

/-- Two states that differ at most in the ports. -/
structure PortsOnly (s t : State) : Prop where
  eq : t = { s with ports := t.ports }

theorem PortsOnly.refl (s : State) : PortsOnly s s := ⟨rfl⟩

theorem PortsOnly.trans {s t u : State} (h : PortsOnly s t) (k : PortsOnly t u) : PortsOnly s u := by
  constructor
  rw [k.eq, h.eq]

theorem PortsOnly.now {s t : State} (h : PortsOnly s t) : t.now = s.now := by
  have e := congrArg State.now h.eq
  exact e
theorem PortsOnly.lines {s t : State} (h : PortsOnly s t) : t.lines = s.lines := by
  have e := congrArg State.lines h.eq
  exact e
theorem PortsOnly.axes {s t : State} (h : PortsOnly s t) : t.axes = s.axes := by
  have e := congrArg State.axes h.eq
  exact e
theorem PortsOnly.slots {s t : State} (h : PortsOnly s t) : t.slots = s.slots := by
  have e := congrArg State.slots h.eq
  exact e
theorem PortsOnly.camLevels {s t : State} (h : PortsOnly s t) : t.camLevels = s.camLevels := by
  have e := congrArg State.camLevels h.eq
  exact e
theorem PortsOnly.commits {s t : State} (h : PortsOnly s t) : t.commits = s.commits := by
  have e := congrArg State.commits h.eq
  exact e
theorem PortsOnly.compares {s t : State} (h : PortsOnly s t) : t.compares = s.compares := by
  have e := congrArg State.compares h.eq
  exact e
theorem PortsOnly.nextCompareId {s t : State} (h : PortsOnly s t) : t.nextCompareId = s.nextCompareId := by
  have e := congrArg State.nextCompareId h.eq
  exact e
theorem PortsOnly.channels {s t : State} (h : PortsOnly s t) : t.channels = s.channels := by
  have e := congrArg State.channels h.eq
  exact e
theorem PortsOnly.gens {s t : State} (h : PortsOnly s t) : t.gens = s.gens := by
  have e := congrArg State.gens h.eq
  exact e
theorem PortsOnly.halt {s t : State} (h : PortsOnly s t) : t.halt = s.halt := by
  have e := congrArg State.halt h.eq
  exact e
theorem PortsOnly.handing {s t : State} (h : PortsOnly s t) : t.handing = s.handing := by
  have e := congrArg State.handing h.eq
  exact e
theorem PortsOnly.clearing {s t : State} (h : PortsOnly s t) : t.clearing = s.clearing := by
  have e := congrArg State.clearing h.eq
  exact e
theorem PortsOnly.claims {s t : State} (h : PortsOnly s t) : t.claims = s.claims := by
  have e := congrArg State.claims h.eq
  exact e
theorem PortsOnly.vEvents {s t : State} (h : PortsOnly s t) : t.vEvents = s.vEvents := by
  have e := congrArg State.vEvents h.eq
  exact e
theorem PortsOnly.vTaking {s t : State} (h : PortsOnly s t) : t.vTaking = s.vTaking := by
  have e := congrArg State.vTaking h.eq
  exact e
theorem PortsOnly.choices {s t : State} (h : PortsOnly s t) : t.choices = s.choices := by
  have e := congrArg State.choices h.eq
  exact e
theorem PortsOnly.pending {s t : State} (h : PortsOnly s t) : t.pending = s.pending := by
  have e := congrArg State.pending h.eq
  exact e

/-- Two states that differ at most in the cam levels and the channels. -/
structure LevelsOnly (s t : State) : Prop where
  eq : t = { s with camLevels := t.camLevels, channels := t.channels }

theorem LevelsOnly.refl (s : State) : LevelsOnly s s := ⟨rfl⟩

theorem LevelsOnly.trans {s t u : State} (h : LevelsOnly s t) (k : LevelsOnly t u) : LevelsOnly s u := by
  constructor
  rw [k.eq, h.eq]

theorem LevelsOnly.now {s t : State} (h : LevelsOnly s t) : t.now = s.now := by
  have e := congrArg State.now h.eq
  exact e
theorem LevelsOnly.lines {s t : State} (h : LevelsOnly s t) : t.lines = s.lines := by
  have e := congrArg State.lines h.eq
  exact e
theorem LevelsOnly.axes {s t : State} (h : LevelsOnly s t) : t.axes = s.axes := by
  have e := congrArg State.axes h.eq
  exact e
theorem LevelsOnly.slots {s t : State} (h : LevelsOnly s t) : t.slots = s.slots := by
  have e := congrArg State.slots h.eq
  exact e
theorem LevelsOnly.commits {s t : State} (h : LevelsOnly s t) : t.commits = s.commits := by
  have e := congrArg State.commits h.eq
  exact e
theorem LevelsOnly.compares {s t : State} (h : LevelsOnly s t) : t.compares = s.compares := by
  have e := congrArg State.compares h.eq
  exact e
theorem LevelsOnly.nextCompareId {s t : State} (h : LevelsOnly s t) : t.nextCompareId = s.nextCompareId := by
  have e := congrArg State.nextCompareId h.eq
  exact e
theorem LevelsOnly.gens {s t : State} (h : LevelsOnly s t) : t.gens = s.gens := by
  have e := congrArg State.gens h.eq
  exact e
theorem LevelsOnly.halt {s t : State} (h : LevelsOnly s t) : t.halt = s.halt := by
  have e := congrArg State.halt h.eq
  exact e
theorem LevelsOnly.handing {s t : State} (h : LevelsOnly s t) : t.handing = s.handing := by
  have e := congrArg State.handing h.eq
  exact e
theorem LevelsOnly.clearing {s t : State} (h : LevelsOnly s t) : t.clearing = s.clearing := by
  have e := congrArg State.clearing h.eq
  exact e
theorem LevelsOnly.claims {s t : State} (h : LevelsOnly s t) : t.claims = s.claims := by
  have e := congrArg State.claims h.eq
  exact e
theorem LevelsOnly.ports {s t : State} (h : LevelsOnly s t) : t.ports = s.ports := by
  have e := congrArg State.ports h.eq
  exact e
theorem LevelsOnly.vEvents {s t : State} (h : LevelsOnly s t) : t.vEvents = s.vEvents := by
  have e := congrArg State.vEvents h.eq
  exact e
theorem LevelsOnly.vTaking {s t : State} (h : LevelsOnly s t) : t.vTaking = s.vTaking := by
  have e := congrArg State.vTaking h.eq
  exact e
theorem LevelsOnly.choices {s t : State} (h : LevelsOnly s t) : t.choices = s.choices := by
  have e := congrArg State.choices h.eq
  exact e
theorem LevelsOnly.pending {s t : State} (h : LevelsOnly s t) : t.pending = s.pending := by
  have e := congrArg State.pending h.eq
  exact e

/-- Two states that differ at most in the window slots, the cam levels and the channels. -/
structure CamOnly (s t : State) : Prop where
  eq : t = { s with slots := t.slots, camLevels := t.camLevels, channels := t.channels }

theorem CamOnly.refl (s : State) : CamOnly s s := ⟨rfl⟩

theorem CamOnly.trans {s t u : State} (h : CamOnly s t) (k : CamOnly t u) : CamOnly s u := by
  constructor
  rw [k.eq, h.eq]

theorem CamOnly.now {s t : State} (h : CamOnly s t) : t.now = s.now := by
  have e := congrArg State.now h.eq
  exact e
theorem CamOnly.lines {s t : State} (h : CamOnly s t) : t.lines = s.lines := by
  have e := congrArg State.lines h.eq
  exact e
theorem CamOnly.axes {s t : State} (h : CamOnly s t) : t.axes = s.axes := by
  have e := congrArg State.axes h.eq
  exact e
theorem CamOnly.commits {s t : State} (h : CamOnly s t) : t.commits = s.commits := by
  have e := congrArg State.commits h.eq
  exact e
theorem CamOnly.compares {s t : State} (h : CamOnly s t) : t.compares = s.compares := by
  have e := congrArg State.compares h.eq
  exact e
theorem CamOnly.nextCompareId {s t : State} (h : CamOnly s t) : t.nextCompareId = s.nextCompareId := by
  have e := congrArg State.nextCompareId h.eq
  exact e
theorem CamOnly.gens {s t : State} (h : CamOnly s t) : t.gens = s.gens := by
  have e := congrArg State.gens h.eq
  exact e
theorem CamOnly.halt {s t : State} (h : CamOnly s t) : t.halt = s.halt := by
  have e := congrArg State.halt h.eq
  exact e
theorem CamOnly.handing {s t : State} (h : CamOnly s t) : t.handing = s.handing := by
  have e := congrArg State.handing h.eq
  exact e
theorem CamOnly.clearing {s t : State} (h : CamOnly s t) : t.clearing = s.clearing := by
  have e := congrArg State.clearing h.eq
  exact e
theorem CamOnly.claims {s t : State} (h : CamOnly s t) : t.claims = s.claims := by
  have e := congrArg State.claims h.eq
  exact e
theorem CamOnly.ports {s t : State} (h : CamOnly s t) : t.ports = s.ports := by
  have e := congrArg State.ports h.eq
  exact e
theorem CamOnly.vEvents {s t : State} (h : CamOnly s t) : t.vEvents = s.vEvents := by
  have e := congrArg State.vEvents h.eq
  exact e
theorem CamOnly.vTaking {s t : State} (h : CamOnly s t) : t.vTaking = s.vTaking := by
  have e := congrArg State.vTaking h.eq
  exact e
theorem CamOnly.choices {s t : State} (h : CamOnly s t) : t.choices = s.choices := by
  have e := congrArg State.choices h.eq
  exact e
theorem CamOnly.pending {s t : State} (h : CamOnly s t) : t.pending = s.pending := by
  have e := congrArg State.pending h.eq
  exact e

/-- Two states that differ at most in what a commit reaches: slots, cam levels, commits, channels and ports. -/
structure CommitOnly (s t : State) : Prop where
  eq :
    t =
      { s with
        slots := t.slots, camLevels := t.camLevels, commits := t.commits, channels := t.channels, ports := t.ports,
         }

theorem CommitOnly.refl (s : State) : CommitOnly s s := ⟨rfl⟩

theorem CommitOnly.trans {s t u : State} (h : CommitOnly s t) (k : CommitOnly t u) : CommitOnly s u := by
  constructor
  rw [k.eq, h.eq]

theorem CommitOnly.now {s t : State} (h : CommitOnly s t) : t.now = s.now := by
  have e := congrArg State.now h.eq
  exact e
theorem CommitOnly.lines {s t : State} (h : CommitOnly s t) : t.lines = s.lines := by
  have e := congrArg State.lines h.eq
  exact e
theorem CommitOnly.axes {s t : State} (h : CommitOnly s t) : t.axes = s.axes := by
  have e := congrArg State.axes h.eq
  exact e
theorem CommitOnly.compares {s t : State} (h : CommitOnly s t) : t.compares = s.compares := by
  have e := congrArg State.compares h.eq
  exact e
theorem CommitOnly.nextCompareId {s t : State} (h : CommitOnly s t) : t.nextCompareId = s.nextCompareId := by
  have e := congrArg State.nextCompareId h.eq
  exact e
theorem CommitOnly.gens {s t : State} (h : CommitOnly s t) : t.gens = s.gens := by
  have e := congrArg State.gens h.eq
  exact e
theorem CommitOnly.halt {s t : State} (h : CommitOnly s t) : t.halt = s.halt := by
  have e := congrArg State.halt h.eq
  exact e
theorem CommitOnly.handing {s t : State} (h : CommitOnly s t) : t.handing = s.handing := by
  have e := congrArg State.handing h.eq
  exact e
theorem CommitOnly.clearing {s t : State} (h : CommitOnly s t) : t.clearing = s.clearing := by
  have e := congrArg State.clearing h.eq
  exact e
theorem CommitOnly.claims {s t : State} (h : CommitOnly s t) : t.claims = s.claims := by
  have e := congrArg State.claims h.eq
  exact e
theorem CommitOnly.vEvents {s t : State} (h : CommitOnly s t) : t.vEvents = s.vEvents := by
  have e := congrArg State.vEvents h.eq
  exact e
theorem CommitOnly.vTaking {s t : State} (h : CommitOnly s t) : t.vTaking = s.vTaking := by
  have e := congrArg State.vTaking h.eq
  exact e
theorem CommitOnly.choices {s t : State} (h : CommitOnly s t) : t.choices = s.choices := by
  have e := congrArg State.choices h.eq
  exact e
theorem CommitOnly.pending {s t : State} (h : CommitOnly s t) : t.pending = s.pending := by
  have e := congrArg State.pending h.eq
  exact e

/-- Two states that differ at most in the claim table and the ports. -/
structure ClaimsOnly (s t : State) : Prop where
  eq : t = { s with claims := t.claims, ports := t.ports }

theorem ClaimsOnly.refl (s : State) : ClaimsOnly s s := ⟨rfl⟩

theorem ClaimsOnly.trans {s t u : State} (h : ClaimsOnly s t) (k : ClaimsOnly t u) : ClaimsOnly s u := by
  constructor
  rw [k.eq, h.eq]

theorem ClaimsOnly.now {s t : State} (h : ClaimsOnly s t) : t.now = s.now := by
  have e := congrArg State.now h.eq
  exact e
theorem ClaimsOnly.lines {s t : State} (h : ClaimsOnly s t) : t.lines = s.lines := by
  have e := congrArg State.lines h.eq
  exact e
theorem ClaimsOnly.axes {s t : State} (h : ClaimsOnly s t) : t.axes = s.axes := by
  have e := congrArg State.axes h.eq
  exact e
theorem ClaimsOnly.slots {s t : State} (h : ClaimsOnly s t) : t.slots = s.slots := by
  have e := congrArg State.slots h.eq
  exact e
theorem ClaimsOnly.camLevels {s t : State} (h : ClaimsOnly s t) : t.camLevels = s.camLevels := by
  have e := congrArg State.camLevels h.eq
  exact e
theorem ClaimsOnly.commits {s t : State} (h : ClaimsOnly s t) : t.commits = s.commits := by
  have e := congrArg State.commits h.eq
  exact e
theorem ClaimsOnly.compares {s t : State} (h : ClaimsOnly s t) : t.compares = s.compares := by
  have e := congrArg State.compares h.eq
  exact e
theorem ClaimsOnly.nextCompareId {s t : State} (h : ClaimsOnly s t) : t.nextCompareId = s.nextCompareId := by
  have e := congrArg State.nextCompareId h.eq
  exact e
theorem ClaimsOnly.channels {s t : State} (h : ClaimsOnly s t) : t.channels = s.channels := by
  have e := congrArg State.channels h.eq
  exact e
theorem ClaimsOnly.gens {s t : State} (h : ClaimsOnly s t) : t.gens = s.gens := by
  have e := congrArg State.gens h.eq
  exact e
theorem ClaimsOnly.halt {s t : State} (h : ClaimsOnly s t) : t.halt = s.halt := by
  have e := congrArg State.halt h.eq
  exact e
theorem ClaimsOnly.handing {s t : State} (h : ClaimsOnly s t) : t.handing = s.handing := by
  have e := congrArg State.handing h.eq
  exact e
theorem ClaimsOnly.clearing {s t : State} (h : ClaimsOnly s t) : t.clearing = s.clearing := by
  have e := congrArg State.clearing h.eq
  exact e
theorem ClaimsOnly.vEvents {s t : State} (h : ClaimsOnly s t) : t.vEvents = s.vEvents := by
  have e := congrArg State.vEvents h.eq
  exact e
theorem ClaimsOnly.vTaking {s t : State} (h : ClaimsOnly s t) : t.vTaking = s.vTaking := by
  have e := congrArg State.vTaking h.eq
  exact e
theorem ClaimsOnly.choices {s t : State} (h : ClaimsOnly s t) : t.choices = s.choices := by
  have e := congrArg State.choices h.eq
  exact e
theorem ClaimsOnly.pending {s t : State} (h : ClaimsOnly s t) : t.pending = s.pending := by
  have e := congrArg State.pending h.eq
  exact e

/-- Two states that differ at most in what a generator reaches: generators, claims, ports and the events handed to axis V. -/
structure MoveOnly (s t : State) : Prop where
  eq : t = { s with gens := t.gens, claims := t.claims, ports := t.ports, vEvents := t.vEvents }

theorem MoveOnly.refl (s : State) : MoveOnly s s := ⟨rfl⟩

theorem MoveOnly.trans {s t u : State} (h : MoveOnly s t) (k : MoveOnly t u) : MoveOnly s u := by
  constructor
  rw [k.eq, h.eq]

theorem MoveOnly.now {s t : State} (h : MoveOnly s t) : t.now = s.now := by
  have e := congrArg State.now h.eq
  exact e
theorem MoveOnly.lines {s t : State} (h : MoveOnly s t) : t.lines = s.lines := by
  have e := congrArg State.lines h.eq
  exact e
theorem MoveOnly.axes {s t : State} (h : MoveOnly s t) : t.axes = s.axes := by
  have e := congrArg State.axes h.eq
  exact e
theorem MoveOnly.slots {s t : State} (h : MoveOnly s t) : t.slots = s.slots := by
  have e := congrArg State.slots h.eq
  exact e
theorem MoveOnly.camLevels {s t : State} (h : MoveOnly s t) : t.camLevels = s.camLevels := by
  have e := congrArg State.camLevels h.eq
  exact e
theorem MoveOnly.commits {s t : State} (h : MoveOnly s t) : t.commits = s.commits := by
  have e := congrArg State.commits h.eq
  exact e
theorem MoveOnly.compares {s t : State} (h : MoveOnly s t) : t.compares = s.compares := by
  have e := congrArg State.compares h.eq
  exact e
theorem MoveOnly.nextCompareId {s t : State} (h : MoveOnly s t) : t.nextCompareId = s.nextCompareId := by
  have e := congrArg State.nextCompareId h.eq
  exact e
theorem MoveOnly.channels {s t : State} (h : MoveOnly s t) : t.channels = s.channels := by
  have e := congrArg State.channels h.eq
  exact e
theorem MoveOnly.halt {s t : State} (h : MoveOnly s t) : t.halt = s.halt := by
  have e := congrArg State.halt h.eq
  exact e
theorem MoveOnly.handing {s t : State} (h : MoveOnly s t) : t.handing = s.handing := by
  have e := congrArg State.handing h.eq
  exact e
theorem MoveOnly.clearing {s t : State} (h : MoveOnly s t) : t.clearing = s.clearing := by
  have e := congrArg State.clearing h.eq
  exact e
theorem MoveOnly.vTaking {s t : State} (h : MoveOnly s t) : t.vTaking = s.vTaking := by
  have e := congrArg State.vTaking h.eq
  exact e
theorem MoveOnly.choices {s t : State} (h : MoveOnly s t) : t.choices = s.choices := by
  have e := congrArg State.choices h.eq
  exact e
theorem MoveOnly.pending {s t : State} (h : MoveOnly s t) : t.pending = s.pending := by
  have e := congrArg State.pending h.eq
  exact e

/-- Two states that differ at most in the axes and the ports. -/
structure CaptureOnly (s t : State) : Prop where
  eq : t = { s with axes := t.axes, ports := t.ports }

theorem CaptureOnly.refl (s : State) : CaptureOnly s s := ⟨rfl⟩

theorem CaptureOnly.trans {s t u : State} (h : CaptureOnly s t) (k : CaptureOnly t u) : CaptureOnly s u := by
  constructor
  rw [k.eq, h.eq]

theorem CaptureOnly.now {s t : State} (h : CaptureOnly s t) : t.now = s.now := by
  have e := congrArg State.now h.eq
  exact e
theorem CaptureOnly.lines {s t : State} (h : CaptureOnly s t) : t.lines = s.lines := by
  have e := congrArg State.lines h.eq
  exact e
theorem CaptureOnly.slots {s t : State} (h : CaptureOnly s t) : t.slots = s.slots := by
  have e := congrArg State.slots h.eq
  exact e
theorem CaptureOnly.camLevels {s t : State} (h : CaptureOnly s t) : t.camLevels = s.camLevels := by
  have e := congrArg State.camLevels h.eq
  exact e
theorem CaptureOnly.commits {s t : State} (h : CaptureOnly s t) : t.commits = s.commits := by
  have e := congrArg State.commits h.eq
  exact e
theorem CaptureOnly.compares {s t : State} (h : CaptureOnly s t) : t.compares = s.compares := by
  have e := congrArg State.compares h.eq
  exact e
theorem CaptureOnly.nextCompareId {s t : State} (h : CaptureOnly s t) : t.nextCompareId = s.nextCompareId := by
  have e := congrArg State.nextCompareId h.eq
  exact e
theorem CaptureOnly.channels {s t : State} (h : CaptureOnly s t) : t.channels = s.channels := by
  have e := congrArg State.channels h.eq
  exact e
theorem CaptureOnly.gens {s t : State} (h : CaptureOnly s t) : t.gens = s.gens := by
  have e := congrArg State.gens h.eq
  exact e
theorem CaptureOnly.halt {s t : State} (h : CaptureOnly s t) : t.halt = s.halt := by
  have e := congrArg State.halt h.eq
  exact e
theorem CaptureOnly.handing {s t : State} (h : CaptureOnly s t) : t.handing = s.handing := by
  have e := congrArg State.handing h.eq
  exact e
theorem CaptureOnly.clearing {s t : State} (h : CaptureOnly s t) : t.clearing = s.clearing := by
  have e := congrArg State.clearing h.eq
  exact e
theorem CaptureOnly.claims {s t : State} (h : CaptureOnly s t) : t.claims = s.claims := by
  have e := congrArg State.claims h.eq
  exact e
theorem CaptureOnly.vEvents {s t : State} (h : CaptureOnly s t) : t.vEvents = s.vEvents := by
  have e := congrArg State.vEvents h.eq
  exact e
theorem CaptureOnly.vTaking {s t : State} (h : CaptureOnly s t) : t.vTaking = s.vTaking := by
  have e := congrArg State.vTaking h.eq
  exact e
theorem CaptureOnly.choices {s t : State} (h : CaptureOnly s t) : t.choices = s.choices := by
  have e := congrArg State.choices h.eq
  exact e
theorem CaptureOnly.pending {s t : State} (h : CaptureOnly s t) : t.pending = s.pending := by
  have e := congrArg State.pending h.eq
  exact e

/-- Two states that differ at most in what a count event reaches. -/
structure CountOnly (s t : State) : Prop where
  eq :
    t =
      { s with
        axes := t.axes, slots := t.slots, camLevels := t.camLevels, commits := t.commits, compares := t.compares, channels := t.channels,
        gens := t.gens, claims := t.claims, ports := t.ports, vEvents := t.vEvents, vTaking := t.vTaking, choices := t.choices }

theorem CountOnly.refl (s : State) : CountOnly s s := ⟨rfl⟩

theorem CountOnly.trans {s t u : State} (h : CountOnly s t) (k : CountOnly t u) : CountOnly s u := by
  constructor
  rw [k.eq, h.eq]

theorem CountOnly.now {s t : State} (h : CountOnly s t) : t.now = s.now := by
  have e := congrArg State.now h.eq
  exact e
theorem CountOnly.lines {s t : State} (h : CountOnly s t) : t.lines = s.lines := by
  have e := congrArg State.lines h.eq
  exact e
theorem CountOnly.nextCompareId {s t : State} (h : CountOnly s t) : t.nextCompareId = s.nextCompareId := by
  have e := congrArg State.nextCompareId h.eq
  exact e
theorem CountOnly.halt {s t : State} (h : CountOnly s t) : t.halt = s.halt := by
  have e := congrArg State.halt h.eq
  exact e
theorem CountOnly.handing {s t : State} (h : CountOnly s t) : t.handing = s.handing := by
  have e := congrArg State.handing h.eq
  exact e
theorem CountOnly.clearing {s t : State} (h : CountOnly s t) : t.clearing = s.clearing := by
  have e := congrArg State.clearing h.eq
  exact e
theorem CountOnly.pending {s t : State} (h : CountOnly s t) : t.pending = s.pending := by
  have e := congrArg State.pending h.eq
  exact e

/-- Two states that differ at most in what a session end reaches. -/
structure EndOnly (s t : State) : Prop where
  eq :
    t =
      { s with
        axes := t.axes, slots := t.slots, camLevels := t.camLevels, commits := t.commits, compares := t.compares, channels := t.channels,
        gens := t.gens, claims := t.claims, ports := t.ports, vEvents := t.vEvents }

theorem EndOnly.refl (s : State) : EndOnly s s := ⟨rfl⟩

theorem EndOnly.trans {s t u : State} (h : EndOnly s t) (k : EndOnly t u) : EndOnly s u := by
  constructor
  rw [k.eq, h.eq]

theorem EndOnly.now {s t : State} (h : EndOnly s t) : t.now = s.now := by
  have e := congrArg State.now h.eq
  exact e
theorem EndOnly.lines {s t : State} (h : EndOnly s t) : t.lines = s.lines := by
  have e := congrArg State.lines h.eq
  exact e
theorem EndOnly.nextCompareId {s t : State} (h : EndOnly s t) : t.nextCompareId = s.nextCompareId := by
  have e := congrArg State.nextCompareId h.eq
  exact e
theorem EndOnly.halt {s t : State} (h : EndOnly s t) : t.halt = s.halt := by
  have e := congrArg State.halt h.eq
  exact e
theorem EndOnly.handing {s t : State} (h : EndOnly s t) : t.handing = s.handing := by
  have e := congrArg State.handing h.eq
  exact e
theorem EndOnly.clearing {s t : State} (h : EndOnly s t) : t.clearing = s.clearing := by
  have e := congrArg State.clearing h.eq
  exact e
theorem EndOnly.vTaking {s t : State} (h : EndOnly s t) : t.vTaking = s.vTaking := by
  have e := congrArg State.vTaking h.eq
  exact e
theorem EndOnly.choices {s t : State} (h : EndOnly s t) : t.choices = s.choices := by
  have e := congrArg State.choices h.eq
  exact e
theorem EndOnly.pending {s t : State} (h : EndOnly s t) : t.pending = s.pending := by
  have e := congrArg State.pending h.eq
  exact e

theorem PortsOnly.toCommitOnly {s t : State} (h : PortsOnly s t) : CommitOnly s t := ⟨by rw [h.eq]⟩
theorem PortsOnly.toClaimsOnly {s t : State} (h : PortsOnly s t) : ClaimsOnly s t := ⟨by rw [h.eq]⟩
theorem PortsOnly.toMoveOnly {s t : State} (h : PortsOnly s t) : MoveOnly s t := ⟨by rw [h.eq]⟩
theorem PortsOnly.toCaptureOnly {s t : State} (h : PortsOnly s t) : CaptureOnly s t := ⟨by rw [h.eq]⟩
theorem PortsOnly.toCountOnly {s t : State} (h : PortsOnly s t) : CountOnly s t := ⟨by rw [h.eq]⟩
theorem PortsOnly.toEndOnly {s t : State} (h : PortsOnly s t) : EndOnly s t := ⟨by rw [h.eq]⟩
theorem LevelsOnly.toCamOnly {s t : State} (h : LevelsOnly s t) : CamOnly s t := ⟨by rw [h.eq]⟩
theorem LevelsOnly.toCommitOnly {s t : State} (h : LevelsOnly s t) : CommitOnly s t := ⟨by rw [h.eq]⟩
theorem LevelsOnly.toCountOnly {s t : State} (h : LevelsOnly s t) : CountOnly s t := ⟨by rw [h.eq]⟩
theorem LevelsOnly.toEndOnly {s t : State} (h : LevelsOnly s t) : EndOnly s t := ⟨by rw [h.eq]⟩
theorem CamOnly.toCommitOnly {s t : State} (h : CamOnly s t) : CommitOnly s t := ⟨by rw [h.eq]⟩
theorem CamOnly.toCountOnly {s t : State} (h : CamOnly s t) : CountOnly s t := ⟨by rw [h.eq]⟩
theorem CamOnly.toEndOnly {s t : State} (h : CamOnly s t) : EndOnly s t := ⟨by rw [h.eq]⟩
theorem CommitOnly.toCountOnly {s t : State} (h : CommitOnly s t) : CountOnly s t := ⟨by rw [h.eq]⟩
theorem CommitOnly.toEndOnly {s t : State} (h : CommitOnly s t) : EndOnly s t := ⟨by rw [h.eq]⟩
theorem ClaimsOnly.toMoveOnly {s t : State} (h : ClaimsOnly s t) : MoveOnly s t := ⟨by rw [h.eq]⟩
theorem ClaimsOnly.toCountOnly {s t : State} (h : ClaimsOnly s t) : CountOnly s t := ⟨by rw [h.eq]⟩
theorem ClaimsOnly.toEndOnly {s t : State} (h : ClaimsOnly s t) : EndOnly s t := ⟨by rw [h.eq]⟩
theorem MoveOnly.toCountOnly {s t : State} (h : MoveOnly s t) : CountOnly s t := ⟨by rw [h.eq]⟩
theorem MoveOnly.toEndOnly {s t : State} (h : MoveOnly s t) : EndOnly s t := ⟨by rw [h.eq]⟩
theorem CaptureOnly.toCountOnly {s t : State} (h : CaptureOnly s t) : CountOnly s t := ⟨by rw [h.eq]⟩
theorem CaptureOnly.toEndOnly {s t : State} (h : CaptureOnly s t) : EndOnly s t := ⟨by rw [h.eq]⟩
theorem EndOnly.toCountOnly {s t : State} (h : EndOnly s t) : CountOnly s t := ⟨by rw [h.eq]⟩

end Sys2Proof.Machine
end

