-- ==== Sys2Proof/Laws/Ops.lean ====
section
/-! SUPPORT. One lemma for each shared operation: what it can reach, and what it does where that is short to say. -/

namespace Sys2Proof.Machine

variable (s : State)

/-! ### Notices and the transmitter -/

theorem State.modPort_reach (p : PortId) (f : Port → Port) : PortsOnly s (s.modPort p f) := ⟨rfl⟩

theorem State.modSession_reach (p : PortId) (f : Session → Session) : PortsOnly s (s.modSession p f) := ⟨rfl⟩

theorem State.offer_reach (p : PortId) : PortsOnly s (s.offer p) := ⟨rfl⟩

theorem State.post_reach (p : PortId) (k : NoticeKind) : PortsOnly s (s.post p k) := by
  unfold State.post
  split
  · exact (State.modPort_reach s p _).trans (State.offer_reach _ p)
  · exact .refl s

theorem State.postHolder_reach (r : Resource) (k : NoticeKind) : PortsOnly s (s.postHolder r k) := by
  unfold State.postHolder
  split
  · exact State.post_reach s _ k
  · exact .refl s

theorem State.broadcast_reach (wants : Subscriptions → Bool) (k : NoticeKind) : PortsOnly s (s.broadcast wants k) := by
  have one (t : State) (p : PortId) :
      PortsOnly t (if (t.session p).isOpen && wants (t.session p).subs then t.post p k else t) := by
    split
    · exact State.post_reach t p k
    · exact .refl t
  exact ((one s .p1).trans (one _ .p2)).trans (one _ .p3)

theorem State.respond_reach (p : PortId) (r : Response) : PortsOnly s (s.respond p r) := ⟨rfl⟩

theorem State.startNext_reach (p : PortId) : PortsOnly s (s.startNext p) := by
  unfold State.startNext
  split
  · exact State.modPort_reach s p _
  · exact State.offer_reach s p

/-- An offer changes nothing of a port but its notice queue and its transmitter. -/
theorem Port.offer_keeps (q : Port) (now : Word) :
    q.offer now = { q with notices := (q.offer now).notices, tx := (q.offer now).tx } := by
  unfold Port.offer
  split
  · split <;> rfl
  · rfl

/-- A posting leaves every session record as it is. -/
@[simp] theorem State.post_session (p q : PortId) (k : NoticeKind) : (s.post p k).session q = s.session q := by
  unfold State.post
  split
  · unfold State.session State.offer
    rw [State.modPort_port]
    split
    · subst q
      rw [Port.offer_keeps, State.modPort_port_same]
    · rename_i h
      rw [State.modPort_port_other s p q _ h]
  · rfl

@[simp] theorem State.postHolder_session (r : Resource) (q : PortId) (k : NoticeKind) :
    (s.postHolder r k).session q = s.session q := by
  unfold State.postHolder
  split
  · simp
  · rfl

@[simp] theorem State.broadcast_session (wants : Subscriptions → Bool) (q : PortId) (k : NoticeKind) :
    (s.broadcast wants k).session q = s.session q := by
  have one (t : State) (p : PortId) :
      (if (t.session p).isOpen && wants (t.session p).subs then t.post p k else t).session q = t.session q := by
    split
    · simp
    · rfl
  unfold State.broadcast allPorts
  simp only [List.foldl]
  rw [one, one, one]

/-- A posting to a session that does not exist is discarded (R164). -/
theorem State.post_closed (p : PortId) (k : NoticeKind) (h : (s.session p).isOpen = false) : s.post p k = s := by
  simp [State.post, h]

/-! ### Channels and the cam engine -/

theorem State.arrive_reach (o : OutputId) (f : Channel → Channel) : LevelsOnly s (s.arrive o f) := ⟨rfl⟩

theorem State.recompose_reach (o : OutputId) : LevelsOnly s (s.recompose o) := by
  unfold State.recompose
  split
  · exact .refl s
  · exact ⟨rfl⟩

theorem State.recomposeAll_reach (os : List OutputId) : LevelsOnly s (s.recomposeAll os) := by
  unfold State.recomposeAll
  induction os generalizing s with
  | nil => exact .refl s
  | cons o os ih => exact (State.recompose_reach s o).trans (ih _)

theorem State.evaluateSlots_reach (x : AxisId) (pick : Slot → Bool) : CamOnly s (s.evaluateSlots x pick) := ⟨rfl⟩

theorem State.evaluateAxis_reach (x : AxisId) : CamOnly s (s.evaluateAxis x) :=
  (State.evaluateSlots_reach s x _).trans (State.recomposeAll_reach _ _).toCamOnly

theorem State.applyCommit_reach (p : PortId) (x : AxisId) (timing : CommitTiming) :
    CommitOnly s (s.applyCommit p x timing) := by
  unfold State.applyCommit
  refine CommitOnly.trans ?_ (State.post_reach _ p _).toCommitOnly
  refine CommitOnly.trans ?_ (State.recomposeAll_reach _ _).toCommitOnly
  exact ⟨rfl⟩

theorem State.setCommit_reach (p : PortId) (x : AxisId) (b : Bool) : CommitOnly s (s.setCommit p x b) := ⟨rfl⟩

theorem State.applyPending_reach (x : AxisId) : CommitOnly s (s.applyPending x) := by
  have one (t : State) (p : PortId) :
      CommitOnly t (if t.hasCommit p x then (t.applyCommit p x .atRollover).setCommit p x false else t) := by
    split
    · exact (State.applyCommit_reach t p x _).trans (State.setCommit_reach _ p x _)
    · exact .refl t
  exact ((one s .p1).trans (one _ .p2)).trans (one _ .p3)

theorem State.camEvent_reach (x : AxisId) (rollover : Bool) : CommitOnly s (s.camEvent x rollover) := by
  unfold State.camEvent
  refine CommitOnly.trans ?_ (State.evaluateAxis_reach _ x).toCommitOnly
  split
  · exact State.applyPending_reach s x
  · exact .refl s

theorem State.eraseWindows_reach (o : OutputId) : CamOnly s (s.eraseWindows o) :=
  CamOnly.trans ⟨rfl⟩ (State.recompose_reach _ o).toCamOnly

/-! ### Claims -/

theorem State.handOver_reach (r : Resource) (station : Nat) (cause : ClaimCause) :
    ClaimsOnly s (s.handOver r station cause) := by
  unfold State.handOver
  split
  · exact ClaimsOnly.trans ⟨rfl⟩ (State.post_reach _ _ _).toClaimsOnly
  · exact ClaimsOnly.trans ⟨rfl⟩ (State.broadcast_reach _ _ _).toClaimsOnly

theorem State.cleanup_reach (r : Resource) : EndOnly s (s.cleanup r) := by
  cases r with
  | output o =>
    exact EndOnly.trans (State.eraseWindows_reach s o).toEndOnly (State.arrive_reach _ o _).toEndOnly
  | generator g => exact ⟨rfl⟩
  | axis x => exact ⟨rfl⟩

theorem State.reportIdle_reach (g : GenId) : MoveOnly s (s.reportIdle g) := by
  unfold State.reportIdle
  split
  · refine MoveOnly.trans ?_ (State.handOver_reach _ _ _ _).toMoveOnly
    exact ⟨rfl⟩
  · exact .refl s
  · exact .refl s

/-! ### Generators -/

theorem State.modGen_reach (g : GenId) (f : Generator → Generator) : MoveOnly s (s.modGen g f) := ⟨rfl⟩

theorem State.postGen_reach (g : GenId) (k : NoticeKind) : MoveOnly s (s.postGen g k) :=
  (State.postHolder_reach s _ k).toMoveOnly

theorem State.flush_reach (g : GenId) : MoveOnly s (s.flush g) := by
  unfold State.flush
  dsimp only
  split
  · exact State.modGen_reach s g _
  · exact (State.modGen_reach s g _).trans (State.postGen_reach _ g _)

theorem State.flushAll_reach (g : GenId) : MoveOnly s (s.flushAll g) :=
  (State.flush_reach s g).trans (State.modGen_reach _ g _)

theorem State.closeMove_reach (g : GenId) (cause : EndCause) : MoveOnly s (s.closeMove g cause) := by
  unfold State.closeMove
  split
  · exact .refl s
  · exact (State.modGen_reach s g _).trans (State.postGen_reach _ g _)

theorem State.settle_reach (g : GenId) : MoveOnly s (s.settle g) := by
  unfold State.settle
  split
  · exact State.modGen_reach s g _
  · exact (State.modGen_reach s g _).trans (State.reportIdle_reach _ g)

theorem State.closeStopped_reach (g : GenId) : MoveOnly s (s.closeStopped g) := by
  unfold State.closeStopped
  split
  · exact .refl s
  · exact State.closeMove_reach s g _

theorem State.brake_reach (g : GenId) (rate : StopRate) : MoveOnly s (s.brake g rate).1 := by
  unfold State.brake
  dsimp only
  split
  · exact (State.modGen_reach s g _).trans (State.closeStopped_reach _ g)
  · dsimp only
    exact State.modGen_reach s g _

theorem State.issueStep_reach (g : GenId) : MoveOnly s (s.issueStep g).1 := by
  unfold State.issueStep
  split
  · exact .refl s
  · dsimp only
    split
    · dsimp only
      split
      · exact ⟨rfl⟩
      · exact State.modGen_reach s g _
    · exact .refl s

theorem State.failSearch_reach (g : GenId) (k : NotFound) : MoveOnly s (s.failSearch g k).1 :=
  ((State.modGen_reach s g _).trans (State.flushAll_reach _ g)).trans (State.brake_reach _ g _)

theorem State.afterStep_reach (g : GenId) (e : StepEnd) : MoveOnly s (s.afterStep g e).1 := by
  unfold State.afterStep
  split
  · exact .refl s
  · split
    · exact State.closeStopped_reach s g
    · exact State.closeMove_reach s g _
  · exact (State.flushAll_reach s g).trans (State.closeMove_reach _ g _)
  · exact State.failSearch_reach s g _

theorem State.firstStep_reach (g : GenId) : MoveOnly s (s.firstStep g).1 := by
  unfold State.firstStep
  split
  · dsimp only
    exact State.modGen_reach s g _
  · exact (State.issueStep_reach s g).trans (State.afterStep_reach _ g _)

theorem State.startMove_reach (g : GenId) (r : MoveRecord) (b : Bool) : MoveOnly s (s.startMove g r b).1 := by
  have pre (f : Generator → Generator) (k : NoticeKind) : MoveOnly s ((s.modGen g f).postGen g k) :=
    (State.modGen_reach s g f).trans (State.postGen_reach _ g k)
  unfold State.startMove
  dsimp only
  split
  · split
    · exact (pre _ _).trans (State.closeMove_reach _ g _)
    · exact (pre _ _).trans (State.firstStep_reach _ g)
  · exact (pre _ _).trans (State.firstStep_reach _ g)
  · split
    · exact pre _ _
    · exact (pre _ _).trans (State.closeMove_reach _ g _)
  · exact pre _ _
  · exact (pre _ _).trans (State.firstStep_reach _ g)

theorem State.consumeTrigger_reach (g : GenId) (r : MoveRecord) : MoveOnly s (s.consumeTrigger g r) := by
  unfold State.consumeTrigger
  split
  · exact State.modGen_reach s g _
  · exact .refl s

theorem State.takeQueue_reach (g : GenId) (n : Nat) : MoveOnly s (State.takeQueue g n s) := by
  induction n generalizing s with
  | zero => exact State.settle_reach s g
  | succ n ih =>
    unfold State.takeQueue
    split
    · exact State.settle_reach s g
    · dsimp only
      split
      · exact (State.modGen_reach s g _).trans (State.modGen_reach _ g _)
      · split
        · exact (((State.modGen_reach s g _).trans (State.consumeTrigger_reach _ g _)).trans
            (State.startMove_reach _ g _ _)).trans (ih _)
        · exact ((State.modGen_reach s g _).trans (State.consumeTrigger_reach _ g _)).trans
            (State.startMove_reach _ g _ _)

theorem State.nextMove_reach (g : GenId) : MoveOnly s (s.nextMove g) := State.takeQueue_reach s g _

theorem State.endMove_reach (g : GenId) (cause : EndCause) : MoveOnly s (s.endMove g cause) :=
  (State.closeMove_reach s g cause).trans (State.nextMove_reach _ g)

theorem State.thenNext_reach (r : State × Bool) (g : GenId) : MoveOnly r.1 (State.thenNext r g) := by
  unfold State.thenNext
  split
  · exact State.nextMove_reach _ g
  · exact .refl _

theorem State.trigger_reach (g : GenId) (source : TriggerSource) : MoveOnly s (s.trigger g source) := by
  have lost := State.postGen_reach s g (.triggerLost g source (s.gen g).state)
  have held :
      MoveOnly s
        (if (s.gen g).pendingTrigger then s.postGen g (.triggerLost g source (s.gen g).state)
        else s.modGen g fun n => { n with pendingTrigger := true }) := by
    split
    · exact lost
    · exact State.modGen_reach s g _
  unfold State.trigger
  dsimp only
  split <;> first | exact held | exact lost | skip
  split
  · exact (State.startMove_reach s g _ true).trans (State.thenNext_reach _ g)
  · exact .refl s

theorem State.rampStop_reach (g : GenId) : MoveOnly s (s.rampStop g) := by
  have ended := (State.flushAll_reach s g).trans (State.endMove_reach (s.flushAll g) g .stopped)
  have slow :=
    ((State.flushAll_reach s g).trans (State.brake_reach (s.flushAll g) g .stop)).trans (State.thenNext_reach _ g)
  unfold State.rampStop
  split <;> first | exact .refl s | exact ended | exact slow

theorem State.haltEntry_reach (g : GenId) : MoveOnly s (s.haltEntry g) := by
  have pre : MoveOnly s ((s.modGen g fun n => { n with halt := true }).flushAll g) :=
    (State.modGen_reach s g _).trans (State.flushAll_reach _ g)
  unfold State.haltEntry
  dsimp only
  split
  · exact pre.trans (State.modGen_reach _ g _)
  · exact pre.trans (State.endMove_reach _ g _)
  · exact pre.trans (State.endMove_reach _ g _)
  · exact pre.trans (State.endMove_reach _ g _)
  · exact pre.trans ((State.brake_reach _ g _).trans (State.thenNext_reach _ g))
  · exact pre.trans ((State.brake_reach _ g _).trans (State.thenNext_reach _ g))
  · exact pre.trans (State.modGen_reach _ g _)
  · exact pre

theorem State.haltClear_reach (g : GenId) : MoveOnly s (s.haltClear g) := by
  unfold State.haltClear
  dsimp only
  split
  · exact (State.modGen_reach s g _).trans ((State.modGen_reach _ g _).trans (State.reportIdle_reach _ g))
  · exact State.modGen_reach s g _

theorem State.takeStep_reach (g : GenId) : MoveOnly s (s.takeStep g) :=
  ((State.issueStep_reach s g).trans (State.afterStep_reach _ g _)).trans (State.thenNext_reach _ g)

theorem State.rampTick_reach (g : GenId) : MoveOnly s (s.rampTick g) := by
  have pre : MoveOnly s (s.modGen g fun n => { n with rampLeft := some 1 }) := State.modGen_reach s g _
  unfold State.rampTick
  dsimp only
  generalize s.modGen g (fun n => { n with rampLeft := some 1 }) = t at pre ⊢
  split <;> try exact .refl s
  · split
    · exact pre
    · split
      · exact pre.trans (State.modGen_reach _ g _)
      · exact pre.trans (State.endMove_reach _ g _)
  · exact pre.trans (State.modGen_reach _ g _)
  · split
    · exact pre.trans ((State.closeStopped_reach _ g).trans (State.nextMove_reach _ g))
    · split
      · exact pre.trans ((State.modGen_reach _ g _).trans
          ((State.closeStopped_reach _ g).trans (State.nextMove_reach _ g)))
      · exact pre.trans (State.modGen_reach _ g _)

theorem State.followEvent_reach (x : AxisId) (d : AxisDir) (g : GenId) : MoveOnly s (s.followEvent x d g) := by
  unfold State.followEvent
  dsimp only
  split
  · split
    · split
      · split
        · exact State.modGen_reach s g _
        · exact (State.flush_reach s g).trans (State.endMove_reach _ g _)
      all_goals exact .refl s
    · exact .refl s
  · exact .refl s

theorem State.searchDone_reach (g : GenId) (f : HomeFields) : MoveOnly s (s.searchDone g f) :=
  (State.modGen_reach s g _).trans (State.endMove_reach _ g _)

theorem State.refEdgeAt_reach (line : RefLine) (rising : Bool) (g : GenId) : MoveOnly s (s.refEdgeAt line rising g) := by
  unfold State.refEdgeAt
  split
  · exact .refl s
  · split
    · split
      · exact State.modGen_reach s g _
      · split
        · exact .refl s
        · exact State.modGen_reach s g _
      · split
        · exact (State.failSearch_reach s g _).trans (State.thenNext_reach _ g)
        · exact .refl s
      · split
        · exact State.searchDone_reach s g _
        · exact .refl s
      all_goals exact .refl s
    · exact .refl s

theorem State.markerEdgeAt_reach (e : Encoder) (g : GenId) : MoveOnly s (s.markerEdgeAt e g) := by
  unfold State.markerEdgeAt
  split
  · exact .refl s
  · split
    · dsimp only
      split
      · exact (State.modGen_reach s g _).trans (State.searchDone_reach _ g _)
      · exact State.modGen_reach s g _
    · exact .refl s

theorem State.append_reach (g : GenId) (r : MoveRecord) : MoveOnly s (s.append g r) := by
  unfold State.append
  dsimp only
  split
  · exact (State.modGen_reach s g _).trans (State.nextMove_reach _ g)
  · split
    · exact State.modGen_reach s g _
    · split
      · split
        · exact (State.modGen_reach s g _).trans (State.modGen_reach _ g _)
        · exact State.modGen_reach s g _
      · exact (State.modGen_reach s g _).trans (State.endMove_reach _ g _)
      all_goals exact State.modGen_reach s g _

/-! ### Captures and firing -/

theorem State.logCapture_reach (x : AxisId) (source : CaptureSource) (position : Int) :
    CaptureOnly s (s.logCapture x source position).1 := by
  unfold State.logCapture
  dsimp only
  split
  · exact ⟨rfl⟩
  · dsimp only
    split
    · exact ⟨rfl⟩
    · exact CaptureOnly.trans ⟨rfl⟩ (State.postHolder_reach _ _ _).toCaptureOnly

theorem State.captureEdge_reach (x : AxisId) (source : CaptureSource) (rising : Bool) :
    CaptureOnly s (s.captureEdge x source rising) := by
  unfold State.captureEdge
  split
  · exact .refl s
  · have pre := State.logCapture_reach s x source (s.axis x).extended
    generalize s.logCapture x source (s.axis x).extended = r at pre ⊢
    obtain ⟨t, logged⟩ := r
    cases logged
    · exact pre
    · simp only [if_true]
      split
      · exact pre.trans (CaptureOnly.trans ⟨rfl⟩ (State.postHolder_reach _ _ _).toCaptureOnly)
      · exact pre.trans ⟨rfl⟩

theorem State.outAction_reach (p : PortId) (o : OutputId) (f : Channel → Channel) :
    LevelsOnly s (s.outAction p o f).1 := by
  unfold State.outAction
  split
  · exact State.arrive_reach s o f
  · exact .refl s

theorem State.fireAction_reach (x : AxisId) (e : CompareEntry) : CountOnly s (s.fireAction x e).1 := by
  unfold State.fireAction
  split
  · exact .refl s
  · exact (State.outAction_reach s _ _ _).toCountOnly
  · exact (State.outAction_reach s _ _ _).toCountOnly
  · exact (State.outAction_reach s _ _ _).toCountOnly
  · exact (State.outAction_reach s _ _ _).toCountOnly
  · split
    · exact (State.trigger_reach s _ _).toCountOnly
    · exact .refl s
  · exact (State.logCapture_reach s x _ _).toCountOnly

theorem State.fire_reach (x : AxisId) (d : AxisDir) (e : CompareEntry) : CountOnly s (s.fire x d e) := by
  unfold State.fire
  exact (State.fireAction_reach s x e).trans (CountOnly.trans ⟨rfl⟩ (State.post_reach _ _ _).toCountOnly)

theorem State.compareEvent_reach (x : AxisId) (d : AxisDir) : CountOnly s (s.compareEvent x d) := by
  unfold State.compareEvent
  generalize s.dueEntries x d = l
  induction l generalizing s with
  | nil => exact .refl s
  | cons e l ih => exact (State.fire_reach s x d e).trans (ih _)

/-! ### Parts in any order -/

theorem mem_permuted {α : Type} (x : α) (n : Nat) (l : List α) : x ∈ permuted n l ↔ x ∈ l := by
  induction l generalizing n with
  | nil => simp [permuted]
  | cons y l ih =>
    have split_at (k : Nat) (m : List α) : x ∈ insertAt k y m ↔ x = y ∨ x ∈ m := by
      unfold insertAt
      conv_rhs => rw [← List.take_append_drop k m]
      simp only [List.mem_append, List.mem_cons]
      tauto
    rw [permuted, split_at, ih, List.mem_cons]

theorem permuted_perm {α : Type} (n : Nat) (l : List α) : (permuted n l).Perm l := by
  induction l generalizing n with
  | nil => exact .refl _
  | cons y l ih =>
    have split_at (k : Nat) (m : List α) : (insertAt k y m).Perm (y :: m) := by
      unfold insertAt
      refine List.perm_middle.trans ?_
      rw [List.take_append_drop]
    exact (split_at _ _).trans (List.Perm.cons y (ih _))

/-- A relation that every part keeps, and that a count of free choices keeps, is kept by the parts in any order. -/
theorem inAnyOrder_keeps (R : State → State → Prop) (refl : ∀ t, R t t) (trans : ∀ t u v, R t u → R u v → R t v)
    (chosen : ∀ t, R t { t with choices := t.choices + 1 }) (parts : List (State → State))
    (h : ∀ f ∈ parts, ∀ t, R t (f t)) (s : State) : R s (inAnyOrder parts s) := by
  have turns (l : List (State → State)) (hl : ∀ f ∈ l, ∀ t, R t (f t)) (t : State) : R t (inTurn l t) := by
    unfold inTurn
    induction l generalizing t with
    | nil => exact refl t
    | cons f l ih =>
      exact trans _ _ _ (hl f (.head _) t) (ih (fun g hg => hl g (.tail _ hg)) _)
  unfold inAnyOrder
  split
  · exact refl s
  · rename_i f
    exact h f (.head _) s
  · refine trans _ _ _ (chosen s) (turns _ (fun f hf => h f ?_) _)
    exact (mem_permuted f _ _).1 hf

/-- A relation that every part keeps, and that a count of free choices keeps, is kept by `takeParts`. -/
theorem takeParts_keeps (R : State → State → Prop) (refl : ∀ t, R t t) (trans : ∀ t u v, R t u → R u v → R t v)
    (chosen : ∀ t, R t { t with choices := t.choices + 1 }) (parts : List (Bool × (State → State)))
    (h : ∀ f ∈ parts, ∀ t, R t (f.2 t)) (s : State) : R s (takeParts parts s) := by
  have turns (l : List (State → State)) (hl : ∀ f ∈ l, ∀ t, R t (f t)) (t : State) : R t (inTurn l t) := by
    unfold inTurn
    induction l generalizing t with
    | nil => exact refl t
    | cons f l ih =>
      exact trans _ _ _ (hl f (.head _) t) (ih (fun g hg => hl g (.tail _ hg)) _)
  unfold takeParts
  refine trans _ _ _ (turns _ ?_ s) (inAnyOrder_keeps R refl trans chosen _ ?_ _)
  · intro f hf t
    obtain ⟨g, hg, rfl⟩ := List.mem_map.1 hf
    exact h g (List.mem_filter.1 hg).1 t
  · intro f hf t
    obtain ⟨g, hg, rfl⟩ := List.mem_map.1 hf
    exact h g (List.mem_filter.1 hg).1 t

/-- What a choice between two ways to go on can come to (log 6). -/
theorem State.eitherWay_cases (f g : State → State) :
    (f s = g s ∧ s.eitherWay f g = f s) ∨ s.eitherWay f g = f { s with choices := s.choices + 1 } ∨
      s.eitherWay f g = g { s with choices := s.choices + 1 } := by
  unfold State.eitherWay
  split
  · exact .inl ⟨‹_›, rfl⟩
  · split
    · exact .inr (.inl rfl)
    · exact .inr (.inr rfl)

theorem takeParts_reach (parts : List (Bool × (State → State))) (h : ∀ f ∈ parts, ∀ t, CountOnly t (f.2 t)) :
    CountOnly s (takeParts parts s) :=
  takeParts_keeps CountOnly (fun t => .refl t) (fun _ _ _ h k => h.trans k) (fun _ => ⟨rfl⟩) parts h s

/-! ### Count events -/

theorem State.followParts_reach (x : AxisId) (d : AxisDir) :
    ∀ f ∈ s.followParts x d, ∀ t, CountOnly t (f.2 t) := by
  intro f hf t
  obtain ⟨g, -, rfl⟩ := List.mem_map.1 hf
  exact (State.followEvent_reach t x d g).toCountOnly

theorem State.modAxis_reach (x : AxisId) (f : Axis → Axis) : CaptureOnly s (s.modAxis x f) := ⟨rfl⟩

theorem State.countEvent_reach (x : AxisId) (d : AxisDir) : CountOnly s (s.countEvent x d) := by
  have counted (f : Axis → Axis) : CountOnly s (s.modAxis x f) := (State.modAxis_reach s x f).toCountOnly
  unfold State.countEvent
  dsimp only
  split
  · exact (counted _).trans (takeParts_reach _ _ (State.followParts_reach _ x d))
  · refine ((counted _).trans (State.modAxis_reach _ x _).toCountOnly).trans (takeParts_reach _ _ ?_)
    intro f hf t
    rcases List.mem_cons.1 hf with rfl | hf
    · exact (State.camEvent_reach t x _).toCountOnly
    rcases List.mem_cons.1 hf with rfl | hf
    · exact State.compareEvent_reach t x d
    exact State.followParts_reach _ x d f hf t
  · refine ((counted _).trans (State.modAxis_reach _ x _).toCountOnly).trans (takeParts_reach _ _ ?_)
    intro f hf t
    rcases List.mem_cons.1 hf with rfl | hf
    · exact (State.evaluateAxis_reach t x).toCountOnly
    rcases List.mem_cons.1 hf with rfl | hf
    · exact (State.broadcast_reach t _ _).toCountOnly
    exact State.followParts_reach _ x d f hf t

theorem State.drainSteps_reach (n : Nat) : CountOnly s (State.drainSteps n s) := by
  induction n generalizing s with
  | zero => exact .refl s
  | succ n ih =>
    unfold State.drainSteps
    split
    · exact .refl s
    · refine CountOnly.trans ?_ (ih _)
      have deferred (t : State) : CountOnly t t.deferredStep := by
        unfold State.deferredStep
        split
        · exact (State.takeStep_reach t .gv).toCountOnly
        · exact .refl t
      refine CountOnly.trans ?_ (deferred _)
      rename_i d rest _
      have taken := State.countEvent_reach { s with vEvents := rest, vTaking := true } .v d
      have before : CountOnly s { s with vEvents := rest, vTaking := true } := ⟨rfl⟩
      exact (before.trans taken).trans ⟨rfl⟩

theorem State.drain_reach : CountOnly s s.drain := State.drainSteps_reach s _

/-- With no event handed to axis V, there is nothing to take. -/
@[simp] theorem State.drain_settled (h : s.vEvents = []) : s.drain = s := by
  unfold State.drain
  rw [h]
  simp only [List.length_nil, Nat.zero_add]
  unfold State.drainSteps
  split
  · rfl
  · rename_i c; rw [h] at c; exact absurd c (by simp)

/-! ### Session ends -/

theorem State.loseOwner_reach (g : GenId) (station : Nat) : MoveOnly s (s.loseOwner g station) :=
  MoveOnly.trans ⟨rfl⟩ (State.rampStop_reach _ g)

theorem State.passOn_reach (r : Resource) (station : Nat) : EndOnly s (s.passOn r station) :=
  (State.cleanup_reach s r).trans (State.handOver_reach _ _ _ _).toEndOnly

theorem State.endClaim_reach (p : PortId) (station : Nat) (r : Resource) : EndOnly s (State.endClaim p station s r) := by
  unfold State.endClaim
  split
  · split
    · exact State.passOn_reach s _ _
    · exact State.passOn_reach s _ _
    · split
      · exact State.passOn_reach s _ _
      · exact (State.loseOwner_reach s _ _).toEndOnly
  · exact .refl s

theorem State.endSession_reach (p : PortId) (cause : SessionCause) : EndOnly s (s.endSession p cause) := by
  unfold State.endSession
  have records (l : List Resource) (n : Nat) (t : State) : EndOnly t (l.foldl (State.endClaim p n) t) := by
    induction l generalizing t with
    | nil => exact .refl t
    | cons r l ih => exact (State.endClaim_reach t p n r).trans (ih _)
  refine EndOnly.trans ?_ (records _ _ _)
  refine EndOnly.trans ?_ (t := (s.modPort p Port.ended).broadcast (fun u => u.sessionEnded)
    (.sessionEnded (s.station p) p cause)) ⟨rfl⟩
  exact (State.modPort_reach s p _).toEndOnly.trans (State.broadcast_reach _ _ _).toEndOnly

end Sys2Proof.Machine
end

