-- ==== Sys2Proof/Laws/Requests.lean ====
section
/-! SUPPORT. What the arrival of a request frame comes to on a port that serves it at once: one lemma for all the
request rows, in the terms of Safety.lean. -/

namespace Sys2Proof

/-- A request row runs the arrival of its request. -/
theorem Instr.exec_asRequest {c : Instr} {p : PortId} {seq : Byte} {r : Request} (h : c.asRequest = some (p, seq, r))
    (s : Machine.State) : Machine.exec c s = .next (s.arrival p seq r) := by
  cases c <;> simp only [Instr.asRequest, Option.some.injEq, Prod.mk.injEq, reduceCtorEq] at h <;>
    (obtain ⟨rfl, rfl, rfl⟩ := h; rfl)

/-- An event of a field line or clock runs what `fieldEvent` gives for its command. -/
theorem Instr.exec_fieldEvent {c : Instr} {event : Machine.State → Machine.State} (h : Machine.fieldEvent c = some event)
    (s : Machine.State) : Machine.exec c s = .next (event s) := by
  cases c <;> simp only [Machine.fieldEvent, Option.some.injEq, reduceCtorEq] at h <;> (subst h; rfl)

end Sys2Proof

namespace Sys2Proof.Machine

variable {s : State} {p : PortId} {seq : Byte} {r : Request}

/-- Two changes of one port are one change. -/
@[simp] theorem State.modPort_modPort (s : State) (p : PortId) (f g : Port → Port) :
    (s.modPort p f).modPort p g = s.modPort p fun q => g (f q) := by
  cases p <;> rfl

@[simp] theorem State.port_modPort_same (s : State) (p : PortId) (f : Port → Port) :
    (s.modPort p f).port p = f (s.port p) := by
  cases p <;> rfl

@[simp] theorem State.received_intake (s : State) (p : PortId) (seq : Byte) (r : Request) :
    ((s.received p seq r).port p).intake = [{ seq := seq, request := r }] := by
  simp [State.received]

@[simp] theorem State.received_cache (s : State) (p : PortId) (seq : Byte) (r : Request) :
    ((s.received p seq r).port p).cache = (s.port p).cache := by
  simp [State.received]

@[simp] theorem State.received_vEvents (s : State) (p : PortId) (seq : Byte) (r : Request) :
    (s.received p seq r).vEvents = s.vEvents := rfl

@[simp] theorem State.received_axes (s : State) (p : PortId) (seq : Byte) (r : Request) :
    (s.received p seq r).axes = s.axes := rfl

@[simp] theorem State.received_gens (s : State) (p : PortId) (seq : Byte) (r : Request) :
    (s.received p seq r).gens = s.gens := rfl

@[simp] theorem State.received_claims (s : State) (p : PortId) (seq : Byte) (r : Request) :
    (s.received p seq r).claims = s.claims := rfl

@[simp] theorem State.received_slots (s : State) (p : PortId) (seq : Byte) (r : Request) :
    (s.received p seq r).slots = s.slots := rfl

@[simp] theorem State.received_commits (s : State) (p : PortId) (seq : Byte) (r : Request) :
    (s.received p seq r).commits = s.commits := rfl

@[simp] theorem State.received_compares (s : State) (p : PortId) (seq : Byte) (r : Request) :
    (s.received p seq r).compares = s.compares := rfl

@[simp] theorem State.received_channels (s : State) (p : PortId) (seq : Byte) (r : Request) :
    (s.received p seq r).channels = s.channels := rfl

@[simp] theorem State.received_halt (s : State) (p : PortId) (seq : Byte) (r : Request) :
    (s.received p seq r).halt = s.halt := rfl

@[simp] theorem State.received_handing (s : State) (p : PortId) (seq : Byte) (r : Request) :
    (s.received p seq r).handing = s.handing := rfl

@[simp] theorem State.received_clearing (s : State) (p : PortId) (seq : Byte) (r : Request) :
    (s.received p seq r).clearing = s.clearing := rfl

@[simp] theorem Session.restartLease_isOpen (x : Session) : x.restartLease.isOpen = x.isOpen := by
  unfold Session.restartLease
  split <;> rfl

@[simp] theorem Session.restartLease_station (x : Session) : x.restartLease.station = x.station := by
  unfold Session.restartLease
  split <;> rfl

@[simp] theorem State.received_isOpen (s : State) (p q : PortId) (seq : Byte) (r : Request) :
    ((s.received p seq r).session q).isOpen = (s.session q).isOpen := by
  cases p <;> cases q <;> simp [State.received, State.session, State.port, State.modPort, PerPort.get, PerPort.set]

@[simp] theorem State.received_station (s : State) (p q : PortId) (seq : Byte) (r : Request) :
    ((s.received p seq r).session q).station = (s.session q).station := by
  cases p <;> cases q <;> simp [State.received, State.session, State.port, State.modPort, PerPort.get, PerPort.set]

/-- The response handed over is the response handed to the transmitter. -/
theorem State.respond_handed (s : State) (p : PortId) (r : Response) :
    s.respond p r = s.modPort p fun q => q.handed r.seq r.body r.closes := by
  unfold State.respond Port.handed Response.frame
  rfl

/-- Only a Clear Halt waits for a hand-over with its response (R129). -/
theorem State.awaitsHandOver_of_ne (t : State) (st : Status) (k : r ≠ .clearHalt) : t.awaitsHandOver r st = false := by
  simp [State.awaitsHandOver, k]

/-- With no hand-over under way no response waits for one. -/
theorem State.awaitsHandOver_of_nil (t : State) (r : Request) (st : Status) (h : t.handing = []) :
    t.awaitsHandOver r st = false := by
  simp [State.awaitsHandOver, h]

/-- A request taken: answered, remembered unless it closes the session, and handed to the transmitter (R181, R182), a Clear
Halt with a hand-over under way later (R129). -/
theorem State.takeRequest_eq (s : State) (p : PortId) (seq : Byte) (r : Request) :
    s.takeRequest p seq r =
      if (s.answer p r).1.awaitsHandOver r (s.answer p r).2.status then
        { (s.answer p r).1.remember p seq (responseBody r (s.answer p r).2) (closesWith r (s.answer p r).2.status) with
          clearing := some p }
      else if closesWith r (s.answer p r).2.status then
        (s.answer p r).1.modPort p fun q => q.handed seq (responseBody r (s.answer p r).2) true
      else (s.answer p r).1.answered p seq (responseBody r (s.answer p r).2) := by
  unfold State.takeRequest
  dsimp only
  generalize s.answer p r = a
  cases a.1.awaitsHandOver r a.2.status
  · rw [State.respond_handed]
    unfold State.remember State.answered
    cases closesWith r a.2.status
    · simp only [Bool.false_eq_true, if_false, State.modPort_modPort]
      congr 1
      funext q
      unfold Port.handed
      cases q.tx <;> rfl
    · simp
  · rfl

/-- A request frame on a port that serves it (R149, R180, R181): the request is received and taken at once. -/
theorem State.arrival_serves (h : s.Serves p seq) (r : Request) :
    s.arrival p seq r = (s.received p seq r).takeRequest p seq r := by
  have received : (s.modSession p Session.restartLease).modPort p (fun q => { q with intake := [{ seq := seq, request := r }] }) =
      s.received p seq r := by
    simp [State.modSession, State.received]
  unfold State.arrival State.deliver
  simp only [h.at_mark, Bool.false_eq_true, if_false, h.first]
  rw [received]
  unfold State.serveHead
  simp only [State.received_intake]
  have cached : ((s.received p seq r).port p).cached seq = none := by
    have c := h.not_cached
    unfold Port.cached at c ⊢
    rwa [State.received_cache]
  rw [cached]

/-- What a request comes to (R148): the common check it fails, or its owning block's part. -/
theorem State.arrival_answered (h : s.Serves p seq) (r : Request) (k : r ≠ .closeSession)
    (a : ((s.received p seq r).answer p r).1.awaitsHandOver r ((s.received p seq r).answer p r).2.status = false) :
    s.arrival p seq r =
      ((s.received p seq r).answer p r).1.answered p seq (responseBody r ((s.received p seq r).answer p r).2) := by
  rw [State.arrival_serves h, State.takeRequest_eq, a, closesWith, decide_eq_false k]
  simp

@[simp] theorem State.received_pending (s : State) (p : PortId) (seq : Byte) (r : Request) :
    (s.received p seq r).pending = s.pending := rfl

@[simp] theorem State.received_choices (s : State) (p : PortId) (seq : Byte) (r : Request) :
    (s.received p seq r).choices = s.choices := rfl

/-- What Read Outputs comes to (R80): the state is left as it is, but for the number of free choices taken where an event is
next in the queue or a hand-over is under way, and each part of the results is of the state or of what the event leads to. -/
theorem readOutputsRequest_cases (s : State) :
    (s.nextEvent = none ∧ s.handing = [] ∧ readOutputsRequest s = (s, .done (s.outputsBytes s 0))) ∨
      ∃ later,
        (later = s ∨ ∃ event, s.nextEvent = some event ∧ later = event { s with choices := s.choices + 1 }) ∧
        readOutputsRequest s =
          ({ s with choices := s.choices + 1 }, .done (s.outputsBytes later (Config.freeOrder s.choices))) := by
  unfold readOutputsRequest
  cases h : s.nextEvent with
  | none =>
    cases k : s.handing with
    | nil => exact .inl ⟨rfl, rfl, rfl⟩
    | cons r rest => exact .inr ⟨s, .inl rfl, rfl⟩
  | some event => exact .inr ⟨event { s with choices := s.choices + 1 }, .inr ⟨event, rfl, rfl⟩, rfl⟩

/-- With no hand-over under way there is none to complete (R127). -/
@[simp] theorem State.completeHandOver_nil (s : State) (h : s.handing = []) : s.completeHandOver = s := by
  simp [State.completeHandOver, h]

@[simp] theorem State.continueHandOver_nil (s : State) (h : s.handing = []) : s.continueHandOver = s := by
  simp [State.continueHandOver, h]

/-- The transmit line of a port without a frame in transmission stands at mark (R175). -/
@[simp] theorem Port.transmitLevel_idle (q : Port) (k : Nat) (h : q.tx = none) : q.transmitLevel k = .mark := by
  simp [Port.transmitLevel, h]

end Sys2Proof.Machine
end

