-- ==== Sys2Proof/Laws/Halt.lean ====
section
/-! SUPPORT. What a change of the halt state and the end of its hand-over can do (R127). -/

namespace Sys2Proof.Machine

variable (s : State)

/-- Every channel and every generator is a receiver of a halt change. -/
@[simp] theorem mem_allReceivers (r : HaltReceiver) : r ∈ allReceivers := by
  cases r with
  | output o => simp [allReceivers]
  | generator g => cases g <;> simp [allReceivers, allGens]

theorem allReceivers_nodup : allReceivers.Nodup := by decide

/-- Which receivers are late: those whose bit is set. -/
@[simp] theorem mem_lateReceivers (mask : Nat) (r : HaltReceiver) : r ∈ lateReceivers mask ↔ mask.testBit r.place = true := by
  simp [lateReceivers]

theorem lateReceivers_nodup (mask : Nat) : (lateReceivers mask).Nodup := allReceivers_nodup.filter _

@[simp] theorem vectorOf_get {α : Type} {n : Nat} (f : Fin n → α) (i : Nat) (h : i < n) :
    (vectorOf f)[i] = f ⟨i, h⟩ := by
  simp [vectorOf]

/-- A halt change at the channels reaches those among its receivers and no other (R71). -/
theorem State.channelsTakeHalt_channel (receivers : List HaltReceiver) (inForce : Bool) (o : OutputId) :
    (s.channelsTakeHalt receivers inForce).channel o =
      if .output o ∈ receivers then
        { (s.channel o).takeHalt inForce with line := ((s.channel o).takeHalt inForce).effective }
      else s.channel o := by
  simp [State.channelsTakeHalt, State.channel]

/-- Two states that differ at most in what a hand-over of the halt state reaches (R127). -/
structure HandOverOnly (s t : State) : Prop where
  eq :
    t =
      { s with
        channels := t.channels, gens := t.gens, claims := t.claims, ports := t.ports, vEvents := t.vEvents,
        choices := t.choices, handing := t.handing, clearing := t.clearing }

theorem HandOverOnly.refl : HandOverOnly s s := ⟨rfl⟩

theorem HandOverOnly.trans {s t u : State} (h : HandOverOnly s t) (k : HandOverOnly t u) : HandOverOnly s u := by
  constructor
  rw [k.eq, h.eq]

theorem PortsOnly.toHandOverOnly {s t : State} (h : PortsOnly s t) : HandOverOnly s t := ⟨by rw [h.eq]⟩

theorem MoveOnly.toHandOverOnly {s t : State} (h : MoveOnly s t) : HandOverOnly s t := ⟨by rw [h.eq]⟩

theorem State.channelsTakeHalt_reach (receivers : List HaltReceiver) (inForce : Bool) :
    HandOverOnly s (s.channelsTakeHalt receivers inForce) := ⟨rfl⟩

theorem State.haltParts_reach (u : State) (receivers : List HaltReceiver) (inForce : Bool) :
    ∀ f ∈ u.haltParts receivers inForce, ∀ t, HandOverOnly t (f.2 t) := by
  intro f hf t
  obtain ⟨g, -, rfl⟩ := List.mem_map.1 hf
  cases inForce
  · exact (State.haltClear_reach t g).toHandOverOnly
  · exact (State.haltEntry_reach t g).toHandOverOnly

theorem takeParts_handOver (parts : List (Bool × (State → State))) (h : ∀ f ∈ parts, ∀ t, HandOverOnly t (f.2 t)) :
    HandOverOnly s (takeParts parts s) :=
  takeParts_keeps HandOverOnly .refl (fun _ _ _ h k => h.trans k) (fun _ => ⟨rfl⟩) parts h s

theorem State.answerClear_reach : HandOverOnly s s.answerClear := by
  unfold State.answerClear
  split
  · exact .refl s
  · split
    · exact ⟨rfl⟩
    · exact HandOverOnly.trans ⟨rfl⟩ (State.respond_reach _ _ _).toHandOverOnly

/-- A hand-over going on reaches channels, generators and the claims they report to, the ports, and the model's own fields
of the hand-over; not the halt state, the axes, the windows or the compare entries (R127). -/
theorem State.handOn_reach (late : List HaltReceiver) : HandOverOnly s (s.handOn late) := by
  unfold State.handOn
  have taken (u : State) (first : List HaltReceiver) (inForce : Bool) :
      HandOverOnly u
        (takeParts ((u.channelsTakeHalt first inForce).haltParts first inForce) (u.channelsTakeHalt first inForce)) :=
    (State.channelsTakeHalt_reach _ _ _).trans (takeParts_handOver _ _ (State.haltParts_reach _ _ _))
  dsimp only
  split
  · exact HandOverOnly.trans (HandOverOnly.trans ⟨rfl⟩ (taken _ _ _)) (State.answerClear_reach _)
  · exact HandOverOnly.trans ⟨rfl⟩ (taken _ _ _)

theorem State.completeHandOver_reach : HandOverOnly s s.completeHandOver := by
  unfold State.completeHandOver
  split
  · exact .refl s
  · exact State.handOn_reach _ _

theorem State.continueHandOver_reach : HandOverOnly s s.continueHandOver := by
  unfold State.continueHandOver
  split
  · exact .refl s
  · exact HandOverOnly.trans ⟨rfl⟩ (State.handOn_reach _ _)

/-- A change of the halt state reaches what a hand-over reaches, and the halt state (R127, R128). -/
theorem State.haltChange_reach (new : HaltState) (cause : HaltCause) (station : Nat) :
    HandOverOnly { s with halt := new } (s.haltChange new cause station) := by
  unfold State.haltChange
  have posted (u : State) :
      HandOverOnly u (u.broadcast (fun w => w.haltChanged) (.haltChanged new s.halt cause station)) :=
    (State.broadcast_reach _ _ _).toHandOverOnly
  dsimp only
  split
  · exact posted _
  · refine HandOverOnly.trans ⟨rfl⟩ (takeParts_handOver _ _ fun f hf t => ?_)
    rcases List.mem_cons.1 hf with rfl | hf
    · exact posted t
    · exact State.haltParts_reach _ _ _ f hf t

end Sys2Proof.Machine
end

