-- ==== Sys2Proof/WellFormed.lean ====
section
/-! DEFINITION. Which commands are well formed. Every operand of a request row has the width its frame field
has, so that every value is one a frame can carry; only UNKNOWN_REQUEST carries a body that may be none. -/

namespace Sys2Proof

/-- A body of UNKNOWN_REQUEST: at most 120 bytes (R176), empty or led by a code Table 12.1 does not list (R187). -/
def unknownBody (body : List Byte) : Bool :=
  decide (body.length ≤ 120) &&
    match body with
    | [] => true
    | code :: _ => (requestLength code).isNone

/-- Whether a command is one the part can receive. -/
def Instr.wellFormed : Instr → Bool
  | .unknownRequest _ _ body => unknownBody body
  | .coldReset _ _ => true
  | .encoderTransition _ _ _ => true
  | .gateExpiry _ => true
  | .markerEdge _ _ => true
  | .referenceLineEdge _ _ => true
  | .generatorStep _ => true
  | .followBacklogStep _ => true
  | .rampTimerExpiry _ => true
  | .dwellTimerExpiry _ => true
  | .pulseTimerExpiry _ => true
  | .haltAssertion => true
  | .haltRelease => true
  | .leaseExpiry _ => true
  | .frameComplete _ _ => true
  | .gapAbort _ => true
  | .linkBreak _ => true
  | .frameEnd _ => true
  | .resendTimerExpiry _ => true
  | .byteTaken _ _ => true
  | .lineReturnsToMark _ => true
  | .deviceMillisecondIncrement => true
  | .openSession _ _ _ _ _ => true
  | .closeSession _ _ => true
  | .renew _ _ => true
  | .readPortStatus _ _ => true
  | .setSubscriptions _ _ _ => true
  | .acknowledgeNotices _ _ _ => true
  | .claim _ _ _ _ => true
  | .release _ _ _ => true
  | .cancelWait _ _ _ => true
  | .readClaims _ _ => true
  | .configureAxis _ _ _ _ _ _ _ => true
  | .presetAxis _ _ _ _ _ => true
  | .readAxis _ _ _ => true
  | .armCapture _ _ _ _ _ _ => true
  | .readCaptures _ _ _ => true
  | .defineWindow _ _ _ _ _ => true
  | .editWindow _ _ _ _ => true
  | .deleteWindow _ _ _ => true
  | .commitWindowsNow _ _ _ => true
  | .commitWindowsAtRollover _ _ _ => true
  | .cancelCommit _ _ _ => true
  | .readWindow _ _ _ => true
  | .queueCompare _ _ _ => true
  | .withdrawCompare _ _ _ => true
  | .readCompares _ _ _ _ => true
  | .setOutputMode _ _ _ _ => true
  | .setOutputLevel _ _ _ _ => true
  | .setFallback _ _ _ _ => true
  | .pulseOutput _ _ _ _ => true
  | .clearOverlay _ _ _ => true
  | .readOutputs _ _ => true
  | .configureGenerator _ _ _ _ _ _ _ => true
  | .appendMove _ _ _ _ => true
  | .stopGeneratorRamp _ _ _ => true
  | .stopGeneratorFinish _ _ _ => true
  | .triggerGenerator _ _ _ => true
  | .setGeneratorPosition _ _ _ _ => true
  | .readGenerator _ _ _ => true
  | .readHalt _ _ => true
  | .clearHalt _ _ => true

end Sys2Proof
end

