-- ==== Sys2Proof/Tests/Slice0.lean ====
section
/-! SUPPORT. Tests: one step each on a small state, with the result the spec's worked examples and rules give;
and for every statement with hypotheses a witness, a concrete state that meets them. -/

namespace Sys2Proof.Tests

set_option Elab.async false

open Machine

/-! ### States to start from -/

/-- The state after one command. -/
def after (c : Instr) (s : State) : State :=
  match exec c s with
  | .next t => t
  | .fault f => nomatch f
  | .refused _ => s

/-- No subscriptions. -/
def noSubs : Subscriptions := { sessionEnded := false, haltChanged := false, axisOverrange := false, claimFreed := false }

/-- A session open on a port, with no subscriptions and 400 ms left of its lease of 1000 ms. -/
def opened (p : PortId) (station : Nat) (s : State) : State :=
  s.modPort p fun q =>
    { q with
      session :=
        { isOpen := true, station := station, lease := 1000, leaseLeft := some 400, subs := noSubs, closing := false } }

/-- A resource held by a port's session, with these waiters. -/
def held (p : PortId) (r : Resource) (waiters : List PortId) (s : State) : State :=
  s.setClaim r { state := .held, owner := some p, former := 0, waiters := waiters }

/-- Port 1, station 3, holding Q0, G1 and axis A, after reset. -/
def owned : State := held .p1 (.output 0) [] (held .p1 (.generator .g1) [] (held .p1 (.axis .a) [] (opened .p1 3 .reset)))

/-- Axis A ROTARY with a cycle of 2000 counts, at a place. -/
def rotaryA (turn position : Int) (s : State) : State :=
  s.modAxis .a fun a => { a with mode := .rotary, cycle := 2000, turn := turn, position := position }

/-- A window copy without lead. -/
def copy (on off : Int) : WindowCopy := { on := on, off := off, qualifier := .either, lead := 0 }

/-- A compare entry of a port. -/
def entry (id : Nat) (p : PortId) (target : Int) (crossing : Crossing) (action : CompareAction)
    (rep : Option CompareRepeat) : CompareEntry :=
  { id := id, owner := p, tag := 0x0101, target := target, crossing := crossing, action := action, rep := rep }

/-- The notice kinds in a port's queue. -/
def noticesOf (s : State) (p : PortId) : List NoticeKind := (s.port p).notices.items.map Notice.kind

/-- The body of the response last composed on a port. -/
def answer (s : State) (p : PortId) : Option (List Byte) := (s.port p).cache.map CacheEntry.body

/-- A current move that has started. -/
def started (tag : Half) (kind : MoveKind) (remaining : Option Nat) (dir : StepDir) : CurrentMove :=
  { record := { tag := tag, start := .immediate, kind := kind }, started := true, issued := 7, remaining := remaining,
    dir := dir, search := none }

/-- A generator in motion with a current move, its ramp timer run down. -/
def inMotion (state : GenState) (phase : Option Phase) (speed : Nat) (counter : Int) (m : CurrentMove) : Generator :=
  { Generator.cold false with
    maxRate := 10000, stopDecel := 50, haltDecel := 500, state := state, phase := phase, speed := speed,
    counter := counter, current := some m, rampLeft := some 0 }

/-! ### Well-formedness and decoding -/

theorem test_overlong_body_refused : (Instr.unknownRequest .p1 0 (List.replicate 121 0x80)).wellFormed = false := by
  decide +kernel

theorem test_listed_code_is_no_unknown_request : (Instr.unknownRequest .p1 0 [0x03]).wellFormed = false := by decide

theorem test_empty_body_is_well_formed : (Instr.unknownRequest .p1 0 []).wellFormed = true := by decide

/-- No row of the opcode table gives bits (log 16). -/
theorem test_no_table_word : decodeTableWord 8 0xC7 = none := rfl

theorem test_fetch_word_changes_nothing : State.reset.withFetchWord 8 0xC7 = State.reset := rfl

/-- The check value of R176. -/
theorem test_crc_of_123456789 : crc16 [0x31, 0x32, 0x33, 0x34, 0x35, 0x36, 0x37, 0x38, 0x39] = 0x29B1 := by
  decide +kernel

/-- The request body of Table 12.8 reads as the Queue Compare of that example. -/
theorem test_queue_compare_body :
    Request.ofBody
        [0x40, 0x19, 0, 0, 0, 0, 0x03, 0xE8, 0x00, 0x01, 0x06, 0, 0, 0x01, 0x01, 0, 0, 0, 0, 0, 0] =
      .queueCompare
        { axis := 0x19, turn := 0, position := 1000, crossing := 0, action := 1, argument := 6, width := 0,
          tag := 0x0101, step := 0, remaining := 0 } := by
  decide +kernel

/-- The same request with LEN 20 is one of a wrong length (chapter 12, worked example). -/
theorem test_queue_compare_short_body :
    Request.ofBody [0x40, 0x19, 0, 0, 0, 0, 0x03, 0xE8, 0x00, 0x01, 0x06, 0, 0, 0x01, 0x01, 0, 0, 0, 0, 0] =
      .badLength 0x40 := by
  decide +kernel

/-! ### Axes (Tables 1.7 and 1.8) -/

theorem test_forward_rollover :
    let a := (after (.encoderTransition .ea true false) (rotaryA 5 1999 .reset)).axis .a
    (a.position, a.turn, a.extended, a.accumulation) = (0, 6, 12000, 1) := by
  decide +kernel

theorem test_reverse_rollover :
    let a := (after (.encoderTransition .ea false true) (rotaryA 6 0 .reset)).axis .a
    (a.position, a.turn, a.direction, a.accumulation) = (1999, 5, .reverse, -1) := by
  decide +kernel

theorem test_turn_bound_enters_overrange :
    let s := (rotaryA 32767 1999 (opened .p2 5 .reset)).modSession .p2 fun x => { x with subs := { noSubs with axisOverrange := true } }
    let t := after (.encoderTransition .ea true false) s
    ((t.axis .a).position, (t.axis .a).turn, (t.axis .a).status, noticesOf t .p2) =
      (1999, 32767, .overrange, [.axisOverrange .a 65535999 .forward]) := by
  decide +kernel

theorem test_gate_expiry_velocity :
    let s := (rotaryA 5 1997 .reset).modAxis .a fun a => { a with accumulation := -1, gateLeft := 0 }
    let a := (after (.gateExpiry .a) s).axis .a
    (a.velocity, a.accumulation, a.gateLeft) = (-100, 0, 10) := by
  decide +kernel

theorem test_last_marker_edge_is_captured :
    let s := (rotaryA 5 1997 owned).modAxis .a fun a => { a with arming := some { source := .marker, edge := .rising, remaining := 1 } }
    let t := after (.markerEdge .ea true) s
    ((t.axis .a).arming, (t.axis .a).log.map CaptureRecord.position, noticesOf t .p1) =
      (none, [11997], [.captureDone .a .marker 1]) := by
  decide +kernel

theorem test_preset_leaves_overrange :
    let s := (rotaryA 32767 1999 owned).modAxis .a fun a => { a with status := .overrange, direction := .reverse, velocity := -100 }
    let a := (after (.presetAxis .p1 1 0x18 0 0) s).axis .a
    (a.status, a.position, a.turn, a.direction, a.velocity) = (.counting, 0, 0, .reverse, -100) := by
  decide +kernel

theorem test_configure_axis :
    let t := after (.configureAxis .p1 1 0x18 1 2000 0 10) owned
    ((t.axis .a).mode, (t.axis .a).cycle, (t.axis .a).gateTime, answer t .p1) = (.rotary, 2000, 10, some [0x20, 0x00]) := by
  decide +kernel

/-! ### Windows (section 2.4 and Table 2.9) -/

/-- Position 1995 at 20,000 counts/s with a lead of 500 µs tests c = 5, inside 1850 to 150 (R40). -/
theorem test_window_with_lead :
    let a : Axis := { Axis.cold with mode := .rotary, cycle := 2000, position := 1995, velocity := 20000 }
    ({ copy 1850 150 with lead := 500 } : WindowCopy).insideOn a = true := by
  decide +kernel

theorem test_commit_now_goes_live :
    let s := { rotaryA 0 1200 owned with
      slots := Vector.set (Vector.replicate 48 Slot.free) 0
        { status := .staged, axis := .a, output := 0, active := none, staged := some (copy 1000 1500), inside := false } }
    let t := after (.commitWindowsNow .p1 1 0x18) s
    (t.slots[0].status, t.slots[0].inside, t.camLevels[0], noticesOf t .p1) =
      (.live, true, true, [.commitDone .a .now 1 1200]) := by
  decide +kernel

theorem test_define_window_answers_its_slot :
    let t := after (.defineWindow .p1 1 0x18 0 { on := 100, off := 400, qualifier := 0, lead := 0 }) (rotaryA 0 1200 owned)
    (t.slots[0].status, t.slots[0].staged, answer t .p1) =
      (.staged, some { copy 100 400 with qualifier := .forward }, some [0x30, 0x00, 0x00]) := by
  decide +kernel

theorem test_edit_with_a_pending_commit_is_busy :
    let s := { rotaryA 0 1200 owned with
      slots := Vector.set (Vector.replicate 48 Slot.free) 0
        { status := .live, axis := .a, output := 0, active := some (copy 100 400), staged := none, inside := false } }
    answer (after (.editWindow .p1 1 0 { on := 130, off := 430, qualifier := 0, lead := 0 }) (s.setCommit .p1 .a true)) .p1 =
      some [0x31, 0x23] := by
  decide +kernel

/-! ### Compares (Table 3.4, line 6) -/

theorem test_two_entries_fire_in_order :
    let s := (held .p2 (.output 6) [] (opened .p3 9 (opened .p2 5 .reset))).modAxis .b fun b => { b with position := 999 }
    let s := s.setCompareList .b
      [entry 1 .p2 1000 .up (.outHigh 6) none, entry 2 .p3 1000 .either .notify (some { step := 5, remaining := 3 }),
        entry 3 .p2 1005 .down (.outLow 6) none]
    let t := after (.encoderTransition .eb true false) s
    ((t.compareList .b).map fun e => (e.id, e.target, e.rep.map CompareRepeat.remaining), (t.channel 6).overlay,
        (t.channel 6).line) =
      ([(3, 1005, none), (2, 1005, some 2)], .high, .high) := by
  decide +kernel

theorem test_queue_compare_answers_its_id :
    let s := (held .p1 (.output 6) [] owned).modAxis .b fun b => { b with position := 995 }
    let t := after (.queueCompare .p1 0x2A
      { axis := 0x19, turn := 0, position := 1000, crossing := 0, action := 1, argument := 6, width := 0, tag := 0x0101,
        step := 0, remaining := 0 }) s
    ((t.compareList .b).map CompareEntry.target, t.nextCompareId, answer t .p1) =
      ([1000], 2, some [0x40, 0x00, 0x01]) := by
  decide +kernel

theorem test_withdraw_of_another_session_is_not_found :
    let s := (opened .p3 9 owned).setCompareList .b [entry 2 .p3 1000 .either .notify none]
    answer (after (.withdrawCompare .p1 5 2) s) .p1 = some [0x41, 0x32] := by
  decide +kernel

/-! ### Outputs and the halt (Tables 4.5 and 7.6) -/

theorem test_pulse_on_a_cam_output :
    let s := { owned with channels := owned.channels.set 0 { Channel.cold false with mode := .cam } }
    let c := (after (.pulseOutput .p1 1 0 40) s).channel 0
    (c.overlay, c.pulse, c.line) = (.high, some 40, .high) := by
  decide +kernel

theorem test_fallback_shows_during_halt :
    let s := { owned with channels := owned.channels.set 0 (Channel.cold true) }
    let c := (after (.setFallback .p1 1 0 1) s).channel 0
    (c.fallback, c.line, c.manual) = (.high, .high, .low) := by
  decide +kernel

theorem test_pulse_expiry :
    let s := { owned with channels := owned.channels.set 0 { Channel.cold false with overlay := .high, pulse := some 0, line := .high } }
    let c := (after (.pulseTimerExpiry 0) s).channel 0
    (c.overlay, c.pulse, c.line) = (.none, none, .low) := by
  decide +kernel

/-- The HALT line just asserted, no receiver having taken the change yet (R127). -/
def handingOn : State :=
  { owned with halt := .active, lines := { owned.lines with haltAsserted := true }, handing := allReceivers }

/-- A halt that Port 1 is clearing, no receiver having taken the clear yet (R127, R129). -/
def clearingHalt : State :=
  let s := { handingOn with handing := [] }
  { State.modPort { (State.channelsTakeHalt s allReceivers true) with halt := .clear, lines := owned.lines }
      .p1 fun q => { q with intake := [{ seq := 9, request := .clearHalt }] } with
    gens := { g1 := Generator.cold true, g2 := Generator.cold true, gv := Generator.cold true }
    handing := allReceivers, clearing := some .p1 }

theorem test_halt_reaches_every_receiver :
    let t := handingOn.completeHandOver
    (t.handing, t.halt, (t.gen .g1).state, (t.gen .g2).state, (t.channel 3).halt) =
      ([], .active, .halted, .halted, true) := by
  decide +kernel

/-- A generator that has still to take the change is not refused (Table 5.6, priority 3). -/
theorem test_append_between_receivers :
    let raw : RawMove :=
      { tag := 1, kind := 9, start := 0, at4 := 0, at5 := 0, at9 := 0, at13 := 0, at17 := 0, at19 := 0, at21 := 0,
        at25 := 0, at26 := 0, at27 := 0 }
    let s := { handingOn with handing := [.generator .g1] }
    answer (after (.appendMove .p1 4 0x10 raw) s) .p1 = some [0x61, 0x22] ∧
      (s.gen .g1).state = .idle := by
  decide +kernel

theorem test_clear_halt_while_active : answer (after (.clearHalt .p1 1) handingOn) .p1 = some [0x71, 0x24, 0x01] := by
  decide +kernel

/-- R129: with one generator still to take the clear, nothing has been sent. -/
theorem test_hand_over_in_part :
    let t := clearingHalt.handOn [.generator .g1]
    (t.handing, t.clearing, (t.gen .g1).state, (t.gen .g2).state, (t.channel 3).halt) =
        ([.generator .g1], some .p1, .halted, .idle, false) ∧
      (t.port .p1).tx = none := by
  decide +kernel

theorem test_clear_halt_answers_last :
    (clearingHalt.port .p1).tx = none ∧
      (clearingHalt.completeHandOver.port .p1).tx.map TxFrame.bytes = some (frameBytes 0x52 9 [0x71, 0x00, 0x00]) ∧
      (clearingHalt.completeHandOver.gen .g1).state = .idle ∧ clearingHalt.completeHandOver.clearing = none := by
  decide +kernel

/-! ### Generators (Table 5.8, R95, Tables 6.3 and 6.4) -/

theorem test_velocity_move_starts :
    let raw : RawMove :=
      { tag := 1, kind := 1, start := 0, at4 := 0, at5 := 0, at9 := 200, at13 := 2000, at17 := 100, at19 := 100, at21 := 0,
        at25 := 0, at26 := 0, at27 := 0 }
    let s := { owned with gens := owned.gens.set .g1 { Generator.cold false with maxRate := 10000 } }
    let t := after (.appendMove .p1 4 0x10 raw) s
    ((t.gen .g1).state, (t.gen .g1).phase, (t.gen .g1).speed, (t.gen .g1).counter, answer t .p1) =
      (.running, some .rampUp, 200, 1, some [0x61, 0x00, 0x00]) := by
  decide +kernel

theorem test_eighteenth_ramp_expiry_reaches_the_peak :
    let m := started 1 (.velocity .up 200 2000 100 100 none) none .up
    let s := { owned with gens := owned.gens.set .g1 (inMotion .running (some .rampUp) 1900 50 m) }
    let n := (after (.rampTimerExpiry .g1) s).gen .g1
    (n.speed, n.phase) = (2000, some .cruise) := by
  decide +kernel

theorem test_braking_distance_of_40 :
    let m := started 2 (.position .relative 5000 200 4000 200 200) (some 40) .up
    let s := { owned with gens := owned.gens.set .g1 (inMotion .running (some .cruise) 4000 50 m) }
    let n := (after (.rampTimerExpiry .g1) s).gen .g1
    (n.speed, n.phase) = (3800, some .rampDown) := by
  decide +kernel

theorem test_no_braking_at_41_steps :
    let m := started 2 (.position .relative 5000 200 4000 200 200) (some 41) .up
    let s := { owned with gens := owned.gens.set .g1 (inMotion .running (some .cruise) 4000 50 m) }
    let n := (after (.rampTimerExpiry .g1) s).gen .g1
    (n.speed, n.phase) = (4000, some .cruise) := by
  decide +kernel

theorem test_second_trigger_is_lost :
    let m := started 2 (.position .relative 5000 200 4000 200 200) (some 4999) .up
    let s := { owned with gens := owned.gens.set .g1 { inMotion .running (some .rampUp) 200 1 m with pendingTrigger := true } }
    let t := after (.triggerGenerator .p1 8 0x10) s
    (noticesOf t .p1, answer t .p1) = ([.triggerLost .g1 .request .running], some [0x63, 0x00]) := by
  decide +kernel

/-- The search record of the search to REF2 and MKA. -/
def homeFields (limit : Nat) : HomeFields :=
  { direction := .down, searchSpeed := 3000, creepSpeed := 300, accel := 150, decel := 300, line := .ref2,
    markerAxis := some .ea, markerCount := 1, limit := limit, home := 0 }

/-- G1 in that search. -/
def searching (phase : SearchPhase) (found : Bool) (speed : Nat) (counter : Int) (steps limit : Nat) : Generator :=
  inMotion .searching none speed counter
    { started 7 (.home (homeFields limit)) none .down with
      search := some { phase := phase, motion := .down, found := found, markers := 0, steps := steps, mark := none } }

theorem test_marker_edge_completes_the_search :
    let s := { owned with gens := owned.gens.set .g1 (searching .creep true 300 (-41608) 41608 100000) }
    let n := (after (.markerEdge .ea true) s).gen .g1
    (n.counter, n.state, n.speed, n.current) = (0, .idle, 0, none) := by
  decide +kernel

theorem test_marker_edge_in_seek_is_not_counted :
    let s := { owned with gens := owned.gens.set .g1 (searching .seek true 2400 (-41208) 41208 100000) }
    after (.markerEdge .ea true) s = { s with lines := { s.lines with mka := true } } := by
  decide +kernel

theorem test_step_past_the_search_limit_fails :
    let s := { owned with gens := owned.gens.set .g1 (searching .seek false 3000 (-20000) 20000 20000) }
    let n := (after (.generatorStep .g1) s).gen .g1
    (n.counter, n.state, n.speed, n.stopRate, n.current.bind fun m => m.search.bind SearchRecord.mark) =
      (-20001, .stopping, 3000, some .stop, some .limit) := by
  decide +kernel

/-- Three counts at 2/3 make two steps due (R98). -/
theorem test_follow_backlog_fills :
    let n := { inMotion .following none 0 0 (started 9 (.follow .a 2 3 none) none .up) with accumulator := 2, rampLeft := none }
    let t := after (.encoderTransition .ea true false) { owned with gens := owned.gens.set .g1 n }
    ((t.gen .g1).backlog, (t.gen .g1).accumulator, (t.gen .g1).backlogDir) = (1, 1, .up) := by
  decide +kernel

/-- The last step of a backlog leaves it without a direction, which is sent as UP (R188, log 17). -/
theorem test_emptied_backlog_is_up :
    let n :=
      { inMotion .following none 0 0 (started 9 (.follow .a 2 3 none) none .up) with backlog := 1, backlogDir := .down, rampLeft := none }
    let t := after (.followBacklogStep .g1) { owned with gens := owned.gens.set .g1 n }
    ((t.gen .g1).backlog, (t.gen .g1).counter, (t.gen .g1).backlogDir) = (0, -1, .up) := by
  decide +kernel

/-- The limit of a VELOCITY move in ARMED is whole: R96 takes the steps issued from it. -/
theorem test_armed_move_keeps_its_limit :
    let raw : RawMove :=
      { tag := 1, kind := 1, start := 1, at4 := 0, at5 := 0, at9 := 200, at13 := 1000, at17 := 100, at19 := 100, at21 := 75,
        at25 := 0, at26 := 0, at27 := 0 }
    let t := after (.appendMove .p1 4 0x10 raw) owned
    ((t.gen .g1).state, (t.gen .g1).current.bind CurrentMove.remaining) = (.armed, some 75) := by
  decide +kernel

/-! ### Claims, sessions and notices (Tables 8.6, 9.5 and 10.4) -/

theorem test_claim_waits_at_place_one :
    let s := opened .p2 5 owned
    answer (after (.claim .p2 1 0 1) s) .p2 = some [0x10, 0x01, 3, 1] := by
  decide +kernel

theorem test_lapse_hands_the_claim_over :
    let s := (held .p1 (.output 2) [.p2] (opened .p2 5 (opened .p1 2 .reset))).modSession .p1 fun x => { x with leaseLeft := some 0 }
    let t := after (.leaseExpiry .p1) s
    ((t.claim (.output 2)).owner, t.session .p1, noticesOf t .p2) =
      (some .p2, Session.closed, [.claimGranted (.output 2) 2 .sessionEnded]) := by
  decide +kernel

theorem test_open_session :
    let t := after (.openSession .p1 1 3 200 0x01) .reset
    ((t.session .p1).station, (t.session .p1).leaseLeft, answer t .p1) =
      (3, some 200, some [0x01, 0x00, 1, 0, 48, 32, 8, 24, 22, 3, 0, 200]) := by
  decide +kernel

theorem test_lease_must_be_a_multiple_of_ten : answer (after (.openSession .p2 2 6 105 0) .reset) .p2 = some [0x01, 0x22] := by
  decide +kernel

theorem test_renew_without_a_session : answer (after (.renew .p2 5) .reset) .p2 = some [0x03, 0x12] := by decide +kernel

/-- Notices 40 to 49 of Table 10.4 after line 2: eight SENT at 5000 to 5007, two UNSENT; a frame in transmission. -/
def tenNotices : State :=
  { (opened .p2 6 .reset).modPort .p2 fun q =>
      { q with
        tx := some { kind := .notice 47, bytes := [] }
        notices :=
          { items :=
              (List.range 10).map fun i =>
                { number := 40 + i, kind := .queueFlushed .g1 1, lostBefore := 0, time := 5000,
                  sentAt := if i < 8 then some (BitVec.ofNat 32 (5000 + i)) else none }
            next := 50, wrapped := false, lost := 0, resendAt := some 5250 } } with
    now := 5020 }

theorem test_acknowledge_43 :
    let q := ((after (.acknowledgeNotices .p2 18 43) tenNotices).port .p2).notices
    (q.items.map Notice.number, q.resendAt) = ([44, 45, 46, 47, 48, 49], some 5254) := by
  decide +kernel

theorem test_resend_expiry :
    let q := ((after (.resendTimerExpiry .p2) { tenNotices with now := 5250 }).port .p2).notices
    (q.items.map Notice.number, q.sentCount, q.resendAt) = ([40, 41, 42, 43, 44, 45, 46, 47, 48, 49], 0, none) := by
  decide +kernel

/-! ### Links (Tables 11.3 to 11.5) -/

/-- R175: start bit, data bits least significant first, stop bit. -/
theorem test_character_of_sync :
    characterLevels 0xC7 = [.space, .mark, .mark, .mark, .space, .space, .space, .mark, .mark, .mark] ∧
      ∀ b : Fin 256, characterByte (characterLevels (BitVec.ofFin b)) = some (BitVec.ofFin b) := by
  decide +kernel

theorem test_sync_begins_a_frame : ((after (.byteTaken .p1 0xC7) .reset).port .p1).rx = .headerType := by decide +kernel

theorem test_long_len_is_discarded :
    let q := (after (.byteTaken .p1 121) (State.reset.modPort .p1 fun q => { q with rx := .headerLen 0x51 7 })).port .p1
    (q.rx, q.faults.length) = (.hunt, 1) := by
  decide +kernel

theorem test_third_request_is_an_overrun :
    let s := (opened .p3 4 .reset).modPort .p3 fun q =>
      { q with
        intake := [{ seq := 7, request := .renew }, { seq := 8, request := .renew }]
        tx := some { kind := .response false, bytes := [] } }
    let q := (after (.readOutputs .p3 9) s).port .p3
    (q.intake.map Intake.seq, q.faults.overrun, q.session.leaseLeft) = ([7, 8], 1, some 1000) := by
  decide +kernel

theorem test_repeated_seq_is_answered_from_the_cache :
    let s := (opened .p3 4 .reset).modPort .p3 fun q => { q with cache := some { seq := 9, body := [0x55, 0x00] } }
    ((after (.pulseOutput .p3 9 3 50) s).port .p3).tx = some { kind := .response false, bytes := frameBytes 0x52 9 [0x55, 0x00] } := by
  decide +kernel

theorem test_second_break_of_a_spell_does_nothing :
    let s := State.reset.modPort .p1 fun q => { q with atSpace := true }
    after (.linkBreak .p1) s = s := by
  decide +kernel

theorem test_count_wraps : (after .deviceMillisecondIncrement { State.reset with now := 0xFFFFFFFF }).now = 0 := by decide +kernel

/-- An empty queue idles (log 9). -/
theorem test_empty_queue_idles : step State.reset = .next State.reset := rfl

/-! ### States that meet the hypotheses of the statements -/

/-- A window slot without inside flag. -/
def slot (status : SlotStatus) (x : AxisId) (o : OutputId) (active staged : Option WindowCopy) : Slot :=
  { status := status, axis := x, output := o, active := active, staged := staged, inside := false }

/-- A notice. -/
def notice (number : Nat) (sentAt : Option Word) : Notice :=
  { number := number, kind := .queueFlushed .g1 1, lostBefore := 0, time := 0, sentAt := sentAt }

/-- The fields of a POSITION move, its tag and record. -/
def position (distance : Int) : MoveKind := .position .relative distance 200 4000 200 200

/-- Sessions on all three ports, with one waiting for Q0 and two for Q1; windows in every state; two compare entries
on axis A; G1 IDLE, G2 in a DWELL move that has run out, GV in a VELOCITY move; a sent and an unsent notice on Port 2. -/
def wide : State :=
  let s := opened .p3 9 (opened .p2 5 (opened .p1 3 .reset))
  let s := held .p1 (.output 0) [.p2] (held .p1 (.output 1) [.p2, .p3] (held .p1 (.axis .a) [] s))
  let s := held .p1 (.generator .g1) [] (held .p1 (.generator .g2) [] (held .p1 (.generator .gv) [] s))
  let s := (rotaryA 5 1998 s).modAxis .a fun a => { a with gateLeft := 0 }
  let s := s.modAxis .b fun b => { b with mode := .rotary, cycle := 16, position := 15, turn := 32767 }
  let s := s.modAxis .v fun v => { v with position := 1999999999 }
  let s := (s.setCommit .p1 .b true).setCompareList .a
    [entry 1 .p1 11999 .up (.outHigh 0) none, entry 2 .p3 12001 .either .notify none]
  let s := s.modSession .p3 fun x => { x with leaseLeft := some 0 }
  let s := s.modPort .p2 fun q =>
    { q with
      tx := some { kind := .notice 44, bytes := [] }
      notices :=
        { items := [notice 44 (some 10), notice 45 none], next := 46, wrapped := false, lost := 0,
          resendAt := some 260 } }
  { s with
    nextCompareId := 3
    slots :=
      (((((Vector.replicate 48 Slot.free).set 0 (slot .liveEdited .a 0 (some (copy 100 400)) (some (copy 120 420)))).set 1
        (slot .staged .a 0 none (some (copy 1 2)))).set 2 (slot .retiring .a 1 (some (copy 3 4)) none)).set 4
        (slot .staged .b 0 none (some (copy 1 2)))).set 5 (slot .live .a 0 (some (copy 5 6)) none)
    gens :=
      { g1 := { Generator.cold false with maxRate := 10000, counter := 1999999998 }
        g2 :=
          { inMotion .dwelling none 0 0 (started 4 (.dwell 100) none .up) with rampLeft := none, dwellLeft := some 0 }
        gv := inMotion .running (some .cruise) 2000 1999999999 (started 5 (.velocity .up 200 2000 100 100 none) none .up) } }

/-- G1 one step from the end of its POSITION move, G2 at the bound of its counter with a full queue, GV STOPPING at the
other bound just above its floor; axis A in OVERRANGE; 32 compare entries on axis B. -/
def full : State :=
  { wide with
    axes := { wide.axes with a := { wide.axes.a with status := .overrange } }
    compares := { a := [], b := (List.range 32).map fun i => entry (i + 1) .p1 (100 + i) .up .notify none, v := [] }
    gens :=
      { g1 := inMotion .running (some .rampDown) 201 1999999999 (started 1 (position 5000) (some 1) .up)
        g2 :=
          { inMotion .running (some .cruise) 2000 2000000000 (started 2 (position 5000) (some 5) .up) with
            queue := List.replicate 8 { tag := 3, start := .immediate, kind := position 5 } }
        gv :=
          { inMotion .stopping none 250 (-2000000000) (started 3 (.velocity .down 200 2000 100 100 none) none .down) with
            stopRate := some .stop } } }

/-- G1 STOPPING one above the boundary of its floor, G2 and GV in CREEP: the one waits for the falling edge of REF2,
the other for its only marker. -/
def creeping : State :=
  let home (count : Nat) : CurrentMove :=
    { started 7 (.home { homeFields 100000 with markerCount := count }) none .down with
      search := some { phase := .creep, motion := .down, found := true, markers := 0, steps := 9, mark := none } }
  { wide with
    lines := { wide.lines with ref2 := true }
    gens :=
      { g1 :=
          { inMotion .stopping none 251 0 (started 3 (.velocity .up 200 2000 100 100 none) none .up) with
            stopRate := some .stop }
        g2 := inMotion .searching none 300 (-9) (home 0)
        gv := inMotion .searching none 300 (-9) (home 1) } }

/-- Port 1, station 3, holding G1 in a halt: ACTIVE. -/
def haltActive : State :=
  held .p1 (.generator .g1) [] (opened .p1 3 (State.cold { InputLines.quiet with haltAsserted := true } Straps.allLow))

/-- The same, LATCHED. -/
def haltLatched : State := { haltActive with halt := .latched, lines := InputLines.quiet }

/-- All open sessions subscribed to every broadcast kind. -/
def subscribed (s : State) : State :=
  let all (x : Session) : Session :=
    if x.isOpen then
      { x with subs := { sessionEnded := true, haltChanged := true, axisOverrange := true, claimFreed := true } }
    else x
  ((s.modSession .p1 all).modSession .p2 all).modSession .p3 all

/-- Axis B at the last place of a turn that is not the last, with Port 1's pending commit on it. -/
def rolling : State := wide.modAxis .b fun b => { b with turn := 5 }

/-- Axis A one count before the only entry due there, with this action and repeat; the next lies elsewhere. -/
def firing (action : CompareAction) (rep : Option CompareRepeat) : State :=
  wide.setCompareList .a [entry 1 .p1 11999 .up action rep, entry 2 .p3 12001 .either .notify none]

/-- G1 and G2 following axis A one to one, the one with room for a last step in its backlog, the other with none; no
compare entry on the axis. -/
def followers : State :=
  let n (backlog : Nat) : Generator :=
    { inMotion .following none 0 0 (started 9 (.follow .a 1 1 none) none .up) with backlog := backlog, rampLeft := none }
  { wide.setCompareList .a [] with gens := { wide.gens with g1 := n 63, g2 := { n 64 with queue := [{ tag := 3, start := .immediate, kind := position 5 }] } } }

/-- A search of REF2 with a marker count, in a phase. -/
def homing (phase : SearchPhase) (found : Bool) (speed steps count : Nat) : Generator :=
  inMotion .searching none speed (-9)
    { started 7 (.home { homeFields 100000 with markerCount := count }) none .down with
      search := some { phase := phase, motion := .down, found := found, markers := 0, steps := steps, mark := none } }

/-- Three searches with REF2 high: CLEARING, and SEEK with the reference found one above the creep speed, to be overrun
and not. -/
def searchingHigh : State :=
  { wide with
    lines := { wide.lines with ref2 := true }
    gens := { g1 := homing .clearing false 300 9 1, g2 := homing .seek true 301 9 0, gv := homing .seek true 301 9 1 } }

/-- Three searches with REF2 low: SEEK at the creep speed, CREEP with two markers to count, and SEEK at its limit. -/
def searchingLow : State :=
  { wide with
    gens := { g1 := homing .seek false 300 9 1, g2 := homing .creep true 300 9 2, gv := homing .seek false 301 100000 1 } }

/-- G1 with a DWELL move in ARMED, G2 with a VELOCITY move. -/
def armed : State :=
  let n (kind : MoveKind) : Generator :=
    { Generator.cold false with maxRate := 10000, state := .armed, current := some { started 4 kind none .up with started := false } }
  { wide with gens := { wide.gens with g1 := n (.dwell 1), g2 := n (.velocity .down 200 2000 100 100 none) } }

/-- Port 1 while the response to its Close Session is sent. -/
def closing : State :=
  (opened .p1 3 .reset).modPort .p1 fun q =>
    { q with
      session := { q.session with leaseLeft := none, closing := true }
      intake := [{ seq := 7, request := .closeSession }]
      tx := some { kind := .response true, bytes := [] } }

theorem wide_lawful : wide.Lawful := State.lawful_of_check (by decide +kernel)

theorem full_lawful : full.Lawful := State.lawful_of_check (by decide +kernel)

theorem creeping_lawful : creeping.Lawful := State.lawful_of_check (by decide +kernel)

theorem haltActive_lawful : haltActive.Lawful := State.lawful_of_check (by decide +kernel)

theorem haltLatched_lawful : haltLatched.Lawful := State.lawful_of_check (by decide +kernel)

theorem closing_lawful : closing.Lawful := State.lawful_of_check (by decide +kernel)

theorem subscribed_lawful :
    (subscribed wide).Lawful ∧ (subscribed haltActive).Lawful ∧ (subscribed haltLatched).Lawful :=
  ⟨State.lawful_of_check (by decide +kernel), State.lawful_of_check (by decide +kernel), State.lawful_of_check (by decide +kernel)⟩

/-- A halt that Port 1 is clearing while Port 2 has a session. -/
def clearingBeside : State := subscribed (opened .p2 4 clearingHalt)

theorem handingOn_lawful : (subscribed handingOn).Lawful := State.lawful_of_check (by decide +kernel)

theorem clearingBeside_lawful : clearingBeside.Lawful := State.lawful_of_check (by decide +kernel)

theorem handingOn_serves : (subscribed handingOn).ServesSession .p1 7 := State.servesSession_of_check (by decide +kernel)

theorem clearingBeside_serves : clearingBeside.ServesSession .p2 7 := State.servesSession_of_check (by decide +kernel)

theorem rolling_lawful : rolling.Lawful := State.lawful_of_check (by decide +kernel)

theorem followers_lawful : followers.Lawful := State.lawful_of_check (by decide +kernel)

theorem searchingHigh_lawful : searchingHigh.Lawful := State.lawful_of_check (by decide +kernel)

theorem searchingLow_lawful : searchingLow.Lawful := State.lawful_of_check (by decide +kernel)

theorem armed_lawful : armed.Lawful := State.lawful_of_check (by decide +kernel)

theorem wide_serves (p : PortId) : wide.ServesSession p 7 := by
  cases p <;> exact State.servesSession_of_check (by decide +kernel)

theorem full_serves : full.ServesSession .p1 7 := State.servesSession_of_check (by decide +kernel)

theorem haltActive_serves : haltActive.ServesSession .p1 7 := State.servesSession_of_check (by decide +kernel)

theorem haltLatched_serves : haltLatched.ServesSession .p1 7 := State.servesSession_of_check (by decide +kernel)

theorem reset_serves (p : PortId) : State.reset.Serves p 7 := by
  cases p <;> exact State.serves_of_check (by decide +kernel)

/-! ### Witnesses: the step and the laws -/

/-- For StepRunsFrontCommand. -/
theorem witness_front_command : { wide with pending := [.renew .p1 7, .haltRelease] }.pending = .renew .p1 7 :: [.haltRelease] :=
  rfl

/-- For ColdResetIsLawful. -/
theorem witness_cold_reset :
    exec (.coldReset InputLines.quiet Straps.allLow) State.reset = .next (State.cold InputLines.quiet Straps.allLow) :=
  rfl

/-- For every statement EveryStepKeeps…: a lawful state with a command waiting, and the state it steps to. -/
theorem witness_step_from_lawful :
    { wide with pending := [.renew .p1 7] }.Lawful ∧ ∃ t, step { wide with pending := [.renew .p1 7] } = .next t :=
  ⟨State.lawful_of_check (by decide +kernel), _, rfl⟩

/-! ### Witnesses: events at the axes -/

/-- For EncoderTransitionMovesItsAxis: the last place of a turn forward, the first of the first turn but one in reverse, and
the last count of a line; no entry of the axis is a CAPTURE. -/
theorem witness_encoder_transition :
    quadrature (wide.lines.pair .ea) { phase1 := true, phase2 := false } = some .forward ∧
      quadrature (wide.lines.pair .ea) { phase1 := false, phase2 := true } = some .reverse ∧
      ((rotaryA 32766 1999 wide |>.axis .a).Lawful ∧ (rotaryA 32766 1999 wide |>.axis .a).status = .counting ∧
        (let a := (rotaryA 32766 1999 wide).axis .a; a.position + 1 < a.cycle ∨ a.turn < 32767)) ∧
      ((rotaryA (-32767) 0 wide |>.axis .a).Lawful ∧
        (let a := (rotaryA (-32767) 0 wide).axis .a; 0 < a.position ∨ -32768 < a.turn)) ∧
      ({ Axis.cold with position := 1999999999 }.Lawful ∧ ({ Axis.cold with position := 1999999999 } : Axis).position < 2000000000) ∧
      ∀ c ∈ wide.compareList .a, c.action ≠ .capture :=
  ⟨by decide, by decide, ⟨Axis.lawful_of_check (by decide +kernel), by decide +kernel, by decide +kernel⟩,
    ⟨Axis.lawful_of_check (by decide +kernel), by decide +kernel⟩, ⟨Axis.lawful_of_check (by decide), by decide⟩,
    by decide +kernel⟩

/-- For the windows of EncoderTransitionMovesItsAxis: LIVE_EDITED and STAGED ones on axis A, one on axis B; an event within a
turn, and a rollover with no pending commit on the axis. -/
theorem witness_event_windows :
    let turnAfter (s : State) : Int := ((after (.encoderTransition .ea true false) s).axis .a).turn
    (wide.slots[0].axis = .a ∧ wide.slots[0].status.counts = true ∧ wide.slots[0].active = some (copy 100 400)) ∧
      (wide.slots[1].axis = .a ∧ wide.slots[1].status.counts = false) ∧
      (wide.slots[4].axis ≠ .a ∧ wide.slots[4].axis ≠ .v) ∧ turnAfter wide = (wide.axis .a).turn ∧
      (let s := rotaryA 5 1999 wide
       turnAfter s ≠ (s.axis .a).turn ∧ ∀ p ∈ allPorts, s.hasCommit p .a = false) := by
  decide +kernel

/-- A count event at the on position of a LIVE window sets its inside flag and the cam level (R9, R38). -/
theorem test_event_enters_a_window :
    let s := { wide with slots := wide.slots.set 5 (slot .live .a 0 (some (copy 1999 3)) none) }
    let t := after (.encoderTransition .ea true false) s
    (t.slots[5].inside, t.slots[0].inside, t.camLevels[0]) = (true, false, true) := by
  decide +kernel

/-- For BothLinesChangingIsNoEvent: both lines, and none. -/
theorem witness_both_lines :
    ((wide.lines.pair .ea).phase1 = true ↔ (wide.lines.pair .ea).phase2 = true) ∧
      ((wide.lines.pair .ea).phase1 = false ↔ (wide.lines.pair .ea).phase2 = false) := by
  decide +kernel

/-- For OverrangeEntryAndStay: the bound of a line, the bound of the turn with a subscriber, and OVERRANGE. -/
theorem witness_overrange :
    quadrature (wide.lines.pair .ea) { phase1 := true, phase2 := false } = some .forward ∧
      { Axis.cold with position := 2000000000 }.Lawful ∧
      (rotaryA 32767 1999 wide |>.axis .a).Lawful ∧ (rotaryA 32767 1999 wide |>.axis .a).status = .counting ∧
      (full.axis .a).status = .overrange ∧
      (let s := subscribed (rotaryA 32767 1999 wide)
       s.vEvents = [] ∧ (s.session .p2).isOpen = true ∧ (s.session .p2).subs.axisOverrange = true ∧
         (s.port .p2).notices.items.length ≤ 12 ∧ (s.axis .a).turn = 32767) :=
  ⟨by decide, Axis.lawful_of_check (by decide), Axis.lawful_of_check (by decide +kernel), by decide +kernel, by decide +kernel,
    by decide +kernel⟩

/-- For GateExpiryMeasuresVelocity: a gate time over; a window that wraps on a ROTARY axis, and one on a line. -/
theorem witness_gate_expiry :
    (wide.axis .a).gateLeft = 0 ∧ (1 ≤ (wide.axis .a).cycle ∧ (wide.axis .a).mode = .rotary) ∧ Axis.cold.mode = .linear ∧
      (copy 100 150).on < (copy 100 150).off := by
  decide +kernel

/-- For MatchingEdgesAreCaptured: the log with one place left and full, the arming at its last edge, the holder's queue
empty; for the marker, a reference line at axis A and one at axis V. -/
theorem witness_captures :
    let m (c : CaptureSource) : CaptureArming := { source := c, edge := .rising, remaining := 1 }
    let s (x : AxisId) (c : CaptureSource) (records : Nat) : State :=
      (held .p1 (.axis .v) [] wide).modAxis x fun a =>
        { a with
          arming := some (m c)
          log := List.replicate records { source := .marker, position := 0, velocity := 0, time := 0 } }
    (∀ c, ((s .a c 7).axis .a).arming = some (m c) ∧ ((s .v c 8).axis .v).arming = some (m c)) ∧
      (∀ x ∈ [AxisId.a, .v],
        (s x .compare 7).holds .p1 (.axis x) = true ∧ ((s x .compare 7).session .p1).isOpen = true ∧
          ((s x .compare 7).port .p1).notices.items.length ≤ 20 ∧ (s x .compare 7).vEvents = [] ∧
          ((s x .compare 7).axis x).log.length = 7 ∧ ((s x .compare 8).axis x).log.length = 8 ∧
          ((s x .compare 8).axis x).lossReported = false ∧
          ∀ g ∈ allGens, ((s x .compare 7).gen g).state ≠ .searching) ∧
      Encoder.ea.axis = .a ∧ (s .a .marker 7).lines.marker .ea ≠ true ∧ CaptureEdge.rising.takes true = true ∧
      (s .a (.ref .ref3) 7).lines.ref .ref3 ≠ true :=
  ⟨fun _ => ⟨rfl, rfl⟩, by decide +kernel⟩

/-! ### Witnesses: events at the generators -/

/-- For GvStepMovesAxisV: GV and a LINEAR axis V one count below their bounds, and a ROTARY axis V at the end of the last
turn but one. -/
theorem witness_gv_step :
    wide.Lawful ∧ (wide.gen .gv).state = .running ∧
      (wide.gen .gv).current = some (started 5 (.velocity .up 200 2000 100 100 none) none .up) ∧
      (wide.gen .gv).counter < 2000000000 ∧ (wide.axis .v).mode = .linear ∧ (wide.axis .v).status = .counting ∧
      (wide.axis .v).position + 1 ≤ 2000000000 ∧
      (let s := wide.modAxis .v fun v => { v with mode := .rotary, cycle := 16, position := 15, turn := 32766 }
       s.Lawful ∧ (s.axis .v).mode = .rotary ∧ (s.axis .v).turn < 32767 ∧ (s.gen .gv).state = .running) :=
  ⟨wide_lawful, by decide +kernel, by decide +kernel, by decide +kernel, by decide +kernel, by decide +kernel,
    by decide +kernel, State.lawful_of_check (by decide +kernel), by decide +kernel⟩

/-- For the other steps of GvStepMovesAxisV: one of a search, one of a backlog, and the last one of a move. -/
theorem witness_gv_other_steps :
    let s (n : Generator) : State := { wide with gens := { wide.gens with gv := n } }
    let follows : CurrentMove := started 9 (.follow .a 1 1 (some 7)) (some 2) .up
    let backlog := s { inMotion .following none 0 0 follows with rampLeft := none, backlog := 1, backlogDir := .down }
    let last := s (inMotion .running (some .rampDown) 200 0 (started 1 (position 5000) (some 1) .up))
    (creeping.Lawful ∧ backlog.Lawful ∧ last.Lawful) ∧
      ((creeping.gen .gv).state = .searching ∧ (creeping.gen .gv).counter = -9 ∧
        (creeping.gen .gv).current.bind (fun m => m.search.map fun r => (r.steps, r.motion)) = some (9, .down) ∧
        (homeFields 100000).limit = 100000 ∧ (creeping.axis .v).status = .counting ∧
        (creeping.axis .v).mode = .linear) ∧
      ((backlog.gen .gv).state = .following ∧ (backlog.gen .gv).current = some follows ∧
        follows.record.kind.code = 2 ∧ 0 < (backlog.gen .gv).backlog ∧ (backlog.gen .gv).backlogDir = .down) ∧
      (last.gen .gv).queue = [] ∧ (last.gen .gv).current.bind CurrentMove.remaining = some 1 :=
  ⟨⟨creeping_lawful, State.lawful_of_check (by decide +kernel), State.lawful_of_check (by decide +kernel)⟩,
    by decide +kernel⟩

/-- The step of a search of GV moves axis V against the motion that the step counter takes where its sense is INVERTED. -/
theorem test_gv_search_step_moves_v :
    let s := { creeping with gens := { creeping.gens with gv := { creeping.gens.gv with sense := .inverted } } }
    let t := after (.generatorStep .gv) s
    ((t.gen .gv).counter, (t.axis .v).position, (t.axis .v).direction) = (-10, 2000000000, .forward) := by
  decide +kernel

/-- For LastStepCompletesPositionMove. -/
theorem witness_last_step :
    full.Lawful ∧ (full.gen .g1).state = .running ∧
      (full.gen .g1).current = some (started 1 (position 5000) (some 1) .up) ∧ (full.gen .g1).queue = [] ∧
      (full.claim (.generator .g1)).state = .held ∧ (full.gen .g1).counter < 2000000000 ∧
      (started 1 (position 5000) (some 1) .up).record.kind.code = 0 :=
  ⟨full_lawful, by decide +kernel⟩

/-- For the other moves of LastStepCompletesPositionMove: a VELOCITY and a FOLLOW move at the last step of their limits. -/
theorem witness_last_step_of_a_limit :
    let v := started 1 (.velocity .up 200 2000 100 100 (some 90)) (some 1) .up
    let f := started 9 (.follow .a 1 1 (some 7)) (some 1) .up
    let s : State :=
      { wide with
        gens :=
          { wide.gens with
            g1 := inMotion .running (some .rampDown) 200 50 v
            g2 := { inMotion .following none 0 0 f with rampLeft := none, backlog := 3, backlogDir := .down } } }
    s.Lawful ∧
      ((s.gen .g1).state = .running ∧ v.record.kind.code = 1 ∧ (s.gen .g1).current = some v ∧ v.remaining = some 1) ∧
      ((s.gen .g2).state = .following ∧ f.record.kind.code = 2 ∧ 0 < (s.gen .g2).backlog ∧ (s.gen .g2).current = some f ∧
        f.remaining = some 1 ∧ (s.gen .g2).counter = 0) ∧
      ∀ g ∈ [GenId.g1, .g2], (s.gen g).queue = [] ∧ (s.claim (.generator g)).state = .held :=
  ⟨State.lawful_of_check (by decide +kernel), by decide +kernel⟩

/-- For StepOutOfRangeEndsTheMove: RUNNING at the upper bound, STOPPING at the lower. -/
theorem witness_out_of_range :
    full.Lawful ∧ (full.gen .g2).state = .running ∧ (full.gen .g2).counter = 2000000000 ∧
      (full.gen .g2).current = some (started 2 (position 5000) (some 5) .up) ∧ (full.gen .gv).state = .stopping ∧
      (full.gen .gv).counter = -2000000000 ∧
      (full.gen .gv).current = some (started 3 (.velocity .down 200 2000 100 100 none) none .down) :=
  ⟨full_lawful, by decide +kernel⟩

/-- For the source events of StepMovesCounterAndLines: a backlog that comes to 64, and one that would come to 65 with
the holder's queue empty. -/
theorem witness_source_events :
    followers.Lawful ∧ quadrature (followers.lines.pair .ea) { phase1 := true, phase2 := false } = some .forward ∧
      (∀ g ∈ [GenId.g1, .g2],
        (followers.gen g).state = .following ∧
          (followers.gen g).current = some (started 9 (.follow .a 1 1 none) none .up) ∧
          followers.holds .p1 (.generator g) = true) ∧
      (followers.gen .g1).backlog + 1 = 64 ∧ (followers.gen .g2).backlog + 1 = 65 ∧ followers.compareList .a = [] ∧
      (followers.port .p1).notices.items.length ≤ 12 :=
  ⟨followers_lawful, by decide +kernel⟩

/-- For StepMovesCounterAndLines: two steps left on a POSITION move, the last step a search may take, and the last
step of a backlog. -/
theorem witness_steps :
    let n := inMotion .running (some .cruise) 2000 1999999999 (started 1 (position 5000) (some 2) .up)
    let h := searching .seek false 3000 (-1999999999) 19999 20000
    let f := { inMotion .following none 0 1999999999 (started 9 (.follow .a 2 3 none) none .up) with backlog := 1 }
    (n.current = some (started 1 (position 5000) (some 2) .up) ∧ (∀ k, some 2 = some k → 2 ≤ k) ∧
        n.counter < 2000000000 ∧ (started 1 (position 5000) (some 2) .up).search = none) ∧
      (h.state = .searching ∧ h.counter > -2000000000 ∧
        h.current.bind (fun m => m.search.map SearchRecord.steps) = some 19999) ∧
      f.state = .following ∧ 0 < f.backlog ∧ f.counter < 2000000000 :=
  ⟨⟨rfl, fun k h => by cases h; decide, by decide, rfl⟩, by decide, by decide⟩

/-- For RampTimerFollowsTheProfile: at v = 4000, s = 200 and d = 200 the braking distance is 40 steps (R95); and
the other states are those of inMotion. -/
theorem witness_ramp :
    (40 : Nat) ≤ ⌈(((4000 : Nat) : ℚ) ^ 2 - ((200 : Nat) : ℚ) ^ 2) / (2 * ((200 : Nat) : ℚ) * 1000)⌉₊ ∧
      ¬(41 : Nat) ≤ ⌈(((4000 : Nat) : ℚ) ^ 2 - ((200 : Nat) : ℚ) ^ 2) / (2 * ((200 : Nat) : ℚ) * 1000)⌉₊ ∧
      (let n := inMotion .running (some .cruise) 4000 0 (started 2 (position 5000) (some 40) .up)
       n.state = .running ∧ n.rampLeft = some 0 ∧ n.current = some (started 2 (position 5000) (some 40) .up) ∧
         n.endByNext = false) ∧
      (let v := { inMotion .running (some .cruise) 301 0 (started 1 (.velocity .up 200 2000 100 100 none) none .up) with endByNext := true }
       v.state = .running ∧ v.rampLeft = some 0 ∧ v.endByNext = true ∧ 200 + 100 < v.speed ∧
         v.current = some (started 1 (.velocity .up 200 2000 100 100 none) none .up)) ∧
      (homeFields 100).creepSpeed + (homeFields 100).decel = 600 ∧
      ((searching .seek true 600 0 9 100).state = .searching ∧ (searching .seek true 600 0 9 100).speed = 600 ∧
        (searching .seek true 601 0 9 100).speed = 601 ∧
        (searching .seek false 3000 0 9 100).current.bind (fun m => m.search.map SearchRecord.found) = some false) := by
  refine ⟨?_, ?_, by decide, by decide, by decide, by decide⟩
  · exact Nat.lt_ceil.mpr (by norm_num)
  · rw [not_le, Nat.lt_succ_iff, Nat.ceil_le]; norm_num

/-- G1 in a superseded VELOCITY move with a distance limit, at the greatest speed from which it ends, with records waiting. -/
def superseded (queue : List MoveRecord) : State :=
  { wide with
    gens :=
      { wide.gens with
        g1 :=
          { inMotion .running (some .rampDown) 300 50 (started 1 (.velocity .up 200 2000 100 100 (some 90)) (some 7) .up) with
            endByNext := true, queue := queue } } }

/-- The records that the heads of a queue stand for in Generator.Follows: one that waits for its trigger, a DWELL move and a
VELOCITY move. -/
def heads : List MoveRecord :=
  [{ tag := 2, start := .onTrigger, kind := position 5 }, { tag := 3, start := .immediate, kind := .dwell 8 },
    { tag := 4, start := .immediate, kind := .velocity .down 200 2000 100 100 none }]

/-- For the VELOCITY moves with a distance limit of RampTimerFollowsTheProfile, and for their end with each head of the
queue, and with none. -/
theorem witness_superseded :
    (∀ q ∈ [] :: heads.map fun r => [r],
        (superseded q).check = true ∧ ((superseded q).gen .g1).queue = q ∧
          (superseded q).holds .p1 (.generator .g1) = true ∧ ((superseded q).port .p1).notices.items.length < 23) ∧
      (let n := (superseded []).gen .g1
       n.state = .running ∧ n.rampLeft = some 0 ∧ n.endByNext = true ∧ n.speed = 200 + 100 ∧ n.pendingTrigger = false ∧
         n.counter < 2000000000 ∧ n.current = some (started 1 (.velocity .up 200 2000 100 100 (some 90)) (some 7) .up)) ∧
      let n := { (superseded []).gen .g1 with endByNext := false }
      n.state = .running ∧ n.endByNext = false ∧ n.current.bind CurrentMove.remaining = some 7 ∧ 200 ≤ n.speed := by
  decide +kernel

/-- R97: at the start speed a superseded move ends, and the next one starts with its first step. -/
theorem test_superseded_move_ends :
    let t := after (.rampTimerExpiry .g1) (superseded (heads.drop 2))
    (noticesOf t .p1, (t.gen .g1).speed, (t.gen .g1).counter) =
      ([.moveEnded .g1 1 (.velocity .up 200 2000 100 100 (some 90)) .endedByNext 50 true none,
          .moveStarted .g1 4 (.velocity .down 200 2000 100 100 none) 50 false none],
        200, 49) := by
  decide +kernel

/-- For StoppingGeneratorSlowsToItsFloor: one above the boundary, and at it. -/
theorem witness_stopping :
    creeping.Lawful ∧
      ((creeping.gen .g1).state = .stopping ∧ (creeping.gen .g1).rampLeft = some 0 ∧
        (creeping.gen .g1).current = some (started 3 (.velocity .up 200 2000 100 100 none) none .up) ∧
        200 + (creeping.gen .g1).stopDecel < (creeping.gen .g1).speed) ∧
      full.Lawful ∧ (full.gen .gv).state = .stopping ∧ (full.gen .gv).rampLeft = some 0 ∧
      (full.gen .gv).speed = 200 + (full.gen .gv).stopDecel :=
  ⟨creeping_lawful, by decide +kernel, full_lawful, by decide +kernel⟩

/-- For the last step of StoppingGeneratorSlowsToItsFloor: a POSITION move one step from its target, at the bound of the
counter. -/
theorem witness_stopping_at_target :
    let m := started 1 (position 5000) (some 1) .up
    let s := { wide with gens := { wide.gens with g1 := { inMotion .stopping none 250 1999999999 m with stopRate := some .stop } } }
    s.Lawful ∧ (s.gen .g1).state = .stopping ∧ (s.gen .g1).current = some m ∧ m.record.kind.code = 0 ∧ m.search = none ∧
      m.remaining = some 1 ∧ (s.gen .g1).counter < 2000000000 ∧ s.holds .p1 (.generator .g1) = true ∧
      (s.port .p1).notices.items.length < 24 ∧
      noticesOf (after (.generatorStep .g1) s) .p1 =
        [.moveEnded .g1 1 (position 5000) .stopped 2000000000 true none] :=
  ⟨State.lawful_of_check (by decide +kernel), by decide +kernel⟩

/-- The record of a DWELL move of 1 ms. -/
def rawDwell : RawMove :=
  { tag := 4, kind := 3, start := 0, at4 := 0, at5 := 0x00010000, at9 := 0, at13 := 0, at17 := 0, at19 := 0, at21 := 0,
    at25 := 0, at26 := 0, at27 := 0 }

/-- For DwellMoveWaitsItsTime: an IDLE generator and one in DWELLING whose timer has run out. -/
theorem witness_dwell :
    wide.Lawful ∧ wide.ServesSession .p1 7 ∧
      (genOf 0x10 = some .g1 ∧ wide.holds .p1 (.generator .g1) = true ∧ (wide.gen .g1).state = .idle ∧
        moveOf .g1 (wide.gen .g1).maxRate rawDwell = some { tag := 4, start := .immediate, kind := .dwell 1 }) ∧
      genOf 0x11 = some .g2 ∧ wide.holds .p1 (.generator .g2) = true ∧ (wide.gen .g2).state = .dwelling ∧
      (wide.gen .g2).dwellLeft = some 0 ∧ (wide.gen .g2).current = some (started 4 (.dwell 100) none .up) ∧
      (wide.gen .g2).queue = [] ∧ (wide.claim (.generator .g2)).state = .held ∧
      (moveOf .g2 (wide.gen .g2).maxRate rawDwell).isSome = true :=
  ⟨wide_lawful, wide_serves .p1, by decide +kernel⟩

/-- The record of the search to REF2 and MKA. -/
def rawHome : RawMove :=
  { tag := 7, kind := 4, start := 0, at4 := 1, at5 := 0, at9 := 300, at13 := 3000, at17 := 150, at19 := 300, at21 := 100000,
    at25 := 2, at26 := 0x18, at27 := 1 }

/-- For the start in FinalEdgeCompletesTheSearch: the line low, and the line high. -/
theorem witness_search_start :
    let high : State := { wide with lines := { wide.lines with ref2 := true } }
    (wide.Lawful ∧ wide.ServesSession .p1 7) ∧ (high.Lawful ∧ high.ServesSession .p1 7 ∧ high.lines.ref .ref2 = true) ∧
      genOf 0x10 = some .g1 ∧ wide.holds .p1 (.generator .g1) = true ∧ (wide.gen .g1).state = .idle ∧
      moveOf .g1 (wide.gen .g1).maxRate rawHome =
        some { tag := 7, start := .immediate, kind := .home (homeFields 100000) } ∧
      (wide.gen .g1).counter < 2000000000 ∧ wide.lines.ref .ref2 = false :=
  ⟨⟨wide_lawful, wide_serves .p1⟩,
    ⟨State.lawful_of_check (by decide +kernel), State.servesSession_of_check (by decide +kernel), by decide +kernel⟩,
    by decide +kernel⟩

/-- A search as a test looks at it: phase, found mark, speed, steps, and the marker count of its record. -/
structure SearchView where
  phase : SearchPhase
  found : Bool
  speed : Nat
  steps : Nat
  markers : Nat
  deriving DecidableEq, Repr

/-- The search that a generator runs. -/
def searchOf (s : State) (g : GenId) : Option SearchView :=
  (s.gen g).current.bind fun m => m.search.map fun r =>
    ⟨r.phase, r.found, (s.gen g).speed, r.steps, match m.record.kind with | .home f => f.markerCount | _ => 99⟩

/-- For the edges of CLEARING and SEEK in FinalEdgeCompletesTheSearch, the counting of markers, and the search limit. -/
theorem witness_search_edges :
    (searchingHigh.Lawful ∧ searchingHigh.lines.ref .ref2 = true ∧
        searchOf searchingHigh .g1 = some ⟨.clearing, false, 300, 9, 1⟩ ∧
        searchOf searchingHigh .g2 = some ⟨.seek, true, 301, 9, 0⟩ ∧
        searchOf searchingHigh .gv = some ⟨.seek, true, 301, 9, 1⟩) ∧
      searchingLow.Lawful ∧ searchingLow.lines.ref .ref2 = false ∧ searchingLow.lines.marker .ea = false ∧
      searchOf searchingLow .g1 = some ⟨.seek, false, 300, 9, 1⟩ ∧
      searchOf searchingLow .g2 = some ⟨.creep, true, 300, 9, 2⟩ ∧
      searchOf searchingLow .gv = some ⟨.seek, false, 301, (homeFields 100000).limit, 1⟩ ∧
      (searchingLow.gen .gv).current.bind CurrentMove.remaining = none ∧ (homeFields 100000).creepSpeed = 300 ∧
      ∀ g ∈ allGens, (searchingHigh.gen g).state = .searching ∧ (searchingLow.gen g).state = .searching :=
  ⟨⟨searchingHigh_lawful, by decide +kernel⟩, searchingLow_lawful, by decide +kernel⟩

/-- For the end of CREEP in FinalEdgeCompletesTheSearch: both ways. -/
theorem witness_final_edge :
    creeping.Lawful ∧
      ((creeping.gen .g2).state = .searching ∧ (creeping.gen .g2).queue = [] ∧ creeping.lines.ref .ref2 = true ∧
        ∃ m f r, (creeping.gen .g2).current = some m ∧ m.record.kind = .home f ∧ m.search = some r ∧
          r.phase = .creep ∧ f.line = .ref2 ∧ f.markerCount = 0) ∧
      (creeping.gen .gv).state = .searching ∧ (creeping.gen .gv).queue = [] ∧ creeping.lines.marker .ea = false ∧
      ∃ m f r, (creeping.gen .gv).current = some m ∧ m.record.kind = .home f ∧ m.search = some r ∧
        r.phase = .creep ∧ f.markerAxis = some .ea ∧ f.markerCount = 1 ∧ r.markers + 1 = f.markerCount :=
  ⟨creeping_lawful, ⟨rfl, rfl, rfl, _, _, _, rfl, rfl, rfl, rfl, rfl, rfl⟩, rfl, rfl, rfl, _, _, _, rfl, rfl, rfl, rfl,
    rfl, rfl, rfl⟩

/-! ### Witnesses: outputs, halt, sessions and the link -/

/-- For PulseExpiryClearsTheOverlay. -/
theorem witness_pulse_expiry :
    (State.channel { wide with channels := wide.channels.set 5 { Channel.cold false with overlay := .high, pulse := some 0 } } 5).pulse =
      some 0 := by
  decide +kernel

/-- For HaltLineEventsReachEveryReceiver: CLEAR, LATCHED and ACTIVE, each with a subscriber. -/
theorem witness_halt_lines :
    ((subscribed wide).Lawful ∧ (subscribed haltActive).Lawful ∧ (subscribed haltLatched).Lawful) ∧
      ((subscribed wide).halt = .clear ∧ (subscribed haltLatched).halt = .latched ∧ (subscribed haltActive).halt = .active) ∧
      ∀ s ∈ [subscribed wide, subscribed haltLatched, subscribed haltActive],
        (s.session .p1).isOpen = true ∧ (s.session .p1).subs.haltChanged = true ∧
          (s.completeHandOver.port .p1).notices.items.length ≤ 16 :=
  ⟨subscribed_lawful, by decide +kernel, by decide +kernel⟩

/-- For the same: an assertion while a clear is handed on, a release while an entry is, and a Clear Halt that waits. -/
theorem witness_hand_over :
    (clearingBeside.Lawful ∧ (subscribed handingOn).Lawful) ∧
      (clearingBeside.halt = .clear ∧ clearingBeside.handing ≠ [] ∧ clearingBeside.clearing = some .p1 ∧
        (clearingBeside.port .p1).intake = { seq := 9, request := .clearHalt } :: []) ∧
      ((subscribed handingOn).halt = .active ∧ (subscribed handingOn).handing ≠ []) ∧
      (∀ s ∈ [clearingBeside, subscribed handingOn], s.pending = []) ∧
      ∀ s ∈ [clearingBeside, subscribed handingOn],
        (s.session .p1).isOpen = true ∧ (s.session .p1).subs.haltChanged = true ∧
          (s.completeHandOver.port .p1).notices.items.length ≤ 16 :=
  ⟨⟨clearingBeside_lawful, handingOn_lawful⟩, by decide +kernel, by decide +kernel, by decide +kernel, by decide +kernel⟩

/-- For the entry into halt of HaltLineEventsReachEveryReceiver: a generator above its floor, one in STOPPING, and those
whose move ends, with room for the notice. -/
theorem witness_halt_entry :
    (full.Lawful ∧ armed.Lawful ∧ followers.Lawful ∧ wide.Lawful) ∧
      (∀ s ∈ [full, armed, followers, wide], s.halt = .clear ∧ (s.completeHandOver.port .p1).notices.items.length ≤ 16) ∧
      ((full.gen .g1).haltTaken.state = .stopping ∧ (full.gen .g1).haltTaken.speed = 201 ∧
        (full.gen .gv).haltTaken.stopRate = some .halt) ∧
      (∀ s ∈ [armed, followers],
        (s.completeHandOver.gen .g1).current.isSome = true ∧ (s.completeHandOver.gen .g1).haltTaken.state = .halted ∧
          s.completeHandOver.holds .p1 (.generator .g1) = true) ∧
      (wide.gen .g1).haltTaken.state = .halted ∧ (wide.gen .g2).haltTaken.state = .halted :=
  ⟨⟨full_lawful, armed_lawful, followers_lawful, wide_lawful⟩, by decide +kernel, by decide +kernel, by decide +kernel,
    by decide +kernel⟩

/-- For SessionEndLeavesNothing: a lease run out, a line at mark with a holder of every kind of resource, another session
with the notice, and the response to Close Session in transmission. -/
theorem witness_session_ends :
    (wide.Lawful ∧ (wide.session .p3).isOpen = true ∧ (wide.session .p3).leaseLeft = some 0) ∧
      ((subscribed wide).Lawful ∧ ((subscribed wide).session .p1).isOpen = true ∧
        ((subscribed wide).port .p1).atSpace = false ∧ ((subscribed wide).session .p2).isOpen = true ∧
        ((subscribed wide).session .p2).subs.sessionEnded = true ∧
        ((subscribed wide).port .p2).notices.items.length < 24) ∧
      closing.Lawful ∧ (closing.session .p1).isOpen = true ∧
      (closing.port .p1).intake = [{ seq := 7, request := .closeSession }] ∧
      (closing.port .p1).tx = some { kind := .response true, bytes := [] } :=
  ⟨⟨wide_lawful, by decide +kernel⟩, ⟨subscribed_lawful.1, by decide +kernel⟩, closing_lawful, by decide +kernel⟩

/-- What GaveBack says is met where Port 1 of that state ends: windows, outputs, axis, and each sort of generator. -/
theorem test_break_gives_back :
    let t := after (.linkBreak .p1) wide
    (t.claim (.output 0)).owner = some .p2 ∧ t.slots[0].status = .free ∧ (t.claim (.axis .a)).state = .free ∧
      (t.gen .g2).state = .idle ∧ (t.claim (.generator .g2)).state = .free ∧ (t.gen .gv).state = .stopping ∧
      t.claim (.generator .gv) = { state := .releasing, owner := none, former := 3, waiters := [] } := by
  decide +kernel

/-- For the transmit line of ReceiverTakesEachByte: both ways, and the last bit times of the first character and the first of
the second (R175). -/
theorem witness_transmit_line :
    (State.reset.port .p1).tx = none ∧
      let q : Port := { State.reset.port .p1 with tx := some { kind := .notice 1, bytes := [0xC7, 0x53] } }
      q.tx = some { kind := .notice 1, bytes := [0xC7, 0x53] } ∧ ([0xC7, 0x53] : List Byte)[1]? = some 0x53 ∧
        [7, 8, 9, 10, 11, 19, 20].map q.transmitLevel = [.mark, .mark, .mark, .space, .mark, .mark, .mark] := by decide

/-- R80: a pulse that is due reads as running with 1 ms left. -/
theorem test_due_pulse_reads_one :
    let s := State.reset.arrive 3 fun c => { c with overlay := .high, pulse := some 0 }
    s.channelBytes 3 = [0x04, 0x03, 0x00, 0x01] := by decide

/-- For ReceiverTakesEachByte: each state of the receiver can stand on a port at mark; a character without a stop bit. -/
theorem witness_receiver (rx : Receiver) :
    let q := (State.reset.modPort .p1 fun q => { q with rx := rx }).port .p1
    q.atSpace = false ∧ q.rx = rx ∧ (List.replicate 10 SerialLevel.space).length = 10 ∧
      (List.replicate 10 SerialLevel.space)[9]? = some .space :=
  ⟨rfl, rfl, rfl, rfl⟩

/-- For CompleteFrameIsJudged: the CRC bytes of a frame of Renew, and of one that is a response. -/
theorem witness_complete_frame :
    let high (type : Byte) : Byte := (crc16 [type, 7, 1, 0x03]).extractLsb' 8 8
    let low (type : Byte) : Byte := (crc16 [type, 7, 1, 0x03]).extractLsb' 0 8
    (let q := (State.reset.modPort .p1 fun q => { q with rx := .checkLow 0x51 7 1 [0x03] (high 0x51) }).port .p1
     q.atSpace = false ∧ q.rx = .checkLow 0x51 7 1 [0x03] (high 0x51)) ∧
      crc16 [0x51, 7, 1, 0x03] = high 0x51 ++ low 0x51 ∧ crc16 [0x51, 7, 1, 0x03] ≠ high 0x51 ++ (low 0x51 + 1) ∧
      crc16 [0x52, 7, 1, 0x03] = high 0x52 ++ low 0x52 ∧
      (Instr.renew .p1 7).asRequest = some (.p1, 7, Request.ofBody [0x03]) := by
  decide +kernel

/-- For FrameBytesDeliverTheirRequest. -/
theorem witness_frame_bytes :
    (State.reset.port .p1).atSpace = false ∧ (State.reset.port .p1).rx = .hunt ∧
      (Instr.readHalt .p1 9).asRequest = some (.p1, 9, Request.ofBody [0x70]) := by
  decide +kernel

/-- For LinkBreakEmptiesThePort: a line at space, and a line at mark on a port without a session. -/
theorem witness_link_break :
    ((State.reset.modPort .p1 fun q => { q with atSpace := true }).port .p1).atSpace = true ∧
      (State.reset.port .p1).atSpace = false ∧ (State.reset.session .p1).isOpen = false := by
  decide +kernel

/-- For TransmitterEndsAndResends: idle, a response waiting behind a notice, a response ending with none and with one
request held behind it, a timer that runs out now under a frame and on an idle transmitter, and one due in 2^31 ms. -/
theorem witness_transmitter :
    let r : Response := { seq := 7, body := [0x03, 0x00], closes := false }
    let behind := (wide.modPort .p2 fun q => { q with waiting := some r }).port .p2
    let ends (held : List Intake) := (wide.modPort .p1 fun q =>
      { q with
        intake := { seq := 7, request := .renew } :: held
        tx := some { kind := .response false, bytes := [] } }).port .p1
    let idle := (wide.modPort .p2 fun q => { q with tx := none }).port .p2
    (wide.port .p1).tx = none ∧
      (behind.tx = some { kind := .notice 44, bytes := [] } ∧
        TxFrame.answersHead { kind := .notice 44, bytes := [] } = false ∧ behind.waiting = some r) ∧
      (∀ held, (ends held).tx = some { kind := .response false, bytes := [] } ∧ (ends held).waiting = none ∧
        (ends held).intake = { seq := 7, request := .renew } :: held) ∧
      ((wide.port .p2).notices.resendAt = some 260 ∧ (wide.port .p2).tx.isSome = true ∧
        ((260 : Word) - 260).toNat < 2147483648 ∧ 2147483648 ≤ ((0 : Word) - 2147483648).toNat) ∧
      idle.tx = none ∧ idle.waiting = none ∧ idle.session.isOpen = true ∧ idle.session.closing = false ∧
      idle.notices.items = notice 44 (some 10) :: [notice 45 none] :=
  ⟨by decide +kernel, by decide +kernel, fun _ => ⟨rfl, rfl, rfl⟩, by decide +kernel, by decide +kernel⟩

/-- For the notices at the end of a frame in TransmitterEndsAndResends: one UNSENT behind a SENT one, the window with one
place left and full, and no session. -/
theorem witness_notice_ends :
    let q := wide.port .p2
    let behind (k : Nat) : List Notice := (List.range k).map fun i => notice (i + 1) (some 10)
    (q.tx = some { kind := .notice 44, bytes := [] } ∧ q.waiting = none) ∧
      (q.notices.items = [notice 44 (some 10)] ++ [notice 45 none] ++ [] ∧ q.session.isOpen = true ∧
        q.session.closing = false ∧ [notice 44 (some 10)].length < 8) ∧
      (behind 7).length < 8 ∧ (∀ n ∈ behind 7, n.sentAt.isSome = true) ∧
      8 ≤ ((behind 8 ++ [notice 9 none]).filter fun n => n.sentAt.isSome).length ∧
      (State.reset.session .p1).isOpen = false := by
  decide +kernel

/-- R184, R168: at the end of a notice frame the oldest UNSENT notice starts, and the resend timer stands (R171). -/
theorem test_next_notice_starts :
    let q := (after (.frameEnd .p2) wide).port .p2
    (q.tx.map TxFrame.kind, q.notices.items.map Notice.sentAt, q.notices.resendAt) =
      (some (.notice 45), [some 10, some 0], some 260) := by
  decide +kernel

/-! ### Witnesses: requests -/

/-- For CommonChecksComeFirst: an unlisted code, a listed one of a wrong length, a port without a session and one with. -/
theorem witness_common_checks :
    (∀ p, State.reset.Serves p 7) ∧ (State.reset.session .p1).isOpen = false ∧ wide.Serves .p1 7 ∧
      (wide.session .p1).isOpen = true ∧ requestLength 0x80 = none ∧ requestLength 0x03 = some 1 ∧
      (1 : Nat) ≠ [(0 : Byte)].length + 1 ∧ (Instr.renew .p1 7).asRequest = some (.p1, 7, .renew) ∧
      Request.code .renew ≠ 0x01 ∧ Request.code .renew ≠ 0x04 :=
  ⟨reset_serves, by decide +kernel, (wide_serves .p1).toServes, by decide +kernel⟩

/-- For RefusedRequestsChangeNothing: a holder's request, and a Clear Halt while an entry is handed on. -/
theorem witness_refused :
    ((subscribed handingOn).Serves .p1 7 ∧ (Instr.clearHalt .p1 7).asRequest = some (.p1, 7, .clearHalt) ∧
        Request.clearHalt ≠ .closeSession) ∧
      wide.Serves .p2 7 ∧ (Instr.clearOverlay .p2 7 0).asRequest = some (.p2, 7, .clearOverlay 0) ∧
      Request.clearOverlay 0 ≠ .closeSession :=
  ⟨⟨handingOn_serves.toServes, by decide, by decide⟩, (wide_serves .p2).toServes, by decide, by decide⟩

/-- For QueuedAndRepeatedRequestsAreNotTaken: one request held, two held, and a SEQ in the cache. -/
theorem witness_queued :
    let one : Intake := { seq := 6, request := .renew }
    let s (l : List Intake) := wide.modPort .p1 fun q => { q with intake := l, cache := some { seq := 7, body := [0x03, 0x00] } }
    (Instr.renew .p1 7).asRequest = some (.p1, 7, .renew) ∧ ((s [one]).port .p1).intake = [one] ∧
      ((s [one, one]).port .p1).intake = [one, one] ∧ ((s []).port .p1).intake = [] ∧
      ((s []).port .p1).cache = some { seq := 7, body := [0x03, 0x00] } ∧ ((s []).port .p1).atSpace = false := by
  decide +kernel

/-- For SessionOpensAndCloses: the bounds of station and lease, with the station free and in use. -/
theorem witness_session_opens :
    (∀ p, State.reset.Serves p 7) ∧ (State.reset.session .p1).isOpen = false ∧ (15 : Byte).toNat = 15 ∧
      (50 : Half).toNat = 50 ∧ (5000 : Half).toNat = 5000 ∧ (subscriptionsOf 15).isSome = true ∧
      (¬∃ q, q ≠ .p1 ∧ (State.reset.session q).isOpen = true ∧ (State.reset.session q).station = 15) ∧
      (opened .p2 15 .reset).Serves .p1 7 ∧ ((opened .p2 15 .reset).session .p1).isOpen = false ∧
      ((opened .p2 15 .reset).session .p2).isOpen = true ∧ ((opened .p2 15 .reset).session .p2).station = 15 ∧
      wide.ServesSession .p1 7 :=
  ⟨reset_serves, rfl, rfl, rfl, rfl, rfl, fun ⟨q, _, h, _⟩ => by cases q <;> exact absurd h (by decide +kernel),
    State.serves_of_check (by decide +kernel), rfl, rfl, rfl, wide_serves .p1⟩

/-- For SessionUpkeepRequests: the last set of subscriptions and the first that is none. -/
theorem witness_upkeep :
    wide.ServesSession .p1 7 ∧ (subscriptionsOf 15).isSome = true ∧ 16 ≤ (16 : Byte).toNat :=
  ⟨wide_serves .p1, by decide⟩

/-- For AcknowledgeRemovesSentNotices: a sent notice, an unsent one, one that has left, none, and the next. -/
theorem witness_acknowledge :
    wide.Lawful ∧ wide.ServesSession .p2 7 ∧ (wide.port .p2).tx.isSome = true ∧
      (wide.port .p2).notices.items = [] ++ [notice 44 (some 10)] ++ [notice 45 none] ∧
      (wide.port .p2).notices.items = [notice 44 (some 10)] ++ [notice 45 none] ++ [] ∧
      (∀ n ∈ (wide.port .p2).notices.items, n.number ≠ (43 : Half).toNat ∧ n.number ≠ (0 : Half).toNat ∧
        n.number ≠ (46 : Half).toNat) ∧
      (43 : Half).toNat < (wide.port .p2).notices.next ∧ (wide.port .p2).notices.wrapped = false ∧
      (wide.port .p2).notices.next = (46 : Half).toNat :=
  ⟨wide_lawful, wide_serves .p2, by decide +kernel⟩

/-- For ReleaseCleansUpAndHandsOver: an output with a waiter, a generator and an axis without, and a subscriber. -/
theorem witness_release :
    wide.Lawful ∧ wide.ServesSession .p1 7 ∧
      (resourceOf 0x00 = some (.output 0) ∧ wide.holds .p1 (.output 0) = true ∧
        (wide.claim (.output 0)).waiters = .p2 :: [] ∧ (wide.port .p2).notices.items.length < 24) ∧
      (resourceOf 0x10 = some (.generator .g1) ∧ wide.holds .p1 (.generator .g1) = true ∧ (wide.gen .g1).state = .idle) ∧
      (resourceOf 0x18 = some (.axis .a) ∧ wide.holds .p1 (.axis .a) = true) ∧
      ((subscribed wide).Lawful ∧ (subscribed wide).ServesSession .p1 7) ∧
      ((subscribed wide).claim (.axis .a)).waiters = [] ∧ ((subscribed wide).session .p1).subs.claimFreed = true ∧
      ((subscribed wide).port .p1).notices.items.length < 24 ∧
      ∀ x ∈ allAxes, ∀ e ∈ (subscribed wide).compareList x, ¬(e.owner = .p1 ∧ e.action.resource = some (.axis .a)) :=
  ⟨wide_lawful, wide_serves .p1, by decide +kernel, by decide +kernel, by decide +kernel,
    ⟨subscribed_lawful.1, State.servesSession_of_check (by decide +kernel)⟩, by decide +kernel⟩

/-- For the withdrawn entries of ReleaseCleansUpAndHandsOver: one entry of the caller acts on the output, and its queue has
room for the notice; a window of another output. -/
theorem witness_release_withdraws :
    let acts (e : CompareEntry) : Bool := decide (e.owner = .p1 ∧ e.action.resource = some (.output 0))
    entry 1 .p1 11999 .up (.outHigh 0) none ∈ wide.compareList .a ∧ acts (entry 1 .p1 11999 .up (.outHigh 0) none) = true ∧
      ((wide.compareList .a ++ wide.compareList .b ++ wide.compareList .v).filter acts).length = 1 ∧
      (wide.port .p1).notices.items.length + 1 ≤ 24 ∧ Resource.output 0 ≠ .output wide.slots[2].output ∧
      noticesOf (after (.release .p1 7 0x00) wide) .p1 = [.compareWithdrawn 1 0x0101 .a 5 1999] := by
  decide +kernel

/-- For ClaimAndCancelWaitFollowTheRecord: each row of Table 8.2. -/
theorem witness_claims :
    let releasing := wide.setClaim (.generator .gv) { state := .releasing, owner := none, former := 3, waiters := [.p2, .p3] }
    (∀ p, wide.ServesSession p 7) ∧ releasing.ServesSession .p1 7 ∧
      (resourceOf 0x00 = some (.output 0) ∧ wide.holds .p1 (.output 0) = true) ∧
      (wide.holds .p2 (.output 0) = false ∧ (wide.claim (.output 0)).waiters.head? = some .p2) ∧
      (resourceOf 0x01 = some (.output 1) ∧ wide.holds .p3 (.output 1) = false ∧
        (wide.claim (.output 1)).waiters = [.p2, .p3]) ∧
      (resourceOf 0x02 = some (.output 2) ∧ (wide.claim (.output 2)).state = .free ∧
        PortId.p1 ∉ (wide.claim (.output 2)).waiters) ∧
      (wide.holds .p3 (.output 0) = false ∧ PortId.p3 ∉ (wide.claim (.output 0)).waiters ∧
        (wide.claim (.output 0)).state ≠ .free ∧ (wide.claim (.output 0)).waiters.length < 2) ∧
      resourceOf 0x12 = some (.generator .gv) ∧ releasing.holds .p1 (.generator .gv) = false ∧
      PortId.p1 ∉ (releasing.claim (.generator .gv)).waiters ∧
      2 ≤ (releasing.claim (.generator .gv)).waiters.length ∧ (releasing.claim (.generator .gv)).state ≠ .free :=
  ⟨wide_serves, State.servesSession_of_check (by decide +kernel), by decide +kernel⟩

/-- The fields of a Queue Compare on an axis at its first place, setting Q0 HIGH, repeating without limit. -/
def rawCompare (axis : Byte) : RawCompare :=
  { axis := axis, turn := 0, position := 0, crossing := 2, action := 1, argument := 0, width := 0, tag := 0, step := -1,
    remaining := 65535 }

/-- For HolderRequestsNeedTheClaim: a resource of each sort that another session holds. -/
theorem witness_holder_requests :
    wide.ServesSession .p2 7 ∧ (resourceOf 0x00 = some (.output 0) ∧ wide.holds .p2 (.output 0) = false) ∧
      (resourceOf 0x10 = some (.generator .g1) ∧ wide.holds .p2 (.generator .g1) = false) ∧
      resourceOf 0x18 = some (.axis .a) ∧ wide.holds .p2 (.axis .a) = false :=
  ⟨wide_serves .p2, by decide +kernel⟩

/-- For the requests of HolderRequestsNeedTheClaim that name an output, a slot or an action: the first and the last slot
FREE, one of another session's, and valid values of a Queue Compare. -/
theorem witness_named_resources :
    (outputOf 0x00 = some 0 ∧ axisOf 0x18 = some .a) ∧
      ((3 : Byte).toNat = 3 ∧ wide.slots[3].status = .free ∧ (47 : Byte).toNat = 47 ∧ wide.slots[47].status = .free ∧
        (0 : Byte).toNat = 0 ∧ Resource.output 0 = .output wide.slots[0].output) ∧
      crossingOf (rawCompare 0x18).crossing = some .either ∧ compareActionOf 1 0 0 = some (.outHigh 0) ∧
      CompareAction.resource (.outHigh 0) = some (.output 0) ∧ compareTargetOf (wide.axis .a) 0 0 = some 0 ∧
      compareRepeatOf (-1) 65535 = some (some { step := -1, remaining := 65535 }) := by
  decide +kernel

/-- Tables 2.3, 2.4 and 3.3: an invalid window copy does not come before the claim. -/
theorem test_requests_without_the_claim :
    let bad : RawWindow := { on := 5, off := 5, qualifier := 9, lead := 0 }
    answer (after (.defineWindow .p2 7 0x18 0x00 bad) wide) .p2 = some [0x30, 0x20] ∧
      answer (after (.editWindow .p2 7 0 bad) wide) .p2 = some [0x31, 0x32] ∧
      answer (after (.deleteWindow .p2 7 0) wide) .p2 = some [0x32, 0x32] ∧
      answer (after (.queueCompare .p2 7 (rawCompare 0x18)) wide) .p2 = some [0x40, 0x20] := by
  decide +kernel

/-- Table 12.6: a capture record with a negative velocity, of REF3. -/
theorem test_read_captures_bytes :
    let c : CaptureRecord := { source := .ref .ref3, position := 11999, velocity := -100, time := 0x01020304 }
    answer (after (.readCaptures .p1 7 0x18) (owned.modAxis .a fun a => { a with log := [c], lost := 2 })) .p1 =
      some [0x24, 0x00, 1, 0, 2, 4, 0, 0, 0, 0x2E, 0xDF, 0xFF, 0xFF, 0xFF, 0x9C, 1, 2, 3, 4] := by
  decide +kernel

/-- For AxisRequestsOfTheHolder: the bounds of cycle, gate and count, on an axis that is referred to and one that is not. -/
theorem witness_axis_requests :
    wide.ServesSession .p1 7 ∧ owned.ServesSession .p1 7 ∧ axisOf 0x18 = some .a ∧ wide.holds .p1 (.axis .a) = true ∧
      owned.holds .p1 (.axis .a) = true ∧ wide.axisReferred .a = true ∧ owned.axisReferred .a = false ∧
      axisModeOf 1 = some .rotary ∧ axisSenseOf .a 1 = some .inverted ∧ (16 : Word).toNat = 16 ∧
      (1048576 : Word).toNat = 1048576 ∧ (1000 : Half).toNat = 1000 ∧ axisSourceOf .a 0 = some .marker ∧
      edgeOf 2 = some .both ∧ (8 : Byte).toNat = 8 :=
  ⟨wide_serves .p1, State.servesSession_of_check (by decide +kernel), by decide +kernel⟩

/-- For PresetMovesTheAxisAlone: the last place of a cycle, and the bound of a line. -/
theorem witness_preset :
    wide.ServesSession .p1 7 ∧ owned.ServesSession .p1 7 ∧ axisOf 0x18 = some .a ∧ wide.holds .p1 (.axis .a) = true ∧
      owned.holds .p1 (.axis .a) = true ∧ (wide.axis .a).mode = .rotary ∧ (1999 : Word).toInt < (wide.axis .a).cycle ∧
      (owned.axis .a).mode = .linear ∧ (2000000000 : Word).toInt ≤ 2000000000 :=
  ⟨wide_serves .p1, State.servesSession_of_check (by decide +kernel), by decide +kernel⟩

/-- Generator GV after as many steps issued as four bytes hold. -/
def longRun : State :=
  wide.modGen .gv fun n => { n with current := n.current.map fun m => { m with issued := 4294967295 } }

/-- The event that fires the entry on output Q0 and shows on its channel, next in the queue. -/
def eventNext : State := { wide with pending := [.encoderTransition .ea true false, .haltAssertion] }

/-- For Read Outputs in ReadRequestsChangeNothing: an event that may come about while it reads changes a record; and some
receivers have still to take a halt change. -/
theorem witness_read_outputs :
    eventNext.ServesSession .p3 7 ∧
      eventNext.pending = .encoderTransition .ea true false :: [.haltAssertion] ∧
      (Instr.readOutputs .p3 7).asRequest = some (.p3, 7, .readOutputs) ∧
      (let u : State := { eventNext.received .p3 7 .readOutputs with choices := eventNext.choices + 1 }
       exec (.encoderTransition .ea true false) u = .next (after (.encoderTransition .ea true false) u)) ∧
      ((after (.encoderTransition .ea true false) (eventNext.received .p3 7 .readOutputs)).channel 0).overlay ≠
        (eventNext.channel 0).overlay ∧
      (subscribed handingOn).ServesSession .p1 7 ∧ (subscribed handingOn).pending = [] ∧
      (subscribed handingOn).handing ≠ [] :=
  ⟨State.servesSession_of_check (by decide +kernel), rfl, rfl, rfl, by decide +kernel, handingOn_serves, rfl,
    by decide +kernel⟩

/-- For ReadRequestsChangeNothing: the last slot, the last index, and the most steps issued that four bytes hold. -/
theorem witness_reads :
    wide.ServesSession .p3 7 ∧ axisOf 0x1A = some .v ∧ genOf 0x12 = some .gv ∧ (47 : Byte).toNat = (47 : Fin 48).val ∧
      (31 : Byte).toNat ≤ 31 ∧ (longRun.gen .gv).current.map CurrentMove.issued = some 4294967295 ∧
      longRun.ServesSession .p3 7 ∧ wide.pending = [] ∧ wide.handing = [] ∧
      ∀ k : OutputId, (wide.channel k).halt = false :=
  ⟨wide_serves .p3, by decide, by decide, by decide, by decide, by decide +kernel,
    State.servesSession_of_check (by decide +kernel), by decide +kernel⟩

/-- For WindowRequestsStage: the lowest FREE slot and slots in each state, on an axis without a pending commit of the
caller and on one with. -/
theorem witness_windows :
    wide.Lawful ∧ wide.ServesSession .p1 7 ∧
      (windowOf (wide.axis .a) { on := 0, off := 1999, qualifier := 2, lead := 10000 }).isSome = true ∧
      (windowOf (wide.axis .b) { on := 15, off := 0, qualifier := 0, lead := 0 }).isSome = true ∧
      wide.holds .p1 (.output 0) = true ∧ wide.holds .p1 (.output 1) = true ∧ wide.hasCommit .p1 .a = false ∧
      wide.hasCommit .p1 .b = true ∧ axisOf 0x18 = some .a ∧ outputOf 0 = some 0 ∧
      (wide.slots[3].status = .free ∧ ∀ j : Fin 48, j < 3 → wide.slots[j].status ≠ .free) ∧
      (wide.slots[1].status = .staged ∧ wide.slots[1].axis = .a ∧ wide.slots[1].output = 0) ∧
      (wide.slots[5].status = .live ∧ wide.slots[5].axis = .a ∧ wide.slots[5].output = 0) ∧
      (wide.slots[2].status = .retiring ∧ wide.slots[2].axis = .a ∧ wide.slots[2].output = 1) ∧
      wide.slots[4].status = .staged ∧ wide.slots[4].axis = .b ∧ wide.slots[4].output = 0 :=
  ⟨wide_lawful, wide_serves .p1, by decide +kernel⟩

/-- For CommitNowAppliesOwnWindows: three windows of the caller change. -/
theorem witness_commit_now :
    wide.Lawful ∧ wide.ServesSession .p1 7 ∧ axisOf 0x18 = some .a ∧ wide.hasCommit .p1 .a = false ∧
      noticesOf (after (.commitWindowsNow .p1 7 0x18) wide) .p1 = [.commitDone .a .now 3 11998] :=
  ⟨wide_lawful, wide_serves .p1, by decide +kernel⟩

/-- For PendingCommitsComeAndGo: a LINEAR axis, and ROTARY ones with and without a pending commit. -/
theorem witness_pending_commits :
    wide.ServesSession .p1 7 ∧ (axisOf 0x1A = some .v ∧ (wide.axis .v).mode = .linear) ∧
      (axisOf 0x19 = some .b ∧ (wide.axis .b).mode = .rotary ∧ wide.hasCommit .p1 .b = true) ∧ axisOf 0x18 = some .a ∧
      (wide.axis .a).mode = .rotary ∧ wide.hasCommit .p1 .a = false :=
  ⟨wide_serves .p1, by decide +kernel⟩

/-- For CompareRequestsKeepTheOrder: an axis in OVERRANGE, a full pool, room, an entry of the caller and an id of none. -/
theorem witness_compare_requests :
    (wide.Lawful ∧ full.Lawful ∧ wide.ServesSession .p1 7 ∧ full.ServesSession .p1 7) ∧
      (crossingOf 2 = some .either ∧ compareActionOf 1 0 0 = some (.outHigh 0) ∧
        (∀ r, CompareAction.resource (.outHigh 0) = some r → wide.holds .p1 r = true ∧ full.holds .p1 r = true) ∧
        compareRepeatOf (-1) 65535 = some (some { step := -1, remaining := 65535 })) ∧
      (axisOf (rawCompare 0x18).axis = some .a ∧ compareTargetOf (full.axis .a) 0 0 = some 0 ∧
        (full.axis .a).status = .overrange) ∧
      (axisOf (rawCompare 0x19).axis = some .b ∧ compareTargetOf (full.axis .b) 0 0 = some 0 ∧
        (full.axis .b).status = .counting ∧ full.poolSize = 32) ∧
      (compareTargetOf (wide.axis .a) 0 0 = some 0 ∧ (wide.axis .a).status = .counting ∧ wide.poolSize < 32) ∧
      answer (after (.queueCompare .p1 7 (rawCompare 0x18)) { wide with nextCompareId := 1 }) .p1 = some [0x40, 0x00, 0x03] ∧
      wide.compareList .a = [] ++ [entry 1 .p1 11999 .up (.outHigh 0) none] ++ [entry 2 .p3 12001 .either .notify none] ∧
      ∀ x, ∀ e ∈ wide.compareList x, ¬(e.id = (9 : Byte).toNat ∧ e.owner = .p1) :=
  ⟨⟨wide_lawful, full_lawful, wide_serves .p1, full_serves⟩,
    ⟨by decide, by decide, fun r h => by cases h; decide +kernel, by decide⟩, by decide +kernel, by decide +kernel,
    by decide +kernel, by decide +kernel, by decide +kernel, forall_axis.mpr (by decide +kernel)⟩

/-- For CountEventReachesCommitsAndCompares: an entry without a repeat one count ahead, another at another target; and a
rollover with a pending commit whose session has a STAGED window there. -/
theorem witness_count_event :
    wide.Lawful ∧ quadrature (wide.lines.pair .ea) { phase1 := true, phase2 := false } = some .forward ∧
      ((wide.axis .a).status = .counting ∧ (wide.axis .a).extended + 1 = 11999 ∧
        entry 1 .p1 11999 .up (.outHigh 0) none ∈ wide.compareList .a ∧
        entry 2 .p3 12001 .either .notify none ∈ wide.compareList .a) ∧
      rolling.Lawful ∧ quadrature (rolling.lines.pair .eb) { phase1 := true, phase2 := false } = some .forward ∧
      (rolling.axis .b).status = .counting ∧ rolling.hasCommit .p1 .b = true ∧ rolling.slots[4].axis = .b ∧
      rolling.slots[4].status = .staged ∧ rolling.holds .p1 (.output rolling.slots[4].output) = true ∧
      ((after (.encoderTransition .eb true false) rolling).axis .b).turn ≠ (rolling.axis .b).turn ∧
      (rolling.port .p1).notices.items.length ≤ 12 ∧
      ∀ c ∈ rolling.compareList .b, c.target ≠ ((after (.encoderTransition .eb true false) rolling).axis .b).extended :=
  ⟨wide_lawful, by decide +kernel, by decide +kernel, rolling_lawful, by decide +kernel⟩

/-- For the single due entry of CountEventReachesCommitsAndCompares: each action, and repeats at their last firing, in range
up to its bound, and one count beyond it. -/
theorem witness_firing :
    let far (k : Int) : Option CompareRepeat := some { step := 65535999 - 11999 + k, remaining := 2 }
    (∀ a ∈ [CompareAction.notify, .outHigh 0, .outLow 0, .outPulse 0 10000, .outClear 5, .triggerGen .g1, .capture],
        ∀ r ∈ [none, some { step := -1, remaining := 1 }, far 0, far 1],
        (firing a r).check = true ∧ (firing a r).compareList .a =
          [] ++ [entry 1 .p1 11999 .up a r] ++ [entry 2 .p3 12001 .either .notify none] ∧
        ((firing a r).port .p1).notices.items.length ≤ 8) ∧
      (let s := firing .notify none
       ((s.axis .a).mode = .rotary ∧ 32767 * ((s.axis .a).cycle : Int) + (s.axis .a).cycle - 1 = 65535999) ∧
         s.holds .p1 (.output 0) = true ∧ s.holds .p1 (.output 5) = false ∧ s.holds .p1 (.generator .g1) = true ∧
         (s.gen .g1).state = .idle ∧ (s.axis .a).log.length < 8) := by
  decide +kernel

/-- A firing on a full log is lost, and re-arms its entry at the bound of the axis. -/
theorem test_firing_re_arms :
    let r : CompareRepeat := { step := 65535999 - 11999, remaining := 2 }
    let t := after (.encoderTransition .ea true false) (firing (.outPulse 0 40) (some r))
    (t.compareList .a).map (fun e => (e.id, e.target, e.rep.map CompareRepeat.remaining)) =
        [(2, 12001, none), (1, 65535999, some 1)] ∧
      noticesOf t .p1 =
        [.compareFired 1 0x0101 .a 11999 .forward (.outPulse 0 40) .done .reArmed 32767 1999 1] ∧
      ((t.channel 0).overlay, (t.channel 0).pulse) = (.high, some 40) := by
  decide +kernel

/-- For OutputRequestsAreArrivals: the bounds of the pulse width. -/
theorem witness_outputs :
    wide.ServesSession .p1 7 ∧ outputOf 0 = some 0 ∧ wide.holds .p1 (.output 0) = true ∧ outputModeOf 1 = some .cam ∧
      levelOf 1 = some .high ∧ 1 ≤ (1 : Half).toNat ∧ (10000 : Half).toNat ≤ 10000 :=
  ⟨wide_serves .p1, by decide +kernel⟩

/-- The record of a POSITION move of a relative distance, its start condition as given. -/
def rawPosition (start : Byte) (distance : Word) : RawMove :=
  { tag := 4, kind := 0, start := start, at4 := 1, at5 := distance, at9 := 200, at13 := 4000, at17 := 200, at19 := 200,
    at21 := 0, at25 := 0, at26 := 0, at27 := 0 }

/-- For AppendMoveJoinsTheQueue: a halt, STOPPING, a full queue, a move in the way, and an IDLE generator. -/
theorem witness_append :
    (haltActive.Lawful ∧ haltActive.ServesSession .p1 7 ∧ full.Lawful ∧ full.ServesSession .p1 7 ∧ wide.Lawful ∧
        wide.ServesSession .p1 7) ∧
      (genOf 0x10 = some .g1 ∧ haltActive.holds .p1 (.generator .g1) = true ∧ (haltActive.gen .g1).halt = true) ∧
      (genOf 0x12 = some .gv ∧ full.holds .p1 (.generator .gv) = true ∧ (full.gen .gv).state = .stopping) ∧
      (genOf 0x11 = some .g2 ∧ full.holds .p1 (.generator .g2) = true ∧ (full.gen .g2).queue.length = 8 ∧
        (moveOf .g2 (full.gen .g2).maxRate (rawPosition 0 2)).isSome = true) ∧
      (wide.holds .p1 (.generator .gv) = true ∧ (wide.gen .gv).queue.length < 8 ∧
        (wide.gen .gv).current = some (started 5 (.velocity .up 200 2000 100 100 none) none .up) ∧
        (moveOf .gv (wide.gen .gv).maxRate (rawPosition 0 2)).isSome = true) ∧
      (wide.gen .g1).state = .idle ∧ (wide.gen .g1).pendingTrigger = false ∧
      (moveOf .g1 (wide.gen .g1).maxRate (rawPosition 1 2)).map MoveRecord.start = some .onTrigger :=
  ⟨⟨haltActive_lawful, haltActive_serves, full_lawful, full_serves, wide_lawful, wide_serves .p1⟩, by decide +kernel⟩

/-- For an append behind a FOLLOW move in AppendMoveJoinsTheQueue: in FOLLOWING with an empty queue and with a record
waiting, and in ARMED. -/
theorem witness_append_behind_follow :
    let m := started 9 (.follow .a 1 1 none) none .up
    let waits := { wide with gens := { wide.gens with g1 := { Generator.cold false with maxRate := 10000, state := .armed, current := some { m with started := false } } } }
    (followers.Lawful ∧ followers.ServesSession .p1 7 ∧ waits.Lawful ∧ waits.ServesSession .p1 7) ∧
      ((followers.gen .g1).current = some m ∧ m.record.kind.code = 2 ∧ (followers.gen .g1).queue = [] ∧
        (followers.gen .g2).queue.length = 1 ∧ (followers.port .p1).notices.items.length < 23) ∧
      (waits.gen .g1).current = some { m with started := false } ∧ waits.holds .p1 (.generator .g1) = true ∧
      (moveOf .g1 10000 (rawPosition 1 2)).map MoveRecord.start = some .onTrigger ∧
      (moveOf .g1 10000 rawDwell).map MoveRecord.kind = some (.dwell 1) :=
  ⟨⟨followers_lawful, State.servesSession_of_check (by decide +kernel), State.lawful_of_check (by decide +kernel),
    State.servesSession_of_check (by decide +kernel)⟩, by decide +kernel⟩

/-- R100: the FOLLOW move ends, its backlog discarded, and the appended record is the next move. -/
theorem test_append_ends_a_follow_move :
    let t := after (.appendMove .p1 7 0x10 (rawPosition 1 2)) followers
    (noticesOf t .p1, (t.gen .g1).state, (t.gen .g1).backlog, answer t .p1) =
      ([.moveEnded .g1 9 (.follow .a 1 1 none) .endedByNext 0 true none], .armed, 0, some [0x61, 0x00, 0x00]) := by
  decide +kernel

/-- For PositionMoveStartsWithItsFirstStep: the least distance, up to the bound of the counter. -/
theorem witness_position_start :
    wide.Lawful ∧ wide.ServesSession .p1 7 ∧ wide.holds .p1 (.generator .g1) = true ∧ (wide.gen .g1).state = .idle ∧
      moveOf .g1 (wide.gen .g1).maxRate (rawPosition 0 2) = some { tag := 4, start := .immediate, kind := position 2 } ∧
      (wide.gen .g1).counter + 2 = 2000000000 :=
  ⟨wide_lawful, wide_serves .p1, by decide +kernel⟩

/-- For StopGeneratorFollowsItsTable: each row of Table 5.5, the RUNNING one just above its floor. -/
theorem witness_stop :
    (wide.Lawful ∧ wide.ServesSession .p1 7 ∧ full.Lawful ∧ full.ServesSession .p1 7) ∧
      (wide.holds .p1 (.generator .g1) = true ∧ (wide.gen .g1).state = .idle) ∧
      (wide.holds .p1 (.generator .g2) = true ∧ (wide.gen .g2).state = .dwelling) ∧
      full.holds .p1 (.generator .g1) = true ∧ (full.gen .g1).state = .running ∧
      (full.gen .g1).current = some (started 1 (position 5000) (some 1) .up) ∧
      (position 5000).floor + 1 = (full.gen .g1).speed :=
  ⟨⟨wide_lawful, wide_serves .p1, full_lawful, full_serves⟩, by decide +kernel⟩

/-- For GeneratorSettingsAndTriggers: the bounds of the settings, IDLE and a move, in CLEAR and in a halt, and ARMED. -/
theorem witness_settings :
    (wide.ServesSession .p1 7 ∧ haltActive.ServesSession .p1 7 ∧ full.ServesSession .p1 7) ∧
      (genOf 0x10 = some .g1 ∧ wide.holds .p1 (.generator .g1) = true ∧ (wide.gen .g1).state = .idle ∧
        wide.halt = .clear) ∧
      ((2 : Word).toNat = 2 ∧ (250000 : Word).toNat = 250000 ∧ senseOf 1 = some .inverted ∧
        (2000000000 : Word).toInt = 2000000000 ∧ (-2000000000 : Word).toInt = -2000000000) ∧
      (haltActive.holds .p1 (.generator .g1) = true ∧ haltActive.halt ≠ .clear ∧
        full.holds .p1 (.generator .gv) = true ∧ full.halt = .clear ∧ (full.gen .gv).state = .stopping) ∧
      armed.Lawful ∧ armed.ServesSession .p1 7 ∧ armed.halt = .clear ∧
      (∀ g ∈ [GenId.g1, .g2], armed.holds .p1 (.generator g) = true ∧ (armed.gen g).state = .armed ∧
        (armed.gen g).counter = 0) ∧
      (armed.port .p1).notices.items.length < 24 ∧
      (armed.gen .g1).current.map (fun m => m.record.kind) = some (.dwell 1) ∧
      (armed.gen .g2).current.map (fun m => m.record.kind) = some (.velocity .down 200 2000 100 100 none) :=
  ⟨⟨wide_serves .p1, haltActive_serves, full_serves⟩, by decide +kernel, by decide +kernel, by decide +kernel, armed_lawful,
    State.servesSession_of_check (by decide +kernel), by decide +kernel⟩

/-- For ClearHaltEndsALatchedHalt: the three halt states, with a subscriber to the clear, and a hand-over under way in ACTIVE
and in CLEAR. -/
theorem witness_clear_halt :
    (haltActive.Lawful ∧ haltActive.ServesSession .p1 7 ∧ haltActive.halt = .active) ∧
      (wide.Lawful ∧ wide.ServesSession .p1 7 ∧ wide.halt = .clear) ∧ (subscribed haltLatched).Lawful ∧
      (subscribed haltLatched).ServesSession .p1 7 ∧ (subscribed haltLatched).halt = .latched ∧
      ((subscribed haltLatched).session .p1).isOpen = true ∧
      ((subscribed haltLatched).session .p1).subs.haltChanged = true ∧
      ((subscribed haltLatched).port .p1).notices.items.length ≤ 16 ∧
      ((subscribed handingOn).Lawful ∧ (subscribed handingOn).ServesSession .p1 7 ∧ (subscribed handingOn).halt = .active ∧
        (subscribed handingOn).handing ≠ []) ∧
      clearingBeside.Lawful ∧ clearingBeside.ServesSession .p2 7 ∧ clearingBeside.halt = .clear ∧
      clearingBeside.handing ≠ [] :=
  ⟨⟨haltActive_lawful, haltActive_serves, rfl⟩, ⟨wide_lawful, wide_serves .p1, rfl⟩, subscribed_lawful.2.2,
    State.servesSession_of_check (by decide +kernel), by decide +kernel, by decide +kernel, by decide +kernel,
    by decide +kernel, ⟨handingOn_lawful, handingOn_serves, rfl, by decide +kernel⟩, clearingBeside_lawful,
    clearingBeside_serves, by decide +kernel, by decide +kernel⟩

end Sys2Proof.Tests
end

section
/-! SUPPORT. Cold reset and the compare pool (R67): what COLD_RESET comes to, the compare fields of the state it
restarts in, and the settling of its statement. -/

namespace Sys2Proof.Machine

/-- COLD_RESET always answers the restarted state (R161). -/
theorem exec_coldReset (lines : InputLines) (straps : PerPort Straps) (s : State) :
    exec (.coldReset lines straps) s = .next (s.restart lines straps) := rfl

@[simp] theorem State.restart_compareList (s : State) (lines : InputLines) (straps : PerPort Straps) (x : AxisId) :
    (s.restart lines straps).compareList x = [] := by
  cases x <;> rfl

@[simp] theorem State.restart_nextCompareId (s : State) (lines : InputLines) (straps : PerPort Straps) :
    (s.restart lines straps).nextCompareId = 1 := rfl

/-- The pool holds the entries of the three lists and nothing else (R47, R48). -/
theorem State.poolSize_eq_sum_compareList (s : State) :
    s.poolSize = (s.compareList .a).length + (s.compareList .b).length + (s.compareList .v).length := rfl

/-- The pool is empty exactly when every axis's list is. -/
theorem State.poolSize_eq_zero_iff (s : State) : s.poolSize = 0 ↔ ∀ x, s.compareList x = [] := by
  rw [s.poolSize_eq_sum_compareList]
  constructor
  · intro h x
    apply List.eq_nil_of_length_eq_zero
    cases x <;> omega
  · intro h
    simp [h]

/-- Settles O3: COLD_RESET restarts with every list empty, and so with the pool empty. -/
theorem coldResetEmptiesComparePool : Obligations.ColdResetEmptiesComparePool := by
  intro lines straps s
  have lists : ∀ x, (s.restart lines straps).compareList x = [] := s.restart_compareList lines straps
  have pool : (s.restart lines straps).poolSize = 0 := (State.poolSize_eq_zero_iff _).mpr lists
  exact ⟨_, exec_coldReset lines straps s, pool, lists .a, lists .b, lists .v, s.restart_nextCompareId lines straps⟩

end Sys2Proof.Machine
end

section
/-! SUPPORT. Cold reset and the claims (R146): the records that COLD_RESET leaves at each claim, axis, generator,
channel and port, and the settling of its statement. -/

namespace Sys2Proof.Machine

variable (s : State) (lines : InputLines) (straps : PerPort Straps)

/-- Every claim of the three groups of the table is FREE after cold reset (R146). -/
@[simp] theorem State.restart_claim (r : Resource) : (s.restart lines straps).claim r = Claim.free := by
  cases r with
  | output o => exact Vector.getElem_replicate _
  | generator g => cases g <;> rfl
  | axis x => cases x <;> rfl

/-- R20. -/
@[simp] theorem State.restart_axis (x : AxisId) : (s.restart lines straps).axis x = Axis.cold := by
  cases x <;> rfl

/-- R111. -/
@[simp] theorem State.restart_gen (g : GenId) :
    (s.restart lines straps).gen g = Generator.cold lines.haltAsserted := by
  cases g <;> rfl

/-- R82. -/
@[simp] theorem State.restart_channel (o : OutputId) :
    (s.restart lines straps).channel o = Channel.cold lines.haltAsserted := Vector.getElem_replicate _

/-- The rate of a port is that of its straps (R175). -/
@[simp] theorem State.restart_port (p : PortId) :
    (s.restart lines straps).port p = Port.cold (Straps.rate (straps.get p)) := by
  cases p <;> rfl

/-- No port has a session after cold reset (R161). -/
@[simp] theorem State.restart_session (p : PortId) : (s.restart lines straps).session p = Session.closed :=
  congrArg Port.session (s.restart_port lines straps p)

/-- Settles O4: COLD_RESET restarts every block from its cold record, whose fields are those the rule gives. -/
theorem coldResetFreesAllClaims : Obligations.ColdResetFreesAllClaims := by
  intro lines straps s
  refine ⟨_, exec_coldReset lines straps s, ?claims, ?notices, ?outputs, ?generators, ?axes⟩
  case claims => simp [Claim.free]
  case notices => simp [Port.cold, NoticeQueue.fresh, Session.closed]
  case outputs => simp [Channel.cold]
  case generators => simp [Generator.cold]
  case axes => simp [Axis.cold]

end Sys2Proof.Machine
end

section
/-! SUPPORT. Notice queues: what a posting and an offer make of a queue (R164 to R171), and `Port.Told`, the reach of
any number of postings at a port. -/

namespace Sys2Proof.Machine

/-! ### Numbers in order (R165) -/

theorem numberedBelow_congr {next : Nat} {l m : List Notice} (h : l.map Notice.number = m.map Notice.number)
    (k : numberedBelow next l) : numberedBelow next m := by
  induction l generalizing m with
  | nil =>
    obtain rfl := List.map_eq_nil_iff.1 h.symm
    exact trivial
  | cons a l ih =>
    obtain ⟨b, m, rfl, hb, hm⟩ := List.map_eq_cons_iff.1 h.symm
    cases l with
    | nil =>
      obtain rfl := List.map_eq_nil_iff.1 hm
      exact (congrArg numberAfter hb).trans k
    | cons c l =>
      obtain ⟨d, m, rfl, hd, -⟩ := List.map_eq_cons_iff.1 hm
      exact ⟨by rw [hb, hd]; exact k.1, ih hm.symm k.2⟩

theorem numberedBelow_append {next : Nat} {n : Notice} (hn : n.number = next) :
    ∀ {l : List Notice}, numberedBelow next l → numberedBelow (numberAfter next) (l ++ [n])
  | [], _ => by simp [numberedBelow, hn]
  | [_], h => ⟨by simpa [hn, numberedBelow] using h, by simp [numberedBelow, hn]⟩
  | _ :: _ :: _, h => ⟨h.1, numberedBelow_append hn h.2⟩

theorem numberedBelow_tail {next : Nat} {n : Notice} : ∀ {l : List Notice}, numberedBelow next (n :: l) → numberedBelow next l
  | [], _ => trivial
  | _ :: _, h => h.2

theorem numberedBelow_drop {next : Nat} (k : Nat) {l : List Notice} (h : numberedBelow next l) :
    numberedBelow next (l.drop k) := by
  induction k generalizing l with
  | zero => exact h
  | succ k ih =>
    cases l with
    | nil => exact trivial
    | cons n l => exact ih (numberedBelow_tail h)

/-! ### Sending the oldest UNSENT notice (R168) -/

/-- With every notice SENT there is none to send; else the first UNSENT one becomes SENT, the rest standing. -/
theorem sendOldest_cases (now : Word) (l : List Notice) :
    (sendOldest now l = none ∧ ∀ m ∈ l, m.sentAt.isSome = true) ∨
      ∃ sent n rest, l = sent ++ n :: rest ∧ (∀ m ∈ sent, m.sentAt.isSome = true) ∧ n.sentAt = none ∧
        sendOldest now l = some (n, sent ++ { n with sentAt := some now } :: rest) := by
  induction l with
  | nil => exact .inl ⟨rfl, by simp⟩
  | cons n l ih =>
    cases h : n.sentAt with
    | none => exact .inr ⟨[], n, l, rfl, by simp, h, by simp [sendOldest, h]⟩
    | some at_ =>
      rcases ih with ⟨hn, ha⟩ | ⟨sent, m, rest, rfl, hs, hm, hr⟩
      · exact .inl ⟨by simp [sendOldest, h, hn], by simpa [h] using ha⟩
      · exact .inr ⟨n :: sent, m, rest, rfl, by simpa [h] using hs, hm, by simp [sendOldest, h, hr]⟩

/-! ### The queue's law -/

theorem NoticeQueue.sentCount_append (q : NoticeQueue) (l m : List Notice) :
    ({ q with items := l ++ m } : NoticeQueue).sentCount =
      ({ q with items := l } : NoticeQueue).sentCount + ({ q with items := m } : NoticeQueue).sentCount := by
  simp [NoticeQueue.sentCount]

theorem NoticeQueue.Lawful.join {q : NoticeQueue} (h : q.Lawful) (k : NoticeKind) (now : Word)
    (room : q.items.length < 24) : (q.join k now).Lawful := by
  have after : (q.join k now).next = numberAfter q.next := rfl
  refine ⟨?_, ?_, ?_, ?_, ?_, by simp [NoticeQueue.join], ?_⟩
  · simpa [NoticeQueue.join] using room
  · simpa [NoticeQueue.join, NoticeQueue.sentCount] using h.window
  · simpa [NoticeQueue.join, List.pairwise_append] using h.sent_first
  · rw [after]
    exact numberedBelow_append (n := { number := q.next, kind := k, lostBefore := q.lost, time := now, sentAt := none })
      rfl h.numbered
  · rw [after, numberAfter]
    have := h.next_range
    split <;> omega
  · have := h.timer
    simpa [NoticeQueue.join, NoticeQueue.resendDue, List.findSome?_append] using this

theorem NoticeQueue.Lawful.drop {q : NoticeQueue} (h : q.Lawful) : q.drop.Lawful :=
  ⟨h.places, h.window, h.sent_first, h.numbered, h.next_range, by simp [NoticeQueue.drop, count16], h.timer⟩

theorem NoticeQueue.Lawful.post {q : NoticeQueue} (h : q.Lawful) (k : NoticeKind) (now : Word) : (q.post k now).Lawful := by
  unfold NoticeQueue.post
  split
  · exact h.join k now ‹_›
  · exact h.drop

/-- A queue whose notices of one number and kind have other send times keeps its law, where the SENT ones come first and
are 8 at most. -/
theorem NoticeQueue.Lawful.resent {q : NoticeQueue} (h : q.Lawful) (l : List Notice)
    (numbers : q.items.map Notice.number = l.map Notice.number)
    (window : (l.filter fun n => n.sentAt.isSome).length ≤ 8)
    (first : l.Pairwise fun n m => m.sentAt.isSome = true → n.sentAt.isSome = true) :
    (NoticeQueue.followResend { q with items := l }).Lawful := by
  have len := congrArg List.length numbers
  simp only [List.length_map] at len
  exact ⟨by simpa [NoticeQueue.followResend, ← len] using h.places, window, first, numberedBelow_congr numbers h.numbered,
    h.next_range, h.lost_range, rfl⟩

theorem NoticeQueue.Lawful.resend {q : NoticeQueue} (h : q.Lawful) : q.resend.Lawful :=
  h.resent _ (by simp [Function.comp_def]) (by simp [List.filter_map, Function.comp_def])
    (List.pairwise_map.2 (List.pairwise_of_forall fun _ _ h => absurd h (by simp)))

theorem NoticeQueue.Lawful.remove {q : NoticeQueue} (h : q.Lawful) (n : Nat) : (q.remove n).Lawful := by
  refine ⟨?_, ?_, h.sent_first.sublist (List.drop_sublist n _), numberedBelow_drop n h.numbered, h.next_range, h.lost_range, rfl⟩
  · exact ((List.drop_sublist n _).length_le).trans h.places
  · exact (((List.drop_sublist n q.items).filter _).length_le).trans h.window

theorem NoticeQueue.fresh_lawful : NoticeQueue.fresh.Lawful := NoticeQueue.lawful_of_check (by decide)

/-! ### An offer at a port (R168, R184) -/

/-- An offer changes nothing, or starts the oldest UNSENT notice on an idle transmitter. -/
theorem Port.offer_cases (q : Port) (now : Word) :
    q.offer now = q ∨
      ∃ sent n rest, q.notices.items = sent ++ n :: rest ∧ (∀ m ∈ sent, m.sentAt.isSome = true) ∧ n.sentAt = none ∧
        q.mayStartNotice = true ∧
        q.offer now =
          { q with
            notices :=
              NoticeQueue.followResend { q.notices with items := sent ++ { n with sentAt := some now } :: rest }
            tx := some n.frame } := by
  unfold Port.offer
  split
  · rename_i may
    rcases sendOldest_cases now q.notices.items with ⟨hn, -⟩ | ⟨sent, n, rest, hl, hs, hn, hr⟩
    · simp [hn]
    · exact .inr ⟨sent, n, rest, hl, hs, hn, may, by simp [hr]⟩
  · exact .inl rfl

/-- A notice offered at once means a window with room and a transmitter that is idle with no response waiting (R184). -/
theorem Port.mayStartNotice_iff (q : Port) :
    q.mayStartNotice = true ↔
      q.session.isOpen = true ∧ q.session.closing = false ∧ q.notices.sentCount < 8 ∧ q.tx = none ∧ q.waiting = none := by
  simp only [Port.mayStartNotice, Bool.and_eq_true, Bool.not_eq_true', decide_eq_true_eq, Option.isNone_iff_eq_none,
    and_assoc]
  rfl

theorem Port.offer_notices_lawful (q : Port) (now : Word) (h : q.notices.Lawful) : (q.offer now).notices.Lawful := by
  rcases q.offer_cases now with e | ⟨sent, n, rest, hl, hs, hn, may, e⟩
  · rwa [e]
  · rw [e]
    have first := h.sent_first
    rw [hl] at first
    have unsent : ∀ m ∈ rest, m.sentAt.isSome = false := fun m hm => by
      have := (List.pairwise_cons.1 (List.pairwise_append.1 first).2.1).1 m hm
      simpa [hn] using this
    refine h.resent _ (by simp [hl]) ?_ ?_
    · have window := ((Port.mayStartNotice_iff q).1 may).2.2.1
      simp only [NoticeQueue.sentCount, hl, List.filter_append, List.length_append, List.filter_cons, hn] at window
      simp only [List.filter_append, List.length_append, List.filter_cons]
      simp at window ⊢
      omega
    · rw [List.pairwise_append, List.pairwise_cons] at first ⊢
      refine ⟨first.1, ⟨fun m hm hs' => rfl, first.2.1.2⟩, fun a ha b _ _ => hs a ha⟩

/-! ### Any number of notices told to a port -/

/-- A port told one notice (R164, R166, R168): with an open session it is posted, and the oldest UNSENT one offered. -/
def Port.tell (q : Port) (k : NoticeKind) (now : Word) : Port :=
  if q.session.isOpen then Port.offer { q with notices := q.notices.post k now } now else q

theorem State.post_eq_tell (s : State) (p : PortId) (k : NoticeKind) :
    s.post p k = s.modPort p fun q => q.tell k s.now := by
  unfold State.post Port.tell State.offer
  by_cases h : (s.session p).isOpen = true
  · have h' : (s.ports.get p).session.isOpen = true := h
    rw [if_pos h]
    simp [State.modPort, h', State.port]
  · rw [if_neg h]
    have same : (fun q : Port => if q.session.isOpen = true then
        Port.offer { q with notices := q.notices.post k s.now } s.now else q) (s.ports.get p) = s.ports.get p := if_neg h
    unfold State.modPort State.port
    rw [same, PerPort.set_get_same]

/-- A port that has been told notices of a kind `K`, at most `n` of them, at one device time. -/
inductive Port.Told (K : NoticeKind → Prop) (now : Word) : Nat → Port → Port → Prop where
  | same (n : Nat) (q : Port) : Told K now n q q
  | more {n : Nat} {q r : Port} {k : NoticeKind} : Told K now n q r → K k → Told K now (n + 1) q (r.tell k now)

variable {K : NoticeKind → Prop} {now : Word} {m n : Nat} {q r u : Port}

theorem Port.Told.mono (h : Port.Told K now m q r) (l : m ≤ n) : Port.Told K now n q r := by
  induction h generalizing n with
  | same => exact .same _ _
  | more _ hk ih =>
    obtain ⟨n, rfl⟩ : ∃ k, n = k + 1 := ⟨n - 1, by omega⟩
    exact .more (ih (by omega)) hk

theorem Port.Told.weaken {L : NoticeKind → Prop} (h : Port.Told K now n q r) (w : ∀ k, K k → L k) : Port.Told L now n q r := by
  induction h with
  | same => exact .same _ _
  | more _ hk ih => exact .more ih (w _ hk)

theorem Port.Told.trans (h : Port.Told K now m q r) (k : Port.Told K now n r u) : Port.Told K now (m + n) q u := by
  induction k with
  | same => exact h.mono (by omega)
  | more _ hk ih => exact .more (ih h) hk

theorem Port.Told.one (q : Port) {k : NoticeKind} (hk : K k) : Port.Told K now 1 q (q.tell k now) := .more (.same 0 q) hk

theorem Port.tell_keeps (q : Port) (k : NoticeKind) (now : Word) :
    q.tell k now = { q with notices := (q.tell k now).notices, tx := (q.tell k now).tx } := by
  unfold Port.tell
  split
  · rw [Port.offer_keeps]
  · rfl

/-- Notices told change the notice queue and the transmitter alone. -/
theorem Port.Told.keeps (h : Port.Told K now n q r) : r = { q with notices := r.notices, tx := r.tx } := by
  induction h with
  | same => rfl
  | more _ _ ih => rw [Port.tell_keeps, ih]

theorem Port.Told.session (h : Port.Told K now n q r) : r.session = q.session := by rw [h.keeps]
theorem Port.Told.intake (h : Port.Told K now n q r) : r.intake = q.intake := by rw [h.keeps]
theorem Port.Told.cache (h : Port.Told K now n q r) : r.cache = q.cache := by rw [h.keeps]
theorem Port.Told.waiting (h : Port.Told K now n q r) : r.waiting = q.waiting := by rw [h.keeps]
theorem Port.Told.faults (h : Port.Told K now n q r) : r.faults = q.faults := by rw [h.keeps]

theorem Port.tell_notices_lawful (q : Port) (k : NoticeKind) (now : Word) (h : q.notices.Lawful) :
    (q.tell k now).notices.Lawful := by
  unfold Port.tell
  split
  · exact Port.offer_notices_lawful _ now (h.post k now)
  · exact h

theorem Port.Told.lawful (h : Port.Told K now n q r) (l : q.notices.Lawful) : r.notices.Lawful := by
  induction h with
  | same => exact l
  | more _ _ ih => exact Port.tell_notices_lawful _ _ _ (ih l)

/-- What a transmitter holds after an offer: what it held, or the notice that an idle one with no response waiting starts. -/
theorem Port.offer_tx (q : Port) (now : Word) :
    (q.offer now).tx = q.tx ∨ q.tx = none ∧ q.waiting = none ∧ ∃ m : Notice, (q.offer now).tx = some m.frame := by
  rcases q.offer_cases now with e | ⟨_, n, _, _, _, _, may, e⟩
  · rw [e]; exact .inl rfl
  · have := (Port.mayStartNotice_iff q).1 may
    exact .inr ⟨this.2.2.2.1, this.2.2.2.2, n, by rw [e]⟩

theorem Port.tell_tx (q : Port) (k : NoticeKind) (now : Word) :
    (q.tell k now).tx = q.tx ∨ q.tx = none ∧ q.waiting = none ∧ ∃ m : Notice, (q.tell k now).tx = some m.frame := by
  unfold Port.tell
  split
  · exact Port.offer_tx _ now
  · exact .inl rfl

theorem Port.Told.tx (h : Port.Told K now n q r) :
    r.tx = q.tx ∨ q.tx = none ∧ q.waiting = none ∧ ∃ m : Notice, r.tx = some m.frame := by
  induction h with
  | same => exact .inl rfl
  | @more _ _ r k h _ ih =>
    rcases Port.tell_tx r k now with e | ⟨e, w, m, f⟩
    · rwa [e]
    · rcases ih with i | ⟨i, w', j⟩
      · exact .inr ⟨i ▸ e, h.waiting ▸ w, m, f⟩
      · exact .inr ⟨i, w', m, f⟩

@[simp] theorem Notice.frame_answersHead (m : Notice) : m.frame.answersHead = false := rfl

@[simp] theorem Response.frame_answersHead (m : Response) : m.frame.answersHead = true := rfl

/-- What stands at the transmitter as the answer to the head of the intake queue is the same after an idle transmitter has
started a notice. -/
theorem Port.LinkLawful.of_tx {b : Bool} (h : q.LinkLawful b) (intake : r.intake = q.intake) (waiting : r.waiting = q.waiting)
    (faults : r.faults = q.faults)
    (tx : r.tx = q.tx ∨ q.tx = none ∧ q.waiting = none ∧ ∃ f, r.tx = some f ∧ f.answersHead = false) : r.LinkLawful b := by
  obtain ⟨h1, h2, h3, h4, h5, h6⟩ := h
  rw [← intake, ← waiting] at *
  rw [← faults] at h6
  rcases tx with e | ⟨e, w, f, hf, ha⟩
  · rw [← e] at h2 h3 h4 h5
    exact ⟨h1, h2, h3, h4, h5, h6⟩
  · rw [e] at h2 h3 h4 h5
    refine ⟨h1, ?_, ?_, ?_, ?_, h6⟩
    · simp [w]
    · exact fun _ => ⟨w, by simp [hf, ha]⟩
    · intro hb hi
      rcases h4 hb hi with c | ⟨_, c, _⟩
      · simp [w] at c
      · simp at c
    · exact fun _ => ⟨w, by simp [hf, ha]⟩

theorem Port.Told.linkLawful {b : Bool} (h : Port.Told K now n q r) (l : q.LinkLawful b) : r.LinkLawful b := by
  refine l.of_tx h.intake h.waiting h.faults ?_
  rcases h.tx with e | ⟨e, w, m, f⟩
  · exact .inl e
  · exact .inr ⟨e, w, _, f, rfl⟩

/-- A notice with its send time set aside. -/
def Notice.content (n : Notice) : Nat × NoticeKind := (n.number, n.kind)

theorem Port.offer_contents (q : Port) (now : Word) :
    (q.offer now).notices.items.map Notice.content = q.notices.items.map Notice.content := by
  rcases q.offer_cases now with e | ⟨sent, n, rest, hl, _, _, _, e⟩
  · rw [e]
  · rw [e]; simp [NoticeQueue.followResend, hl, Notice.content]

theorem Port.offer_lost (q : Port) (now : Word) : (q.offer now).notices.lost = q.notices.lost := by
  rcases q.offer_cases now with e | ⟨sent, n, rest, hl, _, _, _, e⟩ <;> rw [e]
  rfl

/-- What a notice told does to the contents of a queue: nothing, or one more at its tail. -/
theorem Port.tell_contents (q : Port) (k : NoticeKind) (now : Word) :
    (q.tell k now).notices.items.map Notice.content =
      q.notices.items.map Notice.content ++
        if q.session.isOpen = true ∧ q.notices.items.length < 24 then [(q.notices.next, k)] else [] := by
  unfold Port.tell
  by_cases o : q.session.isOpen = true
  · rw [if_pos o, Port.offer_contents]
    unfold NoticeQueue.post
    by_cases l : q.notices.items.length < 24
    · simp [l, o, Config.noticePlaces, NoticeQueue.join, Notice.content]
    · simp [l, o, Config.noticePlaces, NoticeQueue.drop]
  · rw [if_neg o]; simp [o]

/-- Told at most `n` notices of a kind, a queue holds what it held with at most `n` of the kind behind it. -/
theorem Port.Told.contents (h : Port.Told K now n q r) :
    ∃ l, r.notices.items.map Notice.content = q.notices.items.map Notice.content ++ l ∧ l.length ≤ n ∧ ∀ c ∈ l, K c.2 := by
  induction h with
  | same => exact ⟨[], by simp⟩
  | @more n q r k _ hk ih =>
    obtain ⟨l, e, hl, hc⟩ := ih
    rw [Port.tell_contents, e]
    split
    · exact ⟨l ++ [(r.notices.next, k)], by simp, by simpa using hl, fun c h => (List.mem_append.1 h).elim (hc c) fun h => List.mem_singleton.1 h ▸ hk⟩
    · exact ⟨l, by simp, by omega, hc⟩

theorem Port.Told.length_le (h : Port.Told K now n q r) : r.notices.items.length ≤ q.notices.items.length + n := by
  obtain ⟨l, e, hl, -⟩ := h.contents
  have := congrArg List.length e
  simp at this
  omega

/-- Whether a queue holds a notice of this kind. -/
def Port.Holds (q : Port) (k : NoticeKind) : Prop := ∃ n ∈ q.notices.items, n.kind = k

theorem Port.holds_iff (q : Port) (k : NoticeKind) : q.Holds k ↔ ∃ c ∈ q.notices.items.map Notice.content, c.2 = k := by
  simp [Port.Holds, Notice.content]

/-- A notice that a queue holds stays while others are told. -/
theorem Port.Told.holds (h : Port.Told K now n q r) {k : NoticeKind} (c : q.Holds k) : r.Holds k := by
  rw [Port.holds_iff] at *
  obtain ⟨l, e, -, -⟩ := h.contents
  obtain ⟨x, hx, hk⟩ := c
  exact ⟨x, by rw [e]; exact List.mem_append_left _ hx, hk⟩

/-- A notice told to an open session with room is in its queue (R166). -/
theorem Port.tell_holds (q : Port) (k : NoticeKind) (now : Word) (o : q.session.isOpen = true)
    (room : q.notices.items.length < 24) : (q.tell k now).Holds k := by
  rw [Port.holds_iff, Port.tell_contents, if_pos ⟨o, room⟩]
  simp

/-- A notice in the queue was there, or is one of those told. -/
theorem Port.Told.mem (h : Port.Told K now n q r) {c : Notice} (hc : c ∈ r.notices.items) :
    (∃ d ∈ q.notices.items, d.number = c.number ∧ d.kind = c.kind) ∨ K c.kind := by
  obtain ⟨l, e, -, hk⟩ := h.contents
  have : c.content ∈ r.notices.items.map Notice.content := List.mem_map_of_mem hc
  rw [e, List.mem_append] at this
  rcases this with m | m
  · obtain ⟨d, hd, e⟩ := List.mem_map.1 m
    exact .inl ⟨d, hd, congrArg Prod.fst e, congrArg Prod.snd e⟩
  · exact .inr (hk _ m)

/-! ### The same for the three ports of a state -/

/-- Two states between which ports have been told notices of a kind, at most `n` each, and nothing else has befallen the
ports. -/
structure State.Told (K : NoticeKind → Prop) (n : Nat) (s t : State) : Prop where
  now : t.now = s.now
  port : ∀ p, Port.Told K s.now n (s.port p) (t.port p)

variable {s t v : State}

theorem State.Told.refl (K : NoticeKind → Prop) (n : Nat) (s : State) : State.Told K n s s := ⟨rfl, fun _ => .same _ _⟩

theorem State.Told.of_ports (K : NoticeKind → Prop) (n : Nat) (hn : t.now = s.now) (hp : t.ports = s.ports) : State.Told K n s t :=
  ⟨hn, fun p => by unfold State.port; rw [hp]; exact .same _ _⟩

theorem State.Told.trans (h : State.Told K m s t) (k : State.Told K n t v) : State.Told K (m + n) s v :=
  ⟨k.now.trans h.now, fun p => (h.port p).trans (h.now ▸ k.port p)⟩

theorem State.Told.mono (h : State.Told K m s t) (l : m ≤ n) : State.Told K n s t := ⟨h.now, fun p => (h.port p).mono l⟩

theorem State.Told.weaken {L : NoticeKind → Prop} (h : State.Told K n s t) (w : ∀ k, K k → L k) : State.Told L n s t :=
  ⟨h.now, fun p => (h.port p).weaken w⟩

theorem State.Told.session (h : State.Told K n s t) (p : PortId) : t.session p = s.session p := (h.port p).session

theorem State.post_told (s : State) (p : PortId) {k : NoticeKind} (hk : K k) : State.Told K 1 s (s.post p k) := by
  rw [State.post_eq_tell]
  refine ⟨rfl, fun q => ?_⟩
  rw [State.modPort_port]
  split
  · subst q; exact .one _ hk
  · exact .same _ _

theorem State.postHolder_told (s : State) (r : Resource) {k : NoticeKind} (hk : K k) : State.Told K 1 s (s.postHolder r k) := by
  unfold State.postHolder
  split
  · exact State.post_told s _ hk
  · exact .refl _ _ _

theorem State.post_port_other (s : State) (p q : PortId) (k : NoticeKind) (h : q ≠ p) : (s.post p k).port q = s.port q := by
  rw [State.post_eq_tell, State.modPort_port_other _ _ _ _ h]

@[simp] theorem State.post_port_same (s : State) (p : PortId) (k : NoticeKind) :
    (s.post p k).port p = (s.port p).tell k s.now := by
  rw [State.post_eq_tell, State.modPort_port_same]

/-- A broadcast notice at one port: posted where its session is open and has subscribed (R164). -/
def State.postWanting (s : State) (wants : Subscriptions → Bool) (k : NoticeKind) (p : PortId) : State :=
  if (s.session p).isOpen && wants (s.session p).subs then s.post p k else s

theorem State.broadcast_eq (s : State) (wants : Subscriptions → Bool) (k : NoticeKind) :
    s.broadcast wants k =
      ((s.postWanting wants k .p1).postWanting wants k .p2).postWanting wants k .p3 := rfl

@[simp] theorem State.postWanting_now (s : State) (wants : Subscriptions → Bool) (k : NoticeKind) (p : PortId) :
    (s.postWanting wants k p).now = s.now := by
  unfold State.postWanting
  split
  · exact (State.post_reach s p k).now
  · rfl

@[simp] theorem State.postWanting_session (s : State) (wants : Subscriptions → Bool) (k : NoticeKind) (p q : PortId) :
    (s.postWanting wants k p).session q = s.session q := by
  unfold State.postWanting
  split
  · exact State.post_session s p q k
  · rfl

theorem State.postWanting_port_other (s : State) (wants : Subscriptions → Bool) (k : NoticeKind) (p q : PortId) (h : q ≠ p) :
    (s.postWanting wants k p).port q = s.port q := by
  unfold State.postWanting
  split
  · exact State.post_port_other _ _ _ _ h
  · rfl

theorem State.postWanting_port_same (s : State) (wants : Subscriptions → Bool) (k : NoticeKind) (p : PortId) :
    (s.postWanting wants k p).port p =
      if (s.session p).isOpen && wants (s.session p).subs then (s.port p).tell k s.now else s.port p := by
  unfold State.postWanting
  split
  · exact State.post_port_same s p k
  · rfl

/-- A broadcast at one port: told where its session is open and has subscribed (R164). -/
theorem State.broadcast_port (s : State) (wants : Subscriptions → Bool) (k : NoticeKind) (p : PortId) :
    (s.broadcast wants k).port p =
      if (s.session p).isOpen && wants (s.session p).subs then (s.port p).tell k s.now else s.port p := by
  have other (t : State) (q r : PortId) (h : q ≠ r) := t.postWanting_port_other wants k r q h
  rw [State.broadcast_eq]
  cases p with
  | p1 => rw [other _ .p1 .p3 (by decide), other _ .p1 .p2 (by decide), State.postWanting_port_same]
  | p2 =>
    rw [other _ .p2 .p3 (by decide), State.postWanting_port_same, other _ .p2 .p1 (by decide), State.postWanting_now,
      State.postWanting_session]
  | p3 =>
    rw [State.postWanting_port_same, other _ .p3 .p2 (by decide), other _ .p3 .p1 (by decide)]
    simp only [State.postWanting_now, State.postWanting_session]

theorem State.broadcast_told (s : State) (wants : Subscriptions → Bool) {k : NoticeKind} (hk : K k) :
    State.Told K 1 s (s.broadcast wants k) := by
  refine ⟨(State.broadcast_reach s wants k).now, fun p => ?_⟩
  rw [State.broadcast_port]
  split
  · exact .one _ hk
  · exact .same _ _

end Sys2Proof.Machine
end

section
/-! SUPPORT. What an operation at one generator can do: its own record, its claim where that is RELEASING, notices of the
generator, and count events for axis V where it is GV. -/

namespace Sys2Proof.Machine

/-- The notices that an operation at a generator may post. -/
def GenNotice (g : GenId) : NoticeKind → Prop
  | .moveStarted h _ _ _ _ _ => h = g
  | .moveEnded h _ _ _ _ _ _ => h = g
  | .queueFlushed h _ => h = g
  | .triggerLost h _ _ => h = g
  | .claimGranted r _ _ => r = .generator g
  | .claimFreed r _ _ => r = .generator g
  | _ => False

/-- A claim record that stands, or one in RELEASING that has been handed on (R140, R143). -/
def Claim.Handed (c d : Claim) : Prop := d = c ∨ (c.state = .releasing ∧ d = c.passed)

theorem Claim.passed_not_releasing (c : Claim) : c.passed.state ≠ .releasing := by
  unfold Claim.passed
  split <;> simp

theorem Claim.Handed.trans {c d e : Claim} (h : c.Handed d) (k : d.Handed e) : c.Handed e := by
  rcases h with rfl | ⟨hr, rfl⟩
  · exact k
  · rcases k with rfl | ⟨kr, -⟩
    · exact .inr ⟨hr, rfl⟩
    · exact absurd kr (Claim.passed_not_releasing c)

/-- Two states between which an operation at a generator has come to pass, with at most `n` notices for each session. -/
structure GenOnly (g : GenId) (n : Nat) (s t : State) : Prop where
  move : MoveOnly s t
  others : ∀ h, h ≠ g → t.gen h = s.gen h
  told : State.Told (GenNotice g) n s t
  other_claims : ∀ r, r ≠ .generator g → t.claim r = s.claim r
  claim : (s.claim (.generator g)).Handed (t.claim (.generator g))
  events : ∃ l, t.vEvents = s.vEvents ++ l ∧ (g ≠ .gv → l = [])

variable {g : GenId} {m n : Nat} {s t u : State}

theorem GenOnly.refl (g : GenId) (n : Nat) (s : State) : GenOnly g n s s :=
  ⟨.refl s, fun _ _ => rfl, .refl _ _ _, fun _ _ => rfl, .inl rfl, [], by simp, fun _ => rfl⟩

theorem GenOnly.trans (h : GenOnly g m s t) (k : GenOnly g n t u) : GenOnly g (m + n) s u := by
  obtain ⟨l, hl, hv⟩ := h.events
  obtain ⟨l', hl', hv'⟩ := k.events
  exact
    ⟨h.move.trans k.move, fun i hi => (k.others i hi).trans (h.others i hi), h.told.trans k.told,
      fun r hr => (k.other_claims r hr).trans (h.other_claims r hr), h.claim.trans k.claim, l ++ l',
      by rw [hl', hl, List.append_assoc], fun c => by rw [hv c, hv' c]; rfl⟩

theorem GenOnly.mono (h : GenOnly g m s t) (l : m ≤ n) : GenOnly g n s t :=
  ⟨h.move, h.others, h.told.mono l, h.other_claims, h.claim, h.events⟩

/-- An operation that posts nothing and reaches only the record of its generator. -/
theorem GenOnly.of_gens (g : GenId) (eq : t = { s with gens := t.gens }) (others : ∀ h, h ≠ g → t.gen h = s.gen h) :
    GenOnly g 0 s t := by
  have claim (r : Resource) : t.claim r = s.claim r := by rw [eq]; rfl
  exact
    ⟨⟨by rw [eq]⟩, others, .of_ports _ _ (by rw [eq]) (by rw [eq]), fun r _ => claim r, .inl (claim _), [],
      by rw [eq]; simp, fun _ => rfl⟩

/-- An operation that reaches only the ports, by notices of the generator. -/
theorem GenOnly.of_told (h : PortsOnly s t) (k : State.Told (GenNotice g) n s t) : GenOnly g n s t := by
  have claim (r : Resource) : t.claim r = s.claim r := by unfold State.claim; rw [h.claims]
  exact
    ⟨h.toMoveOnly, fun i _ => by unfold State.gen; rw [h.gens], k, fun r _ => claim r, .inl (claim _), [],
      by rw [h.vEvents]; simp, fun _ => rfl⟩

theorem State.modGen_only (s : State) (g : GenId) (f : Generator → Generator) : GenOnly g 0 s (s.modGen g f) :=
  .of_gens g rfl fun h d => State.modGen_gen_other s g h f d

theorem State.postGen_only (s : State) (g : GenId) {k : NoticeKind} (hk : GenNotice g k) : GenOnly g 1 s (s.postGen g k) :=
  .of_told (State.postHolder_reach s _ k) (State.postHolder_told s _ hk)

theorem State.modGen_postGen_only (s : State) (g : GenId) (f : Generator → Generator) {k : NoticeKind} (hk : GenNotice g k) :
    GenOnly g 1 s ((s.modGen g f).postGen g k) :=
  (s.modGen_only g f).trans ((s.modGen g f).postGen_only g hk)

/-- The claim of a resource where only the ports differ. -/
theorem PortsOnly.claim (h : PortsOnly s t) (r : Resource) : t.claim r = s.claim r := by unfold State.claim; rw [h.claims]

/-- The hand-over of a claim passes it on (R140). -/
theorem State.handOver_claim (s : State) (r q : Resource) (station : Nat) (cause : ClaimCause) :
    (s.handOver r station cause).claim q = if q = r then (s.claim r).passed else s.claim q := by
  have passed (c : Claim) : (s.setClaim r c).claim q = if q = r then c else s.claim q := by
    split
    · subst q; exact State.setClaim_claim_same s r c
    · rename_i h; exact State.setClaim_claim_other s r q c h
  unfold State.handOver Claim.passed
  split <;> rename_i h <;> simp only [h]
  · exact ((State.post_reach _ _ _).claim q).trans (passed _)
  · exact ((State.broadcast_reach _ _ _).claim q).trans (passed _)

theorem State.setClaim_told (K : NoticeKind → Prop) (n : Nat) (s : State) (r : Resource) (c : Claim) :
    State.Told K n s (s.setClaim r c) := .of_ports _ _ rfl rfl

/-- The hand-over of a claim posts one notice at most to each session (R140). -/
theorem State.handOver_told (s : State) {K : NoticeKind → Prop} (r : Resource) (station : Nat) (cause : ClaimCause)
    (granted : K (.claimGranted r station cause)) (freed : K (.claimFreed r station cause)) :
    State.Told K 1 s (s.handOver r station cause) := by
  unfold State.handOver
  split
  · exact (State.setClaim_told K 0 s r _).trans (State.post_told _ _ granted)
  · exact (State.setClaim_told K 0 s r _).trans (State.broadcast_told _ _ freed)

theorem State.handOver_gen (s : State) (r : Resource) (station : Nat) (cause : ClaimCause) (h : GenId) :
    (s.handOver r station cause).gen h = s.gen h := by
  unfold State.gen
  rw [(State.handOver_reach s r station cause).gens]

theorem State.reportIdle_only (s : State) (g : GenId) : GenOnly g 1 s (s.reportIdle g) := by
  unfold State.reportIdle
  split
  · rename_i rel
    have pre := s.modGen_only g fun n => { n with pendingTrigger := false }
    refine (pre.trans (n := 1) ?_ : GenOnly g (0 + 1) _ _)
    have reach := State.handOver_reach (s.cleanup (.generator g)) (.generator g) (s.claim (.generator g)).former .sessionEnded
    refine ⟨reach.toMoveOnly, fun h _ => State.handOver_gen _ _ _ _ h, State.handOver_told _ _ _ _ rfl rfl, fun r hr => ?_, ?_, [],
      ?_, fun _ => rfl⟩
    · exact (State.handOver_claim _ _ r _ _).trans (if_neg hr)
    · refine .inr ⟨rel, (State.handOver_claim _ _ _ _ _).trans (if_pos rfl)⟩
    · rw [reach.vEvents, List.append_nil]; rfl
  · exact .refl _ _ _
  · exact .refl _ _ _

theorem State.flush_only (s : State) (g : GenId) : GenOnly g 1 s (s.flush g) := by
  unfold State.flush
  dsimp only
  split
  · exact (s.modGen_only g _).mono (by omega)
  · exact s.modGen_postGen_only g _ rfl

theorem State.flushAll_only (s : State) (g : GenId) : GenOnly g 1 s (s.flushAll g) :=
  (s.flush_only g).trans ((s.flush g).modGen_only g _)

theorem State.closeMove_only (s : State) (g : GenId) (cause : EndCause) : GenOnly g 1 s (s.closeMove g cause) := by
  unfold State.closeMove
  split
  · exact .refl _ _ _
  · exact s.modGen_postGen_only g _ rfl

theorem State.settle_only (s : State) (g : GenId) : GenOnly g 1 s (s.settle g) := by
  unfold State.settle
  split
  · exact (s.modGen_only g _).mono (by omega)
  · exact (s.modGen_only g _).trans (State.reportIdle_only _ g)

theorem State.closeStopped_only (s : State) (g : GenId) : GenOnly g 1 s (s.closeStopped g) := by
  unfold State.closeStopped
  split
  · exact .refl _ _ _
  · exact s.closeMove_only g _

theorem State.brake_only (s : State) (g : GenId) (rate : StopRate) : GenOnly g 1 s (s.brake g rate).1 := by
  unfold State.brake
  dsimp only
  split
  · exact (s.modGen_only g _).trans (State.closeStopped_only _ g)
  · dsimp only
    exact (s.modGen_only g _).mono (by omega)

theorem State.issueStep_only (s : State) (g : GenId) : GenOnly g 0 s (s.issueStep g).1 := by
  unfold State.issueStep
  split
  · exact .refl _ _ _
  · rename_i m _
    dsimp only
    split
    · have pre := s.modGen_only g fun n => n.stepped g m
      split
      · rename_i v
        refine ⟨⟨rfl⟩, pre.others, .of_ports _ _ rfl rfl, fun _ _ => rfl, .inl rfl, _, rfl, fun c => absurd v c⟩
      · exact pre
    · exact .refl _ _ _

theorem State.failSearch_only (s : State) (g : GenId) (k : NotFound) : GenOnly g 2 s (s.failSearch g k).1 :=
  ((s.modGen_only g _).trans (State.flushAll_only _ g)).trans (State.brake_only _ g _)

theorem State.afterStep_only (s : State) (g : GenId) (e : StepEnd) : GenOnly g 2 s (s.afterStep g e).1 := by
  unfold State.afterStep
  split
  · exact .refl _ _ _
  · split
    · exact (s.closeStopped_only g).mono (by omega)
    · exact (s.closeMove_only g _).mono (by omega)
  · exact (s.flushAll_only g).trans (State.closeMove_only _ g _)
  · exact s.failSearch_only g _

theorem State.firstStep_only (s : State) (g : GenId) : GenOnly g 2 s (s.firstStep g).1 := by
  unfold State.firstStep
  split
  · dsimp only
    exact (s.modGen_only g _).mono (by omega)
  · exact ((s.issueStep_only g).trans (State.afterStep_only _ g _)).mono (by omega)

theorem State.startMove_only (s : State) (g : GenId) (r : MoveRecord) (b : Bool) : GenOnly g 3 s (s.startMove g r b).1 := by
  have pre (f : Generator → Generator) (i : Int) (p : Option SearchPhase) :
      GenOnly g 1 s ((s.modGen g f).postGen g (.moveStarted g r.tag r.kind i b p)) := s.modGen_postGen_only g f rfl
  unfold State.startMove
  dsimp only
  split
  · split
    · exact ((pre _ _ _).trans (State.closeMove_only _ g _)).mono (by omega)
    · exact (pre _ _ _).trans (State.firstStep_only _ g)
  · exact (pre _ _ _).trans (State.firstStep_only _ g)
  · split
    · exact (pre _ _ _).mono (by omega)
    · exact ((pre _ _ _).trans (State.closeMove_only _ g _)).mono (by omega)
  · exact (pre _ _ _).mono (by omega)
  · exact (pre _ _ _).trans (State.firstStep_only _ g)

theorem State.consumeTrigger_only (s : State) (g : GenId) (r : MoveRecord) : GenOnly g 0 s (s.consumeTrigger g r) := by
  unfold State.consumeTrigger
  split
  · exact s.modGen_only g _
  · exact .refl _ _ _

theorem State.takeQueue_only (g : GenId) (k : Nat) (s : State) : GenOnly g (3 * k + 1) s (State.takeQueue g k s) := by
  induction k generalizing s with
  | zero => exact s.settle_only g
  | succ k ih =>
    unfold State.takeQueue
    split
    · exact (s.settle_only g).mono (by omega)
    · rename_i r rest _
      dsimp only
      split
      · exact ((s.modGen_only g _).trans (State.modGen_only _ g _)).mono (by omega)
      · have started := ((s.modGen_only g fun n => { n with queue := rest }).trans (State.consumeTrigger_only _ g r)).trans
          (State.startMove_only _ g r (decide (r.start = .onTrigger)))
        split
        · exact (started.trans (ih _)).mono (by omega)
        · exact started.mono (by omega)

theorem State.nextMove_only (s : State) (g : GenId) : GenOnly g (3 * (s.gen g).queue.length + 1) s (s.nextMove g) :=
  State.takeQueue_only g _ s

/-- A record without a queue leaves its successor one notice at most: that of a claim handed on. -/
theorem State.nextMove_only_nil (s : State) (g : GenId) (h : (s.gen g).queue = []) : GenOnly g 1 s (s.nextMove g) := by
  have only := s.nextMove_only g
  rwa [h] at only

theorem State.endMove_only (s : State) (g : GenId) (cause : EndCause) : ∃ n, GenOnly g n s (s.endMove g cause) :=
  ⟨_, (s.closeMove_only g cause).trans (State.nextMove_only _ g)⟩

theorem State.thenNext_only (r : State × Bool) (g : GenId) : ∃ n, GenOnly g n r.1 (State.thenNext r g) := by
  unfold State.thenNext
  split
  · exact ⟨_, State.nextMove_only _ g⟩
  · exact ⟨0, .refl _ _ _⟩

/-- Some number of notices more. -/
theorem GenOnly.some_trans (h : GenOnly g m s t) (k : ∃ n, GenOnly g n t u) : ∃ n, GenOnly g n s u := by
  obtain ⟨n, k⟩ := k
  exact ⟨_, h.trans k⟩

theorem State.trigger_only (s : State) (g : GenId) (source : TriggerSource) : ∃ n, GenOnly g n s (s.trigger g source) := by
  have lost : ∃ n, GenOnly g n s (s.postGen g (.triggerLost g source (s.gen g).state)) := ⟨1, s.postGen_only g rfl⟩
  have held :
      ∃ n, GenOnly g n s
        (if (s.gen g).pendingTrigger then s.postGen g (.triggerLost g source (s.gen g).state)
        else s.modGen g fun n => { n with pendingTrigger := true }) := by
    split
    · exact lost
    · exact ⟨0, s.modGen_only g _⟩
  unfold State.trigger
  dsimp only
  split
  · split
    · exact (s.startMove_only g _ true).some_trans (State.thenNext_only _ g)
    · exact ⟨0, .refl _ _ _⟩
  all_goals first | exact held | exact lost

theorem State.rampStop_only (s : State) (g : GenId) : ∃ n, GenOnly g n s (s.rampStop g) := by
  have ended := (s.flushAll_only g).some_trans (State.endMove_only _ g .stopped)
  have slow := ((s.flushAll_only g).trans (State.brake_only _ g .stop)).some_trans (State.thenNext_only _ g)
  unfold State.rampStop
  split <;> first | exact ⟨0, .refl _ _ _⟩ | exact ended | exact slow

theorem State.haltEntry_only (s : State) (g : GenId) : ∃ n, GenOnly g n s (s.haltEntry g) := by
  have pre := (s.modGen_only g fun n => { n with halt := true }).trans (State.flushAll_only _ g)
  have ended := pre.some_trans (State.endMove_only _ g .halted)
  have slow := (pre.trans (State.brake_only _ g .halt)).some_trans (State.thenNext_only _ g)
  unfold State.haltEntry
  dsimp only
  split
  · exact ⟨_, pre.trans (State.modGen_only _ g _)⟩
  · exact ended
  · exact ended
  · exact ended
  · exact slow
  · exact slow
  · exact ⟨_, pre.trans (State.modGen_only _ g _)⟩
  · exact ⟨_, pre⟩

theorem State.haltClear_only (s : State) (g : GenId) : GenOnly g 1 s (s.haltClear g) := by
  unfold State.haltClear
  dsimp only
  split
  · exact ((s.modGen_only g _).trans (State.modGen_only _ g _)).trans (State.reportIdle_only _ g)
  · exact (s.modGen_only g _).mono (by omega)

theorem State.takeStep_only (s : State) (g : GenId) : ∃ n, GenOnly g n s (s.takeStep g) :=
  ((s.issueStep_only g).trans (State.afterStep_only _ g _)).some_trans (State.thenNext_only _ g)

theorem State.rampTick_only (s : State) (g : GenId) : ∃ n, GenOnly g n s (s.rampTick g) := by
  have pre : GenOnly g 0 s (s.modGen g fun n => { n with rampLeft := some 1 }) := s.modGen_only g _
  have stopped (t : State) : ∃ n, GenOnly g n t ((t.closeStopped g).nextMove g) :=
    ⟨_, (t.closeStopped_only g).trans (State.nextMove_only _ g)⟩
  unfold State.rampTick
  dsimp only
  generalize s.modGen g (fun n => { n with rampLeft := some 1 }) = t at pre ⊢
  split
  · split
    · exact ⟨_, pre⟩
    · split
      · exact ⟨_, pre.trans (State.modGen_only _ g _)⟩
      · exact pre.some_trans (State.endMove_only _ g _)
  · exact ⟨_, pre.trans (State.modGen_only _ g _)⟩
  · split
    · exact pre.some_trans (stopped _)
    · split
      · exact (pre.trans (State.modGen_only _ g _)).some_trans (stopped _)
      · exact ⟨_, pre.trans (State.modGen_only _ g _)⟩
  all_goals exact ⟨0, .refl _ _ _⟩

theorem State.followEvent_only (s : State) (x : AxisId) (d : AxisDir) (g : GenId) :
    ∃ n, GenOnly g n s (s.followEvent x d g) := by
  unfold State.followEvent
  dsimp only
  split
  · split
    · split
      · split
        · exact ⟨_, s.modGen_only g _⟩
        · exact (s.flush_only g).some_trans (State.endMove_only _ g _)
      all_goals exact ⟨0, .refl _ _ _⟩
    · exact ⟨0, .refl _ _ _⟩
  · exact ⟨0, .refl _ _ _⟩

theorem State.searchDone_only (s : State) (g : GenId) (f : HomeFields) : ∃ n, GenOnly g n s (s.searchDone g f) :=
  (s.modGen_only g _).some_trans (State.endMove_only _ g _)

theorem State.refEdgeAt_only (s : State) (line : RefLine) (rising : Bool) (g : GenId) :
    ∃ n, GenOnly g n s (s.refEdgeAt line rising g) := by
  have stands : ∃ n, GenOnly g n s s := ⟨0, .refl _ _ _⟩
  unfold State.refEdgeAt
  split
  · exact stands
  · split
    · split
      · exact ⟨_, s.modGen_only g _⟩
      · split
        · exact stands
        · exact ⟨_, s.modGen_only g _⟩
      · split
        · exact (s.failSearch_only g _).some_trans (State.thenNext_only _ g)
        · exact stands
      · split
        · exact s.searchDone_only g _
        · exact stands
      all_goals exact stands
    · exact stands

theorem State.markerEdgeAt_only (s : State) (e : Encoder) (g : GenId) : ∃ n, GenOnly g n s (s.markerEdgeAt e g) := by
  unfold State.markerEdgeAt
  split
  · exact ⟨0, .refl _ _ _⟩
  · split
    · dsimp only
      split
      · exact (s.modGen_only g _).some_trans (State.searchDone_only _ g _)
      · exact ⟨_, s.modGen_only g _⟩
    · exact ⟨0, .refl _ _ _⟩

theorem State.append_only (s : State) (g : GenId) (r : MoveRecord) : ∃ n, GenOnly g n s (s.append g r) := by
  have pre : GenOnly g 0 s (s.modGen g fun n => { n with queue := n.queue ++ [r] }) := s.modGen_only g _
  unfold State.append
  dsimp only
  split
  · exact ⟨_, pre.trans (State.nextMove_only _ g)⟩
  · split
    · exact ⟨_, pre⟩
    · split
      · split
        · exact ⟨_, pre.trans (State.modGen_only _ g _)⟩
        · exact ⟨_, pre⟩
      · exact pre.some_trans (State.endMove_only _ g _)
      all_goals exact ⟨_, pre⟩

end Sys2Proof.Machine
end

section
/-! SUPPORT. The law of an axis record (Table 1.1) under each of its operations, and what the capture unit writes. -/

namespace Sys2Proof.Machine

/-! ### Ranges -/

theorem saturate_range (i : Int) : -2147483647 ≤ saturate i ∧ saturate i ≤ 2147483647 := by
  unfold saturate Config.speedBound
  omega

theorem inCountRange_iff (i : Int) : inCountRange i = true ↔ -2000000000 ≤ i ∧ i ≤ 2000000000 := by
  unfold inCountRange
  rw [Bool.and_eq_true, decide_eq_true_eq, decide_eq_true_eq]
  rfl

theorem count16_le (n : Nat) : count16 n ≤ 65535 := by
  unfold count16
  omega

/-! ### The capture unit (R13 to R15) -/

/-- An axis after a capture (R13 to R15): a record in the log, or one more lost. -/
def Axis.logged (a : Axis) (source : CaptureSource) (position : Int) (now : Word) : Axis :=
  if a.log.length < Config.capturePlaces then { a with log := a.log ++ [a.recordAt source position now] }
  else { a with lost := count16 (a.lost + 1), lossReported := true }

/-- An axis after an edge on a capture source (R13). -/
def Axis.captured (a : Axis) (source : CaptureSource) (rising : Bool) (now : Word) : Axis :=
  match a.armedFor source rising with
  | none => a
  | some m =>
    if a.log.length < Config.capturePlaces then { a.logged source a.extended now with arming := m.less }
    else a.logged source a.extended now

theorem State.modAxis_congr (s : State) (x : AxisId) {f h : Axis → Axis} (e : f (s.axis x) = h (s.axis x)) :
    s.modAxis x f = s.modAxis x h := by
  unfold State.modAxis
  rw [e]

theorem State.logCapture_axes (s : State) (x : AxisId) (source : CaptureSource) (position : Int) :
    (s.logCapture x source position).1.axes = (s.modAxis x fun a => a.logged source position s.now).axes := by
  unfold State.logCapture
  dsimp only
  split <;> rename_i full
  · have room : s.modAxis x (fun a => { a with log := a.log ++ [a.recordAt source position s.now] }) =
        s.modAxis x fun a => a.logged source position s.now :=
      s.modAxis_congr x (by unfold Axis.logged; rw [if_pos full])
    rw [← room]
  · have lost : s.modAxis x (fun a => { a with lost := count16 (a.lost + 1), lossReported := true }) =
        s.modAxis x fun a => a.logged source position s.now :=
      s.modAxis_congr x (by unfold Axis.logged; rw [if_neg full])
    dsimp only
    split
    · rw [← lost]
    · rw [(State.postHolder_reach _ _ _).axes, ← lost]

theorem State.logCapture_logged (s : State) (x : AxisId) (source : CaptureSource) (position : Int) :
    (s.logCapture x source position).2 = decide ((s.axis x).log.length < Config.capturePlaces) := by
  unfold State.logCapture
  dsimp only
  split <;> rename_i full <;> simp [full]

theorem State.modAxis_axes_congr {s t : State} (x : AxisId) (f : Axis → Axis) (e : t.axes = s.axes) :
    (t.modAxis x f).axes = (s.modAxis x f).axes := by
  unfold State.modAxis State.axis
  rw [e]

theorem State.modAxis_modAxis (s : State) (x : AxisId) (f h : Axis → Axis) :
    (s.modAxis x f).modAxis x h = s.modAxis x fun a => h (f a) := by
  cases x <;> rfl

theorem State.captureEdge_axes (s : State) (x : AxisId) (source : CaptureSource) (rising : Bool) :
    (s.captureEdge x source rising).axes = (s.modAxis x fun a => a.captured source rising s.now).axes := by
  unfold State.captureEdge
  split <;> rename_i armed
  · have stands : s.modAxis x (fun a => a.captured source rising s.now) = s.modAxis x id :=
      s.modAxis_congr x (by unfold Axis.captured; rw [armed]; rfl)
    rw [stands]
    cases x <;> rfl
  · rename_i m
    have axes := s.logCapture_axes x source (s.axis x).extended
    have logged := s.logCapture_logged x source (s.axis x).extended
    generalize s.logCapture x source (s.axis x).extended = r at axes logged
    obtain ⟨t, b⟩ := r
    dsimp only at axes logged ⊢
    by_cases full : (s.axis x).log.length < Config.capturePlaces
    · have armedLess : (t.modAxis x fun a => { a with arming := m.less }).axes =
          (s.modAxis x fun a => a.captured source rising s.now).axes := by
        rw [State.modAxis_axes_congr x _ axes, State.modAxis_modAxis]
        exact congrArg State.axes (s.modAxis_congr x (by unfold Axis.captured; rw [armed]; simp only [if_pos full]))
      rw [decide_eq_true full] at logged
      subst logged
      simp only [if_true]
      split
      · rw [(State.postHolder_reach _ _ _).axes, armedLess]
      · exact armedLess
    · rw [decide_eq_false full] at logged
      subst logged
      simp only [Bool.false_eq_true, if_false]
      rw [axes]
      exact congrArg State.axes (s.modAxis_congr x (by unfold Axis.captured; rw [armed]; simp only [if_neg full]))

/-! ### The law of an axis under its operations -/

theorem Axis.logged_keeps (a : Axis) (source : CaptureSource) (position : Int) (now : Word) :
    a.logged source position now =
      { a with
        log := (a.logged source position now).log, lost := (a.logged source position now).lost,
        lossReported := (a.logged source position now).lossReported } := by
  unfold Axis.logged
  split <;> rfl

theorem Axis.captured_keeps (a : Axis) (source : CaptureSource) (rising : Bool) (now : Word) :
    a.captured source rising now =
      { a with
        arming := (a.captured source rising now).arming, log := (a.captured source rising now).log,
        lost := (a.captured source rising now).lost, lossReported := (a.captured source rising now).lossReported } := by
  unfold Axis.captured
  split
  · rfl
  · split
    · rw [a.logged_keeps source a.extended now]
    · rw [a.logged_keeps source a.extended now]

namespace Axis.Lawful

variable {a : Axis}

theorem logged (h : a.Lawful) (source : CaptureSource) (position : Int) (now : Word) : (a.logged source position now).Lawful := by
  unfold Axis.logged
  split <;> rename_i full
  · refine { h with log_places := ?_ }
    rw [List.length_append]
    exact full
  · exact { h with lost_range := count16_le _ }

theorem armed (h : a.Lawful) {m : CaptureArming} (l : 1 ≤ m.remaining ∧ m.remaining ≤ 8) :
    ({ a with arming := some m } : Axis).Lawful := by
  refine { h with arming_range := fun k hk => ?_ }
  cases hk
  exact l

theorem unarmed (h : a.Lawful) : ({ a with arming := none } : Axis).Lawful := { h with arming_range := nofun }

theorem less (h : a.Lawful) {m : CaptureArming} (l : 1 ≤ m.remaining ∧ m.remaining ≤ 8) :
    ({ a with arming := m.less } : Axis).Lawful := by
  unfold CaptureArming.less
  split
  · exact h.unarmed
  · exact h.armed (by dsimp only; omega)

theorem captured (h : a.Lawful) (source : CaptureSource) (rising : Bool) (now : Word) : (a.captured source rising now).Lawful := by
  unfold Axis.captured
  split
  · exact h
  · rename_i m c
    have held : a.arming = some m := by
      unfold Axis.armedFor at c
      split at c
      · cases c
      · rename_i k hk
        split at c
        · cases c; exact hk
        · cases c
    split
    · exact (h.logged source _ now).less (h.arming_range _ held)
    · exact h.logged source _ now

theorem counted (h : a.Lawful) (d : AxisDir) : (a.counted d).Lawful := { h with accumulation_range := saturate_range _ }

theorem advanced (h : a.Lawful) {d : AxisDir} {turn position : Int} {rollover : Bool}
    (e : a.advance d = some (turn, position, rollover)) : ({ a with turn := turn, position := position } : Axis).Lawful := by
  have cycle := h.cycle_range
  refine { h with rotary_place := fun (m : a.mode = .rotary) => ?_, linear_place := fun (m : a.mode = .linear) => ?_ }
  · have place := h.rotary_place m
    unfold Axis.advance at e
    rw [m] at e
    cases d <;> dsimp only at e <;> split at e
    · cases e; dsimp only; omega
    · split at e <;> cases e; dsimp only; omega
    · cases e; dsimp only; omega
    · split at e <;> cases e; dsimp only; omega
  · have place := h.linear_place m
    unfold Axis.advance at e
    rw [m] at e
    unfold Config.countBound at e
    cases d <;> dsimp only at e <;> split at e <;> cases e <;> dsimp only <;> omega

theorem overrange (h : a.Lawful) : ({ a with status := .overrange } : Axis).Lawful := { h with }

theorem gated (h : a.Lawful) : a.gated.Lawful :=
  { h with
    gate_range := ⟨h.gate_range.1, h.gate_range.2.1, le_refl _⟩
    accumulation_range := by dsimp only [Axis.gated]; omega
    velocity_range := saturate_range _ }

theorem restartGate (h : a.Lawful) : a.restartGate.Lawful :=
  { h with
    gate_range := ⟨h.gate_range.1, h.gate_range.2.1, le_refl _⟩
    accumulation_range := by dsimp only [Axis.restartGate]; omega }

theorem configured (h : a.Lawful) (mode : AxisMode) {cycle : Nat} (sense : Sense) {gate : Nat}
    (c : 16 ≤ cycle ∧ cycle ≤ 1048576) (g : 1 ≤ gate ∧ gate ≤ 1000) : (a.configured mode cycle sense gate).Lawful :=
  { cycle_range := c
    gate_range := ⟨g.1, g.2, le_refl _⟩
    rotary_place := fun _ => by dsimp only [Axis.configured, Axis.restartGate]; omega
    linear_place := fun _ => by dsimp only [Axis.configured, Axis.restartGate]; omega
    accumulation_range := by dsimp only [Axis.configured, Axis.restartGate]; omega
    velocity_range := by dsimp only [Axis.configured, Axis.restartGate]; omega
    arming_range := h.arming_range
    log_places := h.log_places
    lost_range := h.lost_range }

theorem preset (h : a.Lawful) {turn position : Int} (v : a.validPlace turn position = true) :
    (a.preset turn position).Lawful := by
  refine Axis.Lawful.restartGate
    { h with rotary_place := fun (m : a.mode = .rotary) => ?_, linear_place := fun (m : a.mode = .linear) => ?_ }
  · rw [Axis.validPlace, m] at v
    simpa [and_assoc] using v
  · rw [Axis.validPlace, m] at v
    simpa [and_assoc, inCountRange_iff] using v

theorem cleanup (h : a.Lawful) : a.cleanup.Lawful :=
  { h with arming_range := nofun, log_places := Nat.zero_le _, lost_range := Nat.zero_le _ }

theorem readOut (h : a.Lawful) : ({ a with log := [], lost := 0, lossReported := false } : Axis).Lawful :=
  { h with log_places := Nat.zero_le _, lost_range := Nat.zero_le _ }

theorem millisecond (h : a.Lawful) : a.millisecond.Lawful :=
  { h with gate_range := ⟨h.gate_range.1, h.gate_range.2.1, (Nat.sub_le _ _).trans h.gate_range.2.2⟩ }

end Axis.Lawful

theorem State.AxesLawful.congr {s t : State} (h : s.AxesLawful) (e : t.axes = s.axes) : t.AxesLawful := by
  have axis (x : AxisId) : t.axis x = s.axis x := by unfold State.axis; rw [e]
  exact ⟨fun x => axis x ▸ h.each x, axis .v ▸ h.v_normal⟩

/-- The laws of the axes under a change of one, V keeping its sense. -/
theorem State.AxesLawful.modAxis {s : State} (h : s.AxesLawful) (x : AxisId) (f : Axis → Axis) (l : (f (s.axis x)).Lawful)
    (v : (f (s.axis x)).sense = (s.axis x).sense ∨ x ≠ .v ∨ (f (s.axis x)).sense = .normal) : (s.modAxis x f).AxesLawful := by
  refine ⟨fun y => ?_, ?_⟩
  · rw [State.modAxis_axis]
    split
    · exact l
    · exact h.each y
  · rw [State.modAxis_axis]
    split
    · rename_i e
      subst e
      rcases v with v | v | v
      · exact v.trans h.v_normal
      · exact absurd rfl v
      · exact v
    · exact h.v_normal

end Sys2Proof.Machine
end

section
/-! SUPPORT. The laws of channels, slots and cam levels under the operations of the output channels and of the cam engine. -/

namespace Sys2Proof.Machine

/-! ### Reading what the cam engine writes -/

theorem State.arrive_channel (s : State) (o q : OutputId) (f : Channel → Channel) :
    (s.arrive o f).channel q =
      if q = o then { f (s.channel o) with line := (f (s.channel o)).effective } else s.channel q := by
  split
  · subst q; exact s.arrive_channel_same o f
  · rename_i h; exact s.arrive_channel_other o q f h

/-- The effective level does not read the line (R69). -/
theorem Channel.effective_line (c : Channel) (l : Level) : ({ c with line := l } : Channel).effective = c.effective := rfl

theorem Vector.getElem_set_fin {α : Type} {n : Nat} (v : Vector α n) (i j : Fin n) (x : α) :
    (v.set i x)[j] = if j = i then x else v[j] := by
  by_cases h : j = i
  · subst j; simp
  · have : i.val ≠ j.val := fun e => h (Fin.ext e.symm)
    simp [h, this]

/-- Whether a slot holds the cam level of an output up (R43). -/
def Slot.drives (w : Slot) (o : OutputId) : Bool := w.status.counts && decide (w.output = o) && w.inside

theorem State.camOf_iff (s : State) (o : OutputId) : s.camOf o = true ↔ ∃ i : Fin 48, s.slots[i].drives o = true := by
  unfold State.camOf
  rw [List.any_eq_true]
  constructor
  · rintro ⟨w, hw, h⟩
    obtain ⟨i, hi, rfl⟩ := Vector.mem_iff_getElem.mp (Vector.mem_toList_iff.mp hw)
    exact ⟨⟨i, hi⟩, h⟩
  · rintro ⟨i, h⟩
    exact ⟨s.slots[i], Vector.mem_toList_iff.mpr (Vector.getElem_mem i.isLt), h⟩

/-- The cam level of an output stands where each slot drives it as before. -/
theorem State.camOf_congr {s t : State} {o : OutputId} (h : ∀ i : Fin 48, t.slots[i].drives o = s.slots[i].drives o) :
    t.camOf o = s.camOf o := by
  rw [Bool.eq_iff_iff, State.camOf_iff, State.camOf_iff]
  exact exists_congr fun i => by rw [h i]

theorem State.camOf_congr_slots {s t : State} (h : t.slots = s.slots) (o : OutputId) : t.camOf o = s.camOf o :=
  State.camOf_congr fun i => by rw [h]

@[simp] theorem State.recompose_slots (s : State) (o : OutputId) : (s.recompose o).slots = s.slots := by
  unfold State.recompose
  split <;> rfl

theorem State.recompose_camLevels (s : State) (o q : OutputId) :
    (s.recompose o).camLevels[q] = if q = o then s.camOf o else s.camLevels[q] := by
  unfold State.recompose
  split <;> rename_i h
  · split
    · subst q; exact h.symm
    · rfl
  · exact Vector.getElem_set_fin _ _ _ _

theorem State.recompose_channel (s : State) (o q : OutputId) :
    (s.recompose o).channel q =
      if q = o ∧ s.camOf o ≠ s.camLevels[o] then
        { (s.channel o).takeCam (s.camOf o) with line := ((s.channel o).takeCam (s.camOf o)).effective }
      else s.channel q := by
  unfold State.recompose
  split <;> rename_i h
  · rw [if_neg (fun c => c.2 h)]
  · rw [State.arrive_channel]
    by_cases e : q = o
    · rw [if_pos e, if_pos ⟨e, h⟩]; rfl
    · rw [if_neg e, if_neg (fun c => e c.1)]; rfl

theorem State.evaluateSlots_slot (s : State) (x : AxisId) (pick : Slot → Bool) (i : Fin 48) :
    (s.evaluateSlots x pick).slots[i] =
      if s.slots[i].axis = x ∧ pick s.slots[i] = true then s.slots[i].evaluated (s.axis x) else s.slots[i] := by
  have at_i := mapVector_get (fun w => if decide (w.axis = x) && pick w then w.evaluated (s.axis x) else w) s.slots i i.isLt
  refine at_i.trans ?_
  simp only [Bool.and_eq_true, decide_eq_true_eq]
  rfl

theorem State.mem_outputsOn {s : State} {x : AxisId} {i : Fin 48} (a : s.slots[i].axis = x) (f : s.slots[i].status ≠ .free) :
    s.slots[i].output ∈ s.outputsOn x := by
  refine List.mem_map.mpr ⟨s.slots[i], List.mem_filter.mpr ⟨Vector.mem_toList_iff.mpr (Vector.getElem_mem i.isLt), ?_⟩, rfl⟩
  rw [decide_eq_true a, decide_eq_true f]
  rfl

/-! ### Slots under their operations -/

@[simp] theorem Slot.evaluated_status (a : Axis) (w : Slot) : (w.evaluated a).status = w.status := by
  unfold Slot.evaluated; split <;> rfl
@[simp] theorem Slot.evaluated_axis (a : Axis) (w : Slot) : (w.evaluated a).axis = w.axis := by
  unfold Slot.evaluated; split <;> rfl
@[simp] theorem Slot.evaluated_output (a : Axis) (w : Slot) : (w.evaluated a).output = w.output := by
  unfold Slot.evaluated; split <;> rfl

theorem SlotStatus.counts_iff (c : SlotStatus) : c.counts = true ↔ c ≠ .free ∧ c ≠ .staged := by cases c <;> simp [counts]

theorem Slot.not_drives_of_free {w : Slot} (h : w.status = .free) (o : OutputId) : w.drives o = false := by
  simp [Slot.drives, h, SlotStatus.counts]

theorem Slot.drives_other {w : Slot} {o : OutputId} (h : w.output ≠ o) : w.drives o = false := by simp [Slot.drives, h]

theorem Slot.evaluated_of_free {w : Slot} (h : w.status = .free) (a : Axis) : w.evaluated a = w := by
  simp [Slot.evaluated, h, SlotStatus.counts]

theorem Slot.free_lawful : Slot.free.Lawful := ⟨rfl, rfl, rfl⟩

theorem Slot.Lawful.evaluated {w : Slot} (h : w.Lawful) (a : Axis) : (w.evaluated a).Lawful := by
  unfold Slot.evaluated
  split <;> rename_i c
  · unfold Slot.Lawful at h ⊢
    dsimp only
    cases e : w.status <;> rw [e] at h c <;> first | exact h | exact absurd c (by decide)
  · exact h

theorem Slot.Lawful.committed {w : Slot} (h : w.Lawful) : w.committed.Lawful := by
  unfold Slot.committed
  split <;> rename_i e <;> unfold Slot.Lawful at h <;> rw [e] at h
  · exact ⟨h.2.1, rfl⟩
  · exact ⟨h.2, rfl⟩
  · exact Slot.free_lawful
  · unfold Slot.Lawful; rw [e]; exact h
  · unfold Slot.Lawful; rw [e]; exact h

theorem Slot.Lawful.edited {w : Slot} (h : w.Lawful) (c : WindowCopy) : (w.edited c).Lawful := by
  unfold Slot.edited
  split <;> rename_i e <;> unfold Slot.Lawful at h <;> rw [e] at h <;> unfold Slot.Lawful
  · simpa only [e] using ⟨h.1, rfl, h.2.2⟩
  · exact ⟨h.1, rfl⟩
  · simpa only [e] using ⟨h.1, rfl⟩
  · exact ⟨h.1, rfl⟩
  · rw [e]; exact h

theorem Slot.Lawful.deleted {w : Slot} (h : w.Lawful) : w.deleted.Lawful := by
  unfold Slot.deleted
  split <;> rename_i e
  · exact Slot.free_lawful
  all_goals
    unfold Slot.Lawful at h ⊢
    rw [e] at h
  · exact h
  · exact ⟨h.1, rfl⟩
  · rw [e]; exact h
  · rw [e]; exact h

/-! ### The three laws of the outputs together -/

/-- The laws of the channels, the slots and the cam levels. -/
structure State.WindowsLawful (s : State) : Prop where
  channels : s.ChannelsLawful
  cam : s.CamLawful
  slots : s.SlotsLawful

/-- The channels' copies are the cam engine's levels (R68). -/
def State.CamAgrees (s : State) : Prop := ∀ o : OutputId, (s.channel o).cam = s.camLevels[o]

theorem State.CamLawful.agrees {s : State} (h : s.CamLawful) : s.CamAgrees := fun o => (h o).2.trans (h o).1.symm

theorem State.inForceAt_congr {s t : State} (halt : t.halt = s.halt) (handing : t.handing = s.handing) (r : HaltReceiver) :
    t.inForceAt r = s.inForceAt r := by
  unfold State.inForceAt
  rw [halt, handing]

theorem State.ChannelsLawful.congr {s t : State} (h : s.ChannelsLawful) (channels : t.channels = s.channels)
    (halt : t.halt = s.halt) (handing : t.handing = s.handing) : t.ChannelsLawful := fun o => by
  have c : t.channel o = s.channel o := by unfold State.channel; rw [channels]
  rw [c, State.inForceAt_congr halt handing]
  exact h o

theorem State.CamLawful.congr {s t : State} (h : s.CamLawful) (slots : t.slots = s.slots) (levels : t.camLevels = s.camLevels)
    (channels : t.channels = s.channels) : t.CamLawful := fun o => by
  have c : t.channel o = s.channel o := by unfold State.channel; rw [channels]
  rw [State.camOf_congr_slots slots, c, levels]
  exact h o

theorem State.SlotsLawful.congr {s t : State} (h : s.SlotsLawful) (slots : t.slots = s.slots)
    (held : ∀ o, (s.claim (.output o)).state = .held → (t.claim (.output o)).state = .held) : t.SlotsLawful := fun i => by
  rw [slots]
  exact ⟨(h i).1, fun f => held _ ((h i).2 f)⟩

theorem State.WindowsLawful.congr {s t : State} (h : s.WindowsLawful) (slots : t.slots = s.slots)
    (levels : t.camLevels = s.camLevels) (channels : t.channels = s.channels) (halt : t.halt = s.halt)
    (handing : t.handing = s.handing)
    (held : ∀ o, (s.claim (.output o)).state = .held → (t.claim (.output o)).state = .held) : t.WindowsLawful :=
  ⟨h.channels.congr channels halt handing, h.cam.congr slots levels channels, h.slots.congr slots held⟩

/-- A channel changed in anything but its copies of halt and cam level, and its line recomputed (R70). -/
theorem Channel.Lawful.arrived {b : Bool} {c : Channel} {f : Channel → Channel} (h : c.Lawful b) (halt : (f c).halt = c.halt)
    (pulse : (f c).pulse.isSome = true → (f c).overlay = .high) :
    ({ f c with line := (f c).effective } : Channel).Lawful b :=
  ⟨halt.trans h.halt_copy, rfl, pulse⟩

theorem State.ChannelsLawful.arrive {s : State} (h : s.ChannelsLawful) (o : OutputId) (f : Channel → Channel)
    (halt : (f (s.channel o)).halt = (s.channel o).halt)
    (pulse : (f (s.channel o)).pulse.isSome = true → (f (s.channel o)).overlay = .high) : (s.arrive o f).ChannelsLawful := by
  intro q
  have force : (s.arrive o f).inForceAt (.output q) = s.inForceAt (.output q) := State.inForceAt_congr rfl rfl _
  rw [State.arrive_channel, force]
  split
  · rename_i e
    subst q
    exact (h o).arrived halt pulse
  · exact h q

/-- An arrival at a channel that leaves its copies of halt and cam level (R70). -/
theorem State.WindowsLawful.arrive {s : State} (h : s.WindowsLawful) (o : OutputId) (f : Channel → Channel)
    (halt : (f (s.channel o)).halt = (s.channel o).halt) (cam : (f (s.channel o)).cam = (s.channel o).cam)
    (pulse : (f (s.channel o)).pulse.isSome = true → (f (s.channel o)).overlay = .high) : (s.arrive o f).WindowsLawful := by
  refine ⟨h.channels.arrive o f halt pulse, fun q => ?_, h.slots.congr rfl fun _ k => k⟩
  refine ⟨(h.cam q).1, ?_⟩
  rw [State.arrive_channel]
  split
  · rename_i e
    subst q
    exact cam.trans (h.cam o).2
  · exact (h.cam q).2

/-! ### Recomposing -/

theorem State.ChannelsLawful.recompose {s : State} (h : s.ChannelsLawful) (o : OutputId) : (s.recompose o).ChannelsLawful := by
  intro q
  have reach := s.recompose_reach o
  rw [State.recompose_channel, State.inForceAt_congr reach.halt reach.handing]
  split
  · rename_i e
    obtain ⟨rfl, -⟩ := e
    exact (h q).arrived (f := Channel.takeCam (s.camOf q)) rfl (h q).pulse_high
  · exact h q

theorem State.CamAgrees.recompose {s : State} (h : s.CamAgrees) (o : OutputId) : (s.recompose o).CamAgrees := by
  intro q
  rw [State.recompose_channel, State.recompose_camLevels]
  by_cases e : q = o
  · subst q
    by_cases c : s.camOf o = s.camLevels[o]
    · rw [if_neg (fun k => k.2 c), if_pos rfl, c]; exact h o
    · rw [if_pos ⟨rfl, c⟩, if_pos rfl]; rfl
  · rw [if_neg (fun k => e k.1), if_neg e]; exact h q

theorem State.recompose_camOf (s : State) (o q : OutputId) : (s.recompose o).camOf q = s.camOf q :=
  State.camOf_congr_slots (s.recompose_slots o) q

@[simp] theorem State.recomposeAll_slots (s : State) (os : List OutputId) : (s.recomposeAll os).slots = s.slots := by
  unfold State.recomposeAll
  induction os generalizing s with
  | nil => rfl
  | cons o os ih => exact (ih (s.recompose o)).trans (s.recompose_slots o)

/-- Outputs recomposed: every one among them stands at its cam level, and with the channels' copies all do where the
others did (R43). -/
theorem State.recomposeAll_lawful (os : List OutputId) (s : State) (agrees : s.CamAgrees) (channels : s.ChannelsLawful)
    (others : ∀ o : OutputId, o ∉ os → s.camLevels[o] = s.camOf o) :
    (s.recomposeAll os).CamLawful ∧ (s.recomposeAll os).ChannelsLawful := by
  induction os generalizing s with
  | nil =>
    have right (o : OutputId) : s.camLevels[o] = s.camOf o := others o (by simp)
    exact ⟨fun o => ⟨right o, (agrees o).trans (right o)⟩, channels⟩
  | cons o os ih =>
    refine ih (s.recompose o) (agrees.recompose o) (channels.recompose o) fun q hq => ?_
    rw [State.recompose_camLevels, State.recompose_camOf]
    split
    · rename_i e; rw [e]
    · rename_i e; exact others q (by simp [e, hq])

/-- Slots changed, and the outputs that may stand otherwise recomposed. -/
theorem State.WindowsLawful.recomposeAll {s t : State} (h : s.WindowsLawful) (os : List OutputId)
    (levels : t.camLevels = s.camLevels) (channels : t.channels = s.channels) (halt : t.halt = s.halt)
    (handing : t.handing = s.handing) (slots : t.SlotsLawful)
    (others : ∀ o : OutputId, o ∉ os → ∀ i : Fin 48, t.slots[i].drives o = s.slots[i].drives o) :
    (t.recomposeAll os).WindowsLawful := by
  have channel (o : OutputId) : t.channel o = s.channel o := by unfold State.channel; rw [channels]
  have agrees : t.CamAgrees := fun o => by rw [channel, levels]; exact h.cam.agrees o
  obtain ⟨cam, ch⟩ := State.recomposeAll_lawful os t agrees (h.channels.congr channels halt handing) fun o ho => by
    rw [levels, State.camOf_congr (others o ho)]; exact (h.cam o).1
  have reach := t.recomposeAll_reach os
  exact ⟨ch, cam, slots.congr (t.recomposeAll_slots os) fun o k => by unfold State.claim; rw [reach.claims]; exact k⟩

/-! ### Evaluations and commits -/

/-- Slots with lawful copies that drive outputs of claims that are HELD. -/
theorem State.SlotsLawful.mk' {s t : State} (h : s.SlotsLawful) (lawful : ∀ i : Fin 48, t.slots[i].Lawful)
    (output : ∀ i : Fin 48, t.slots[i].status ≠ .free →
      s.slots[i].status ≠ .free ∧ t.slots[i].output = s.slots[i].output)
    (held : ∀ o, (s.claim (.output o)).state = .held → (t.claim (.output o)).state = .held) : t.SlotsLawful := fun i =>
  ⟨lawful i, fun f => by
    obtain ⟨f', e⟩ := output i f
    rw [e]
    exact held _ ((h i).2 f')⟩

theorem State.SlotsLawful.evaluateSlots {s : State} (h : s.SlotsLawful) (x : AxisId) (pick : Slot → Bool) :
    (s.evaluateSlots x pick).SlotsLawful := by
  refine h.mk' (fun i => ?_) (fun i f => ?_) fun _ k => k <;> rw [State.evaluateSlots_slot] at *
  · split
    · exact (h i).1.evaluated _
    · exact (h i).1
  · split at f
    · rename_i e; rw [if_pos e]; simpa using f
    · rename_i e; rw [if_neg e]; exact ⟨f, rfl⟩

/-- The evaluation of all windows on an axis (R37, R43). -/
theorem State.WindowsLawful.evaluateAxis {s : State} (h : s.WindowsLawful) (x : AxisId) : (s.evaluateAxis x).WindowsLawful := by
  refine h.recomposeAll _ rfl rfl rfl rfl (h.slots.evaluateSlots x _) fun o ho i => ?_
  rw [State.evaluateSlots_slot]
  split <;> rename_i e
  · by_cases f : s.slots[i].status = .free
    · rw [Slot.not_drives_of_free f, Slot.not_drives_of_free (by simpa using f)]
    · have other : s.slots[i].output ≠ o := fun c => ho (c ▸ State.mem_outputsOn e.1 f)
      rw [Slot.drives_other other, Slot.drives_other (by rw [Slot.evaluated_output]; exact other)]
  · rfl

theorem Slot.committed_status (w : Slot) : w.committed.status = .free ∨ (w.status ≠ .free ∧ w.committed.status = .live) := by
  unfold Slot.committed
  split <;> rename_i e <;> simp [Slot.free, e]

theorem Slot.committed_output {w : Slot} (h : w.committed.status ≠ .free) :
    w.committed.output = w.output ∧ w.committed.axis = w.axis := by
  unfold Slot.committed at h ⊢
  split <;> rename_i e
  · exact ⟨rfl, rfl⟩
  · exact ⟨rfl, rfl⟩
  · rw [e] at h; exact absurd rfl h
  · exact ⟨rfl, rfl⟩
  · exact ⟨rfl, rfl⟩

theorem State.ownWindow_iff (s : State) (p : PortId) (x : AxisId) (w : Slot) :
    s.ownWindow p x w = true ↔ w.status ≠ .free ∧ w.axis = x ∧ s.holds p (.output w.output) = true := by
  simp [State.ownWindow, and_assoc]

/-- The slots as a commit has changed those of a session on an axis (R29), before any evaluation. -/
def State.commitSlots (s : State) (p : PortId) (x : AxisId) : State :=
  { s with slots := mapVector (fun w => if s.ownWindow p x w then w.committed else w) s.slots }

/-- The commit of a session on an axis by its parts (R29, R36). -/
theorem State.applyCommit_eq (s : State) (p : PortId) (x : AxisId) (timing : CommitTiming) :
    s.applyCommit p x timing =
      (((s.commitSlots p x).evaluateSlots x fun w => decide (w.status = .live) && s.holds p (.output w.output)).recomposeAll
        ((s.slots.toList.filter (s.ownWindow p x)).map Slot.output)).post p
        (.commitDone x timing (s.slots.toList.filter fun w => s.ownWindow p x w && w.status.changes).length
          (s.axis x).extended) := rfl

theorem State.commitSlots_slot (s : State) (p : PortId) (x : AxisId) (i : Fin 48) :
    (s.commitSlots p x).slots[i] = if s.ownWindow p x s.slots[i] = true then s.slots[i].committed else s.slots[i] :=
  mapVector_get (fun w => if s.ownWindow p x w then w.committed else w) s.slots i i.isLt

theorem State.SlotsLawful.commitSlots {s : State} (h : s.SlotsLawful) (p : PortId) (x : AxisId) :
    (s.commitSlots p x).SlotsLawful := by
  refine h.mk' (fun i => ?_) (fun i f => ?_) fun _ k => k <;> rw [State.commitSlots_slot] at *
  · split
    · exact (h i).1.committed
    · exact (h i).1
  · split at f
    · rename_i e
      rw [if_pos e]
      exact ⟨((s.ownWindow_iff p x _).mp e).1, (Slot.committed_output f).1⟩
    · rename_i e; rw [if_neg e]; exact ⟨f, rfl⟩

/-- The windows of a session on an axis after its commit (R29, R42). -/
theorem State.commit_evaluated_slot (s : State) (p : PortId) (x : AxisId) (i : Fin 48) :
    ((s.commitSlots p x).evaluateSlots x fun w => decide (w.status = .live) && s.holds p (.output w.output)).slots[i] =
      if s.ownWindow p x s.slots[i] = true then s.slots[i].committed.evaluated (s.axis x) else s.slots[i] := by
  have axis : (s.commitSlots p x).axis x = s.axis x := rfl
  rw [State.evaluateSlots_slot, State.commitSlots_slot, axis]
  split <;> rename_i own
  · have o := (s.ownWindow_iff p x _).mp own
    split <;> rename_i e
    · rfl
    · have free : s.slots[i].committed.status = .free := by
        rcases s.slots[i].committed_status with f | ⟨-, l⟩
        · exact f
        · obtain ⟨ho, ha⟩ := Slot.committed_output (w := s.slots[i]) (by rw [l]; decide)
          refine absurd ⟨ha.trans o.2.1, ?_⟩ e
          rw [l, ho, o.2.2]
          rfl
      exact (Slot.evaluated_of_free free _).symm
  · refine if_neg fun e => own ((s.ownWindow_iff p x _).mpr ?_)
    obtain ⟨a, l⟩ := e
    simp only [Bool.and_eq_true, decide_eq_true_eq] at l
    exact ⟨by rw [l.1]; decide, a, l.2⟩

/-- A commit applied (R29, R42, R43). -/
theorem State.WindowsLawful.applyCommit {s : State} (h : s.WindowsLawful) (p : PortId) (x : AxisId) (timing : CommitTiming) :
    (s.applyCommit p x timing).WindowsLawful := by
  rw [State.applyCommit_eq]
  generalize NoticeKind.commitDone _ _ _ _ = k
  have evaluated := ((h.slots.commitSlots p x).evaluateSlots x fun w =>
    decide (w.status = .live) && s.holds p (.output w.output))
  have slot := s.commit_evaluated_slot p x
  refine State.WindowsLawful.congr (State.WindowsLawful.recomposeAll h _ ?_ ?_ ?_ ?_ evaluated fun o ho i => ?_)
    (State.post_reach _ p k).slots (State.post_reach _ p k).camLevels (State.post_reach _ p k).channels
    (State.post_reach _ p k).halt (State.post_reach _ p k).handing fun o c => by rw [(State.post_reach _ p k).claim]; exact c
  · rfl
  · rfl
  · rfl
  · rfl
  · rw [slot]
    split <;> rename_i own
    · have other : s.slots[i].output ≠ o := fun c =>
        ho (List.mem_map.mpr ⟨s.slots[i], List.mem_filter.mpr ⟨Vector.mem_toList_iff.mpr (Vector.getElem_mem i.isLt), own⟩, c⟩)
      rw [Slot.drives_other other]
      rcases s.slots[i].committed_status with f | ⟨-, l⟩
      · exact Slot.not_drives_of_free (by simpa using f) o
      · refine Slot.drives_other ?_
        rw [Slot.evaluated_output, (Slot.committed_output (by rw [l]; decide)).1]
        exact other
    · rfl

theorem State.WindowsLawful.setCommit {s : State} (h : s.WindowsLawful) (p : PortId) (x : AxisId) (b : Bool) :
    (s.setCommit p x b).WindowsLawful := h.congr rfl rfl rfl rfl rfl fun _ k => k

theorem State.WindowsLawful.applyPending {s : State} (h : s.WindowsLawful) (x : AxisId) : (s.applyPending x).WindowsLawful := by
  have one (t : State) (h : t.WindowsLawful) (p : PortId) :
      (if t.hasCommit p x then (t.applyCommit p x .atRollover).setCommit p x false else t).WindowsLawful := by
    split
    · exact (h.applyCommit p x _).setCommit p x false
    · exact h
  exact one _ (one _ (one s h .p1) .p2) .p3

theorem State.WindowsLawful.camEvent {s : State} (h : s.WindowsLawful) (x : AxisId) (rollover : Bool) :
    (s.camEvent x rollover).WindowsLawful := by
  unfold State.camEvent
  refine State.WindowsLawful.evaluateAxis ?_ x
  split
  · exact h.applyPending x
  · exact h

theorem State.eraseWindows_slot (s : State) (o : OutputId) (i : Fin 48) :
    (s.eraseWindows o).slots[i] = if s.slots[i].output = o then Slot.free else s.slots[i] := by
  unfold State.eraseWindows
  simp only [State.recompose_slots]
  exact mapVector_get _ s.slots i i.isLt

/-- The windows of an output erased (R44). -/
theorem State.WindowsLawful.eraseWindows {s : State} (h : s.WindowsLawful) (o : OutputId) : (s.eraseWindows o).WindowsLawful := by
  have slot (i : Fin 48) :
      (mapVector (fun w => if w.output = o then Slot.free else w) s.slots)[i] =
        if s.slots[i].output = o then Slot.free else s.slots[i] := mapVector_get _ s.slots i i.isLt
  refine State.WindowsLawful.recomposeAll (t := { s with slots := mapVector (fun w => if w.output = o then Slot.free else w) s.slots })
    h [o] rfl rfl rfl rfl (h.slots.mk' (fun i => ?_) (fun i f => ?_) fun _ k => k) fun q hq i => ?_
  all_goals simp only [slot i] at *
  · split
    · exact Slot.free_lawful
    · exact (h.slots i).1
  · split at f
    · exact absurd rfl f
    · rename_i e; rw [if_neg e]; exact ⟨f, rfl⟩
  · split <;> rename_i e
    · rw [Slot.not_drives_of_free (w := Slot.free) rfl, Slot.drives_other]
      rw [e]
      exact fun c => hq (by simp [c])
    · rfl

/-- The cleanup of an output (R81). -/
theorem State.WindowsLawful.cleanup {s : State} (h : s.WindowsLawful) (r : Resource) : (s.cleanup r).WindowsLawful := by
  cases r with
  | output o => exact (h.eraseWindows o).arrive o Channel.cleanup rfl rfl nofun
  | generator g => exact h.congr rfl rfl rfl rfl rfl fun _ k => k
  | axis x => exact h.congr rfl rfl rfl rfl rfl fun _ k => k

/-! ### Requests that stage a change -/

/-- One slot changed without a change of what it drives. -/
theorem State.WindowsLawful.setSlot {s : State} (h : s.WindowsLawful) (i : Fin 48) (w : Slot) (lawful : w.Lawful)
    (held : w.status ≠ .free → (s.claim (.output w.output)).state = .held)
    (drives : ∀ o, w.drives o = s.slots[i].drives o) :
    ({ s with slots := s.slots.set i w } : State).WindowsLawful := by
  have slot (j : Fin 48) : (s.slots.set i w)[j] = if j = i then w else s.slots[j] := Vector.getElem_set_fin _ _ _ _
  refine ⟨h.channels.congr rfl rfl rfl, fun o => ?_, fun j => ?_⟩
  · have cam : State.camOf { s with slots := s.slots.set i w } o = s.camOf o := State.camOf_congr fun j => by
      simp only [slot]
      split
      · rename_i e; subst e; exact drives o
      · rfl
    rw [cam]
    exact h.cam o
  · simp only [slot]
    split
    · exact ⟨lawful, held⟩
    · exact h.slots j

theorem State.holds_iff (s : State) (p : PortId) (r : Resource) :
    s.holds p r = true ↔ (s.claim r).state = .held ∧ (s.claim r).owner = some p := by
  unfold State.holds State.holder
  cases (s.claim r).state <;> simp

theorem Slot.edited_drives (w : Slot) (c : WindowCopy) (o : OutputId) : (w.edited c).drives o = w.drives o := by
  unfold Slot.edited
  split <;> rename_i e <;> simp [Slot.drives, e, SlotStatus.counts]

theorem Slot.edited_output (w : Slot) (c : WindowCopy) : (w.edited c).output = w.output := by
  unfold Slot.edited
  split <;> rfl

theorem Slot.deleted_drives (w : Slot) (o : OutputId) : w.deleted.drives o = w.drives o := by
  unfold Slot.deleted
  split <;> rename_i e <;> simp [Slot.drives, e, SlotStatus.counts, Slot.free]

theorem Slot.deleted_output {w : Slot} (h : w.deleted.status ≠ .free) : w.deleted.output = w.output := by
  unfold Slot.deleted at h ⊢
  split <;> rename_i e
  · rw [e] at h; exact absurd rfl h
  all_goals rfl

end Sys2Proof.Machine
end

section
/-! SUPPORT. The law of the compare pool (chapter 3): ids, order, and what each operation makes of the lists. -/

namespace Sys2Proof.Machine

/-! ### Ids (R49) -/

/-- The k-th candidate for an id from a counter on (R49): 1 follows 255. -/
def idCandidate (c k : Nat) : Nat := (c - 1 + k) % 255 + 1

theorem idCandidate_range (c k : Nat) : 1 ≤ idCandidate c k ∧ idCandidate c k ≤ 255 := by
  unfold idCandidate
  omega

theorem idCandidate_zero {c : Nat} (h : 1 ≤ c ∧ c ≤ 255) : idCandidate c 0 = c := by
  unfold idCandidate
  omega

theorem idAfter_candidate (c k : Nat) : idAfter (idCandidate c k) = idCandidate c (k + 1) := by
  unfold idAfter idCandidate
  split <;> omega

theorem State.idInUse_iff (s : State) (id : Nat) : s.idInUse id = true ↔ ∃ x, ∃ e ∈ s.compareList x, e.id = id := by
  unfold State.idInUse
  simp only [List.any_eq_true, decide_eq_true_eq]
  exact ⟨fun ⟨x, _, h⟩ => ⟨x, h⟩, fun ⟨x, h⟩ => ⟨x, mem_allAxes x, h⟩⟩

/-- The search for an id goes from candidate to candidate while they are in use. -/
theorem State.findId_candidate (s : State) (c n j : Nat) :
    ∃ k, s.findId n (idCandidate c j) = idCandidate c (j + k) ∧ (∀ i, i < k → s.idInUse (idCandidate c (j + i)) = true) ∧
      (k = n ∨ s.idInUse (idCandidate c (j + k)) = false) := by
  induction n generalizing j with
  | zero => exact ⟨0, rfl, by simp, .inl rfl⟩
  | succ n ih =>
    unfold State.findId
    split <;> rename_i used
    · obtain ⟨k, eq, before, stop⟩ := ih (j + 1)
      refine ⟨k + 1, ?_, fun i hi => ?_, ?_⟩
      · rw [idAfter_candidate, eq]
        congr 1
        omega
      · cases i with
        | zero => exact used
        | succ i =>
          have := before i (by omega)
          rwa [show j + 1 + i = j + (i + 1) by omega] at this
      · rw [show j + (k + 1) = j + 1 + k by omega]
        exact stop.imp (by omega) id
    · exact ⟨0, rfl, by simp, .inr (by simpa using used)⟩

/-- The entries of the pool. -/
def State.pool (s : State) : List CompareEntry := s.compares.a ++ s.compares.b ++ s.compares.v

theorem State.mem_pool (s : State) (e : CompareEntry) : e ∈ s.pool ↔ ∃ x, e ∈ s.compareList x := by
  unfold State.pool
  simp only [List.mem_append]
  constructor
  · rintro ((h | h) | h)
    · exact ⟨.a, h⟩
    · exact ⟨.b, h⟩
    · exact ⟨.v, h⟩
  · rintro ⟨x, h⟩
    cases x
    · exact .inl (.inl h)
    · exact .inl (.inr h)
    · exact .inr h

theorem State.pool_length (s : State) : s.pool.length = s.poolSize := by
  simp [State.pool, State.poolSize, Nat.add_assoc]

theorem idCandidates_nodup (c : Nat) : ((List.range 255).map (idCandidate c)).Nodup := by
  refine List.Nodup.map_on (fun i hi j hj e => ?_) List.nodup_range
  rw [List.mem_range] at hi hj
  unfold idCandidate at e
  omega

/-- A pool with room has an id that no entry carries among the 255 (R49). -/
theorem State.idCandidate_free (s : State) (c : Nat) (room : s.poolSize < 255) : ∃ k, k < 255 ∧ s.idInUse (idCandidate c k) = false := by
  by_contra all
  have used (k : Nat) (hk : k < 255) : s.idInUse (idCandidate c k) = true := by
    by_contra u
    exact all ⟨k, hk, by simpa using u⟩
  have sub : (List.range 255).map (idCandidate c) ⊆ s.pool.map CompareEntry.id := by
    intro id h
    obtain ⟨k, hk, rfl⟩ := List.mem_map.mp h
    obtain ⟨x, e, he, eq⟩ := (s.idInUse_iff _).mp (used k (List.mem_range.mp hk))
    exact List.mem_map.mpr ⟨e, (s.mem_pool e).mpr ⟨x, he⟩, eq⟩
  have le := ((idCandidates_nodup c).subperm sub).length_le
  simp only [List.length_map, List.length_range, State.pool_length] at le
  omega

/-- The id of a new entry is the first from the counter on that no entry in use carries (R49). -/
theorem State.findId_first (s : State) (room : s.poolSize < 255) (c : 1 ≤ s.nextCompareId ∧ s.nextCompareId ≤ 255) :
    ∃ k, s.findId 255 s.nextCompareId = idCandidate s.nextCompareId k ∧ s.idInUse (idCandidate s.nextCompareId k) = false ∧
      ∀ j, j < k → s.idInUse (idCandidate s.nextCompareId j) = true := by
  obtain ⟨k, eq, before, stop⟩ := s.findId_candidate s.nextCompareId 255 0
  simp only [Nat.zero_add, idCandidate_zero c] at eq before stop
  refine ⟨k, eq, ?_, before⟩
  rcases stop with rfl | free
  · obtain ⟨j, hj, free⟩ := s.idCandidate_free s.nextCompareId room
    rw [before j hj] at free
    cases free
  · exact free

/-! ### The order of a list (R52, R60) -/

/-- An entry put into an ordered list stands behind its equals. -/
theorem insertEntry_split (e : CompareEntry) {l : List CompareEntry} (ordered : l.Pairwise fun f h => f.target ≤ h.target) :
    ∃ low high, l = low ++ high ∧ insertEntry e l = low ++ [e] ++ high ∧ (∀ f ∈ low, f.target ≤ e.target) ∧
      ∀ f ∈ high, e.target < f.target := by
  induction l with
  | nil => exact ⟨[], [], rfl, rfl, by simp, by simp⟩
  | cons h t ih =>
    obtain ⟨first, rest⟩ := List.pairwise_cons.mp ordered
    unfold insertEntry
    split <;> rename_i le
    · obtain ⟨low, high, split, eq, below, above⟩ := ih rest
      exact ⟨h :: low, high, by rw [split]; rfl, by rw [eq]; rfl, List.forall_mem_cons.mpr ⟨le, below⟩, above⟩
    · have lt : e.target < h.target := not_le.mp le
      exact ⟨[], h :: t, rfl, rfl, by simp,
        List.forall_mem_cons.mpr ⟨lt, fun f hf => lt.trans_le (first f hf)⟩⟩

theorem insertEntry_perm (e : CompareEntry) (l : List CompareEntry) : (insertEntry e l).Perm (e :: l) := by
  induction l with
  | nil => exact .refl _
  | cons h t ih =>
    unfold insertEntry
    split
    · exact (List.Perm.cons h ih).trans (.swap _ _ _)
    · exact .refl _

theorem insertEntry_ordered (e : CompareEntry) {l : List CompareEntry} (ordered : l.Pairwise fun f h => f.target ≤ h.target) :
    (insertEntry e l).Pairwise fun f h => f.target ≤ h.target := by
  obtain ⟨low, high, split, eq, below, above⟩ := insertEntry_split e ordered
  rw [split, List.pairwise_append] at ordered
  obtain ⟨hl, hh, cross⟩ := ordered
  rw [eq, List.append_assoc, List.pairwise_append]
  refine ⟨hl, List.pairwise_cons.mpr ⟨fun f hf => (above f hf).le, hh⟩, fun f hf k hk => ?_⟩
  rcases List.mem_cons.mp hk with rfl | hk
  · exact below f hf
  · exact cross f hf k hk

/-! ### The law -/

/-- Ids that all differ, said of the lists. -/
theorem State.ids_differ_iff (s : State) :
    ((s.compares.a ++ s.compares.b ++ s.compares.v).map CompareEntry.id).Nodup ↔
      (∀ x, ((s.compareList x).map CompareEntry.id).Nodup) ∧
        ∀ x y, x ≠ y → ∀ e ∈ s.compareList x, ∀ f ∈ s.compareList y, e.id ≠ f.id := by
  simp only [List.map_append, List.nodup_append, List.mem_append, List.mem_map]
  constructor
  · rintro ⟨⟨a, b, ab⟩, v, abv⟩
    have hab : ∀ e ∈ s.compares.a, ∀ f ∈ s.compares.b, e.id ≠ f.id := fun e he f hf => ab _ ⟨e, he, rfl⟩ _ ⟨f, hf, rfl⟩
    have hav : ∀ e ∈ s.compares.a, ∀ f ∈ s.compares.v, e.id ≠ f.id := fun e he f hf =>
      abv _ (.inl ⟨e, he, rfl⟩) _ ⟨f, hf, rfl⟩
    have hbv : ∀ e ∈ s.compares.b, ∀ f ∈ s.compares.v, e.id ≠ f.id := fun e he f hf =>
      abv _ (.inr ⟨e, he, rfl⟩) _ ⟨f, hf, rfl⟩
    refine ⟨forall_axis.mpr ⟨a, b, v⟩, fun x y d e he f hf => ?_⟩
    cases x <;> cases y
    · exact absurd rfl d
    · exact hab e he f hf
    · exact hav e he f hf
    · exact (hab f hf e he).symm
    · exact absurd rfl d
    · exact hbv e he f hf
    · exact (hav f hf e he).symm
    · exact (hbv f hf e he).symm
    · exact absurd rfl d
  · rintro ⟨each, cross⟩
    refine ⟨⟨each .a, each .b, ?_⟩, each .v, ?_⟩
    · rintro _ ⟨e, he, rfl⟩ _ ⟨f, hf, rfl⟩
      exact cross .a .b (by decide) e he f hf
    · rintro _ (⟨e, he, rfl⟩ | ⟨e, he, rfl⟩) _ ⟨f, hf, rfl⟩
      · exact cross .a .v (by decide) e he f hf
      · exact cross .b .v (by decide) e he f hf

theorem State.PoolLawful.congr {s t : State} (h : s.PoolLawful) (compares : t.compares = s.compares)
    (next : t.nextCompareId = s.nextCompareId)
    (owners : ∀ x, ∀ e ∈ s.compareList x, (s.session e.owner).isOpen = true → (t.session e.owner).isOpen = true) :
    t.PoolLawful := by
  have list (x : AxisId) : t.compareList x = s.compareList x := by unfold State.compareList; rw [compares]
  refine ⟨?_, fun x => list x ▸ h.ordered x, ?_, fun x => list x ▸ h.ids_range x, next ▸ h.next_range, fun x e he => ?_⟩
  · unfold State.poolSize; rw [compares]; exact h.places
  · rw [compares]; exact h.ids_differ
  · rw [list] at he
    exact owners x e he (h.owners_open x e he)

/-- Entries leave the pool; each that stays is one that stood, and whose owner is still open. -/
theorem State.PoolLawful.removeEntries {s t : State} (h : s.PoolLawful) (drop : CompareEntry → Bool)
    (compares : t.compares = (s.removeEntries drop).compares) (next : t.nextCompareId = s.nextCompareId)
    (owners : ∀ x, ∀ e ∈ s.compareList x, drop e = false → (t.session e.owner).isOpen = true) : t.PoolLawful := by
  have list (x : AxisId) : t.compareList x = (s.compareList x).filter fun e => !drop e := by
    unfold State.compareList
    rw [compares]
    cases x <;> rfl
  have sub (x : AxisId) : (t.compareList x).Sublist (s.compareList x) := by rw [list]; exact List.filter_sublist
  have ids := s.ids_differ_iff.mp h.ids_differ
  refine ⟨?_, fun x => (h.ordered x).sublist (sub x), ?_, fun x e he => h.ids_range x e ((sub x).subset he), next ▸ h.next_range,
    fun x e he => ?_⟩
  · rw [State.poolSize_eq_sum_compareList]
    have places := h.places
    rw [State.poolSize_eq_sum_compareList] at places
    have la := (sub .a).length_le
    have lb := (sub .b).length_le
    have lv := (sub .v).length_le
    omega
  · exact t.ids_differ_iff.mpr
      ⟨fun x => (ids.1 x).sublist ((sub x).map _), fun x y d e he f hf =>
        ids.2 x y d e ((sub x).subset he) f ((sub y).subset hf)⟩
  · rw [list] at he
    obtain ⟨he, k⟩ := List.mem_filter.mp he
    exact owners x e he (by simpa using k)

/-- The list of an axis replaced by one of entries that may stand there. -/
theorem State.PoolLawful.setCompareList {s : State} (h : s.PoolLawful) (x : AxisId) (l : List CompareEntry)
    (places : s.poolSize + l.length ≤ 32 + (s.compareList x).length)
    (ordered : l.Pairwise fun e f => e.target ≤ f.target) (nodup : (l.map CompareEntry.id).Nodup)
    (others : ∀ y, y ≠ x → ∀ e ∈ l, ∀ f ∈ s.compareList y, e.id ≠ f.id) (range : ∀ e ∈ l, 1 ≤ e.id ∧ e.id ≤ 255)
    (owners : ∀ e ∈ l, (s.session e.owner).isOpen = true) : (s.setCompareList x l).PoolLawful := by
  have list (y : AxisId) : (s.setCompareList x l).compareList y = if y = x then l else s.compareList y := by
    split
    · subst y; simp
    · rename_i d; exact State.setCompareList_other s x y l d
  have ids := s.ids_differ_iff.mp h.ids_differ
  refine ⟨?_, fun y => ?_, (State.ids_differ_iff _).mpr ⟨fun y => ?_, fun y z d e he f hf => ?_⟩, fun y e he => ?_, h.next_range,
    fun y e he => ?_⟩
  · rw [State.poolSize_eq_sum_compareList] at places ⊢
    rw [list, list, list]
    cases x <;> simp only [reduceCtorEq, if_true, if_false] <;> omega
  all_goals rw [list] at *
  · split
    · exact ordered
    · exact h.ordered y
  · split
    · exact nodup
    · exact ids.1 y
  · split at he <;> split at hf
    · rename_i a b; exact absurd (a.trans b.symm) d
    · rename_i b; exact others z b e he f hf
    · rename_i b _; exact (others y b f hf e he).symm
    · exact ids.2 y z d e he f hf
  · split at he
    · exact range e he
    · exact h.ids_range y e he
  · split at he
    · exact owners e he
    · exact h.owners_open y e he

theorem mem_removeId {e : CompareEntry} {id : Nat} {l : List CompareEntry} : e ∈ removeId id l ↔ e ∈ l ∧ e.id ≠ id := by
  simp [removeId]

/-- An entry of a list taken out and, where it is re-armed, put back (R59, R60). -/
theorem State.PoolLawful.refile {s : State} (h : s.PoolLawful) {x : AxisId} {e : CompareEntry} (mem : e ∈ s.compareList x)
    (again : Option CompareEntry) (same : ∀ k, again = some k → k.id = e.id ∧ k.owner = e.owner) :
    (s.setCompareList x (refile e again (s.compareList x))).PoolLawful := by
  have sub : (removeId e.id (s.compareList x)).Sublist (s.compareList x) := List.filter_sublist
  have ids := s.ids_differ_iff.mp h.ids_differ
  have shorter : (removeId e.id (s.compareList x)).length < (s.compareList x).length := by
    refine lt_of_le_of_ne sub.length_le fun c => ?_
    have stays := (mem_removeId.mp ((sub.eq_of_length c).symm ▸ mem)).2
    exact stays rfl
  have places := h.places
  cases again with
  | none =>
    exact h.setCompareList x _ (by dsimp only [Machine.refile]; omega) ((h.ordered x).sublist sub) ((ids.1 x).sublist (sub.map _))
      (fun y d k hk f hf => ids.2 x y d.symm k (sub.subset hk) f hf) (fun k hk => h.ids_range x k (sub.subset hk))
      fun k hk => h.owners_open x k (sub.subset hk)
  | some k =>
    obtain ⟨kid, kowner⟩ := same k rfl
    have perm := insertEntry_perm k (removeId e.id (s.compareList x))
    have from_list (f : CompareEntry) (hf : f ∈ insertEntry k (removeId e.id (s.compareList x))) :
        ∃ g ∈ s.compareList x, f.id = g.id ∧ f.owner = g.owner := by
      rcases List.mem_cons.mp (perm.subset hf) with rfl | hf
      · exact ⟨e, mem, kid, kowner⟩
      · exact ⟨f, sub.subset hf, rfl, rfl⟩
    refine h.setCompareList x _ ?_ (insertEntry_ordered k ((h.ordered x).sublist sub)) ?_ (fun y d f hf i hi => ?_)
      (fun f hf => ?_) fun f hf => ?_
    · dsimp only [Machine.refile]
      rw [perm.length_eq, List.length_cons]
      omega
    · refine (perm.map _).nodup_iff.mpr (List.nodup_cons.mpr ⟨?_, (ids.1 x).sublist (sub.map _)⟩)
      rw [kid]
      intro c
      obtain ⟨f, hf, eq⟩ := List.mem_map.mp c
      exact (mem_removeId.mp hf).2 eq
    · obtain ⟨g, hg, eq, -⟩ := from_list f hf
      rw [eq]
      exact ids.2 x y d.symm g hg i hi
    · obtain ⟨g, hg, eq, -⟩ := from_list f hf
      rw [eq]
      exact h.ids_range x g hg
    · obtain ⟨g, hg, -, eq⟩ := from_list f hf
      rw [eq]
      exact h.owners_open x g hg

/-- A new entry of an open session joins the list of an axis (R49, R52). -/
theorem State.PoolLawful.insert {s : State} (h : s.PoolLawful) (x : AxisId) (e : CompareEntry) (next : Nat)
    (room : s.poolSize < 32) (unused : s.idInUse e.id = false) (range : 1 ≤ e.id ∧ e.id ≤ 255) (n : 1 ≤ next ∧ next ≤ 255)
    (owner : (s.session e.owner).isOpen = true) :
    ({ s.setCompareList x (insertEntry e (s.compareList x)) with nextCompareId := next } : State).PoolLawful := by
  have perm := insertEntry_perm e (s.compareList x)
  have ids := s.ids_differ_iff.mp h.ids_differ
  have differs (y : AxisId) (f : CompareEntry) (hf : f ∈ s.compareList y) : e.id ≠ f.id := fun c => by
    have used := (s.idInUse_iff e.id).mpr ⟨y, f, hf, c.symm⟩
    rw [unused] at used
    cases used
  have joined : (s.setCompareList x (insertEntry e (s.compareList x))).PoolLawful := by
    refine h.setCompareList x _ ?_ (insertEntry_ordered e (h.ordered x)) ?_ (fun y d f hf i hi => ?_) (fun f hf => ?_) fun f hf => ?_
    · rw [perm.length_eq, List.length_cons]
      omega
    · refine (perm.map _).nodup_iff.mpr (List.nodup_cons.mpr ⟨fun c => ?_, ids.1 x⟩)
      obtain ⟨f, hf, eq⟩ := List.mem_map.mp c
      exact differs x f hf eq.symm
    · rcases List.mem_cons.mp (perm.subset hf) with rfl | hf
      · exact differs y i hi
      · exact ids.2 x y d.symm f hf i hi
    · rcases List.mem_cons.mp (perm.subset hf) with rfl | hf
      · exact range
      · exact h.ids_range x f hf
    · rcases List.mem_cons.mp (perm.subset hf) with rfl | hf
      · exact owner
      · exact h.owners_open x f hf
  exact ⟨joined.places, joined.ordered, joined.ids_differ, joined.ids_range, n, joined.owners_open⟩

end Sys2Proof.Machine
end

section
/-! SUPPORT. What the operations at a generator write into its record, and the law of a generator with its claim (R85, R86,
R90, R99, R108, R110, R143) under each of them. -/

namespace Sys2Proof.Machine

/-! ### The record after each operation -/

section records

variable (s : State) (g : GenId)

theorem PortsOnly.gen {s t : State} (h : PortsOnly s t) (g : GenId) : t.gen g = s.gen g := by unfold State.gen; rw [h.gens]

@[simp] theorem State.postGen_gen (h : GenId) (k : NoticeKind) : (s.postGen g k).gen h = s.gen h :=
  (State.postHolder_reach s _ k).gen h

@[simp] theorem State.postGen_claim (r : Resource) (k : NoticeKind) : (s.postGen g k).claim r = s.claim r :=
  (State.postHolder_reach s _ k).claim r

theorem State.flush_gen : (s.flush g).gen g = { s.gen g with queue := [] } := by
  unfold State.flush
  dsimp only
  split <;> simp

@[simp] theorem State.flush_claim (r : Resource) : (s.flush g).claim r = s.claim r := by
  unfold State.flush
  dsimp only
  split <;> simp

theorem State.flushAll_gen : (s.flushAll g).gen g = { s.gen g with queue := [], pendingTrigger := false } := by
  unfold State.flushAll
  rw [State.modGen_gen_same, State.flush_gen]

@[simp] theorem State.flushAll_claim (r : Resource) : (s.flushAll g).claim r = s.claim r := by
  unfold State.flushAll
  simp

theorem State.closeMove_none (cause : EndCause) (h : (s.gen g).current = none) : s.closeMove g cause = s := by
  unfold State.closeMove
  rw [h]

theorem State.closeMove_some (cause : EndCause) {m : CurrentMove} (h : (s.gen g).current = some m) :
    s.closeMove g cause =
      (s.modGen g Generator.withoutMove).postGen g
        (.moveEnded g m.record.tag m.record.kind cause (s.gen g).counter m.started (m.endSearch cause)) := by
  unfold State.closeMove
  rw [h]

theorem State.closeMove_gen (cause : EndCause) {m : CurrentMove} (h : (s.gen g).current = some m) :
    (s.closeMove g cause).gen g = (s.gen g).withoutMove := by
  rw [State.closeMove_some s g cause h]
  simp

@[simp] theorem State.closeMove_claim (cause : EndCause) (r : Resource) : (s.closeMove g cause).claim r = s.claim r := by
  unfold State.closeMove
  split <;> simp

theorem State.closeStopped_some {m : CurrentMove} (h : (s.gen g).current = some m) :
    s.closeStopped g = s.closeMove g ((s.gen g).stopCause m) := by
  unfold State.closeStopped
  rw [h]

theorem State.closeStopped_none (h : (s.gen g).current = none) : s.closeStopped g = s := by
  unfold State.closeStopped
  rw [h]

@[simp] theorem State.closeStopped_claim (r : Resource) : (s.closeStopped g).claim r = s.claim r := by
  unfold State.closeStopped
  split <;> simp

/-- The generator as it enters STOPPING (R102). -/
def Generator.braking (n : Generator) (rate : StopRate) : Generator :=
  { n with state := .stopping, phase := none, stopRate := some rate }

/-- The entry into STOPPING by the floor of the move (R102). -/
theorem State.brake_eq (rate : StopRate) :
    s.brake g rate =
      if ((s.gen g).braking rate).atFloor then ((s.modGen g fun n => n.braking rate).closeStopped g, true)
      else (s.modGen g fun n => n.braking rate, false) := by
  have same : (s.modGen g fun n => n.braking rate).gen g = (s.gen g).braking rate := State.modGen_gen_same _ _ _
  unfold State.brake
  dsimp only
  rw [← same]
  rfl

@[simp] theorem State.brake_claim (rate : StopRate) (r : Resource) : (s.brake g rate).1.claim r = s.claim r := by
  rw [State.brake_eq]
  split <;> simp

/-- The claim of a generator as it reports its entry into IDLE (R143). -/
theorem State.reportIdle_claim :
    (s.reportIdle g).claim (.generator g) =
      if (s.claim (.generator g)).state = .releasing then (s.claim (.generator g)).passed else s.claim (.generator g) := by
  unfold State.reportIdle
  split <;> rename_i h <;> rw [h]
  · rw [if_pos rfl]
    exact (State.handOver_claim _ _ _ _ _).trans (if_pos rfl)
  · rfl
  · rfl

/-- The record of a generator as it reports its entry into IDLE (R143). -/
theorem State.reportIdle_gen :
    (s.reportIdle g).gen g =
      if (s.claim (.generator g)).state = .releasing then { s.gen g with pendingTrigger := false } else s.gen g := by
  unfold State.reportIdle
  split <;> rename_i h <;> rw [h]
  · rw [if_pos rfl]
    exact (State.handOver_gen _ _ _ _ _).trans (State.modGen_gen_same _ _ _)
  · rfl
  · rfl

theorem State.issueStep_none (h : (s.gen g).current = none) : s.issueStep g = (s, .goesOn) := by
  unfold State.issueStep
  rw [h]

theorem State.issueStep_out {m : CurrentMove} (h : (s.gen g).current = some m)
    (out : inCountRange (((s.gen g).motion m).move (s.gen g).counter) = false) : s.issueStep g = (s, .outOfRange) := by
  unfold State.issueStep
  rw [h]
  simp [out]

/-- A step that is issued (R84): the record, the event for axis V where it is GV's, and what the step means. -/
theorem State.issueStep_in {m : CurrentMove} (h : (s.gen g).current = some m)
    (into : inCountRange (((s.gen g).motion m).move (s.gen g).counter) = true) :
    s.issueStep g =
      ({ s.modGen g fun n => n.stepped g m with
          vEvents := s.vEvents ++ if g = .gv then [(s.gen g).sense.stepEvent ((s.gen g).motion m)] else [] },
        (m.stepped (decide ((s.gen g).state = .searching))).stepEnd (decide ((s.gen g).state = .searching))) := by
  unfold State.issueStep
  rw [h]
  simp only [into, if_true]
  split
  · rfl
  · simp only [List.append_nil]; rfl

theorem State.issueStep_gen {m : CurrentMove} (h : (s.gen g).current = some m)
    (into : inCountRange (((s.gen g).motion m).move (s.gen g).counter) = true) :
    (s.issueStep g).1.gen g = (s.gen g).stepped g m := by
  rw [State.issueStep_in s g h into]
  exact State.modGen_gen_same s g fun n => n.stepped g m

@[simp] theorem State.issueStep_claim (r : Resource) : (s.issueStep g).1.claim r = s.claim r := by
  unfold State.issueStep
  split
  · rfl
  · dsimp only
    split
    · split <;> rfl
    · rfl

end records

/-! ### The law of a generator with the state of its claim -/

/-- The law of a generator with its claim in a state (R85, R86, R90, R99, R108, R110, R143). -/
structure Generator.Fits (inForce : Bool) (c : ClaimState) (n : Generator) : Prop where
  lawful : n.Lawful inForce
  free_rests : c = .free → n.state.atRest = true
  releasing_stops : c = .releasing → n.state = .stopping ∨ n.state = .halted

/-- A generator whose move has been taken away, or is about to be, before its next record is looked at (R92). -/
structure Generator.Bare (inForce : Bool) (c : ClaimState) (n : Generator) : Prop where
  no_move : n.current = none
  halt_copy : n.halt = inForce
  counter_range : -2000000000 ≤ n.counter ∧ n.counter ≤ 2000000000
  home_range : ∀ r ∈ n.queue, r.kind.homesInRange = true
  queue_places : n.queue.length ≤ 8
  backlog_places : n.backlog ≤ 64
  empty_backlog_up : n.backlog = 0 → n.backlogDir = .up
  halt_empty : n.halt = true → n.queue = [] ∧ n.pendingTrigger = false
  unheld_empty : c ≠ .held → n.queue = []

variable {b : Bool} {c : ClaimState} {n : Generator}

theorem State.gensLawful_iff (s : State) :
    s.GensLawful ↔ ∀ g, (s.gen g).Fits (s.inForceAt (.generator g)) (s.claim (.generator g)).state :=
  ⟨fun h g => ⟨h.each g, h.free_rests g, h.releasing_stops g⟩,
    fun h => ⟨fun g => (h g).lawful, fun g => (h g).free_rests, fun g => (h g).releasing_stops⟩⟩

theorem Generator.Lawful.atRest_empty (h : n.Lawful b) (r : n.state.atRest = true) : n.current = none ∧ n.queue = [] :=
  h.rest_no_move r

theorem Generator.Lawful.current_of_not_atRest (h : n.Lawful b) (r : n.state.atRest = false) :
    ∃ m, n.current = some m ∧ n.state.suits m.record.kind = true := h.move_suits r

theorem Generator.Lawful.atRest_of_none (h : n.Lawful b) (k : n.current = none) : n.state.atRest = true := by
  by_contra r
  obtain ⟨m, hm, -⟩ := h.move_suits (by simpa using r)
  rw [k] at hm
  cases hm

/-- A generator that stops, or stands in HALTED, has an empty queue and no trigger. -/
theorem Generator.Lawful.stopped_empty (h : n.Lawful b) (k : n.state = .halted ∨ n.state = .stopping) :
    n.queue = [] ∧ n.pendingTrigger = false := by
  refine ⟨?_, h.stopped_no_trigger k⟩
  rcases k with k | k
  · exact (h.rest_no_move (by rw [k]; rfl)).2
  · exact h.stopping_no_queue k

theorem Generator.Lawful.halt_empty (h : n.Lawful b) (k : n.halt = true) : n.queue = [] ∧ n.pendingTrigger = false :=
  h.stopped_empty (h.halt_stops k)

theorem Generator.Fits.unheld_empty (h : n.Fits b c) (k : c ≠ .held) : n.queue = [] := by
  cases c with
  | free => exact (h.lawful.rest_no_move (h.free_rests rfl)).2
  | held => exact absurd rfl k
  | releasing => exact (h.lawful.stopped_empty (h.releasing_stops rfl).symm).1

/-- A generator with a move that is neither in STOPPING nor at rest has its claim HELD. -/
theorem Generator.Fits.held (h : n.Fits b c) (r : n.state.atRest = false) (k : n.state ≠ .stopping) : c = .held := by
  cases c with
  | held => rfl
  | free => rw [h.free_rests rfl] at r; cases r
  | releasing =>
    rcases h.releasing_stops rfl with e | e
    · exact absurd e k
    · rw [e] at r; cases r

/-- A claim that comes to be HELD asks nothing of its generator. -/
theorem Generator.Lawful.fits_held (h : n.Lawful b) : n.Fits b .held := ⟨h, nofun, nofun⟩

/-- The move of a lawful generator taken away (R92). -/
theorem Generator.Lawful.withoutMove (h : n.Lawful b) (u : c ≠ .held → n.queue = []) : n.withoutMove.Bare b c :=
  ⟨rfl, h.halt_copy, h.counter_range, h.home_range.1, h.queue_places, Nat.zero_le _, fun _ => rfl, fun k => h.halt_empty k, u⟩

/-- A lawful generator without a move. -/
theorem Generator.Lawful.bare (h : n.Lawful b) (m : n.current = none) (u : c ≠ .held → n.queue = []) : n.Bare b c :=
  ⟨m, h.halt_copy, h.counter_range, h.home_range.1, h.queue_places, h.backlog_places, h.empty_backlog_up,
    fun k => h.halt_empty k, u⟩

/-- Queue and trigger discarded (R89). -/
theorem Generator.Lawful.flushed (h : n.Lawful b) (t : Bool) (k : t = true → n.pendingTrigger = true) :
    ({ n with queue := [], pendingTrigger := t } : Generator).Lawful b :=
  have none_set (f : n.pendingTrigger = false) : t = false := by
    cases t with
    | false => rfl
    | true => rw [k rfl] at f; cases f
  { halt_copy := h.halt_copy, counter_range := h.counter_range
    home_range := ⟨fun _ hr => (nomatch hr), h.home_range.2⟩, queue_places := Nat.zero_le _
    rest_no_move := fun r => ⟨(h.rest_no_move r).1, rfl⟩
    move_suits := h.move_suits, halted_in_force := h.halted_in_force, halt_stops := h.halt_stops, stopping_no_queue := fun _ => rfl
    armed_no_trigger := fun e => none_set (h.armed_no_trigger e)
    stopped_no_trigger := fun e => none_set (h.stopped_no_trigger e)
    backlog_places := h.backlog_places, empty_backlog_up := h.empty_backlog_up }

/-- The entry into STOPPING of a move in motion, queue and trigger discarded (R102), halt in force or not (R108). -/
theorem Generator.Lawful.braking (h : n.Lawful b) (motion : n.state = .running ∨ n.state = .searching) (halt : Bool)
    (rate : StopRate) :
    (Generator.braking { n with halt := halt, queue := [], pendingTrigger := false } rate).Lawful halt := by
  obtain ⟨m, hm, suits⟩ := h.move_suits (by rcases motion with e | e <;> rw [e] <;> rfl)
  refine
    { halt_copy := rfl, counter_range := h.counter_range
      home_range := ⟨fun _ hr => (nomatch hr), h.home_range.2⟩, queue_places := Nat.zero_le _
      rest_no_move := nofun, move_suits := fun _ => ⟨m, hm, ?_⟩, halted_in_force := nofun, halt_stops := fun _ => .inr rfl
      stopping_no_queue := fun _ => rfl, armed_no_trigger := nofun, stopped_no_trigger := fun _ => rfl
      backlog_places := h.backlog_places, empty_backlog_up := h.empty_backlog_up }
  revert suits
  rcases motion with e | e <;> rw [e] <;> cases m.record.kind <;> simp [GenState.suits, Generator.braking]

/-- Fields that the law does not read. -/
theorem Generator.Lawful.modMove (h : n.Lawful b) (f : CurrentMove → CurrentMove)
    (keeps : ∀ m, n.current = some m → (f m).record = m.record) : (n.modMove f).Lawful b := by
  refine
    { h with
      home_range := ⟨h.home_range.1, fun m hm => ?_⟩
      rest_no_move := fun r => ⟨by simp [Generator.modMove, (h.rest_no_move r).1], (h.rest_no_move r).2⟩
      move_suits := fun r => ?_ }
  · obtain ⟨k, hk, rfl⟩ := Option.map_eq_some_iff.mp hm
    rw [keeps k hk]
    exact h.home_range.2 k hk
  · obtain ⟨m, hm, s⟩ := h.move_suits r
    exact ⟨f m, by simp [Generator.modMove, hm], by rw [keeps m hm]; exact s⟩

/-- One issued step (R84). -/
theorem Generator.Lawful.stepped (h : n.Lawful b) (g : GenId) {m : CurrentMove} (hm : n.current = some m)
    (into : inCountRange ((n.motion m).move n.counter) = true) : (n.stepped g m).Lawful b := by
  have range := (inCountRange_iff _).mp into
  have busy : n.state.atRest = false := by
    by_contra r
    rw [(h.rest_no_move (by simpa using r)).1] at hm
    cases hm
  have home : (m.stepped (decide (n.state = .searching))).record.kind.homesInRange = true := h.home_range.2 m hm
  obtain ⟨k, hk, suits⟩ := h.move_suits busy
  have places := h.backlog_places
  have up := h.empty_backlog_up
  rw [hm] at hk
  cases hk
  have moved : ({ n with
        counter := (n.motion m).move n.counter
        current := some (m.stepped (decide (n.state = .searching)))
        backlog := if n.state = .following then n.backlog - 1 else n.backlog
        backlogDir := if n.state = .following then backlogDirection (n.backlog - 1) n.backlogDir else n.backlogDir
        intervalSpeed := n.speed
        firstStepDue := false } : Generator).Lawful b :=
    { h with
      counter_range := range
      home_range := ⟨h.home_range.1, fun k hk => by cases hk; exact home⟩
      rest_no_move := fun r => absurd r (by rw [busy]; decide)
      move_suits := fun _ => ⟨_, rfl, suits⟩
      backlog_places := by dsimp only; split <;> omega
      empty_backlog_up := by
        dsimp only
        split <;> intro z
        · simp [backlogDirection, z]
        · exact up z }
  cases g
  · exact { moved with }
  · exact { moved with }
  · exact moved

/-- What a generator must be for a record to start on it (R90): no halt in force, its queue and backlog lawful. -/
structure Generator.Startable (n : Generator) : Prop where
  no_halt : n.halt = false
  counter_range : -2000000000 ≤ n.counter ∧ n.counter ≤ 2000000000
  home_range : ∀ r ∈ n.queue, r.kind.homesInRange = true
  queue_places : n.queue.length ≤ 8
  backlog_places : n.backlog ≤ 64
  empty_backlog_up : n.backlog = 0 → n.backlogDir = .up

theorem Generator.Bare.startable (h : n.Bare b c) (q : n.queue ≠ []) : n.Startable := by
  refine ⟨?_, h.counter_range, h.home_range, h.queue_places, h.backlog_places, h.empty_backlog_up⟩
  by_contra k
  exact q (h.halt_empty (by simpa using k)).1

theorem Generator.Lawful.startable (h : n.Lawful b) (k : n.state = .armed) : n.Startable := by
  refine ⟨?_, h.counter_range, h.home_range.1, h.queue_places, h.backlog_places, h.empty_backlog_up⟩
  by_contra f
  rcases h.halt_stops (by simpa using f) with e | e <;> rw [k] at e <;> cases e

/-- The record of a generator as a move starts keeps queue, trigger, counter and halt. -/
theorem Generator.started_keeps (n : Generator) (r : MoveRecord) (lines : InputLines) :
    (n.started r lines).queue = n.queue ∧ (n.started r lines).halt = n.halt ∧ (n.started r lines).counter = n.counter ∧
      (n.started r lines).pendingTrigger = n.pendingTrigger := by
  unfold Generator.started
  cases r.kind <;> exact ⟨rfl, rfl, rfl, rfl⟩

/-- The state of a generator that a move starts in (Table 5.2). -/
def MoveKind.startState : MoveKind → GenState
  | .position _ _ _ _ _ _ => .running
  | .velocity _ _ _ _ _ _ => .running
  | .follow _ _ _ _ => .following
  | .dwell _ => .dwelling
  | .home _ => .searching

theorem Generator.started_state (n : Generator) (r : MoveRecord) (lines : InputLines) :
    (n.started r lines).state = r.kind.startState := by
  unfold Generator.started MoveKind.startState
  cases r.kind <;> rfl

theorem Generator.started_current (n : Generator) (r : MoveRecord) (lines : InputLines) :
    ∃ m, (n.started r lines).current = some m ∧ m.record = r := by
  unfold Generator.started
  cases r.kind <;> exact ⟨_, rfl, rfl⟩

theorem Generator.started_backlog (n : Generator) (r : MoveRecord) (lines : InputLines) :
    ((n.started r lines).backlog = n.backlog ∧ (n.started r lines).backlogDir = n.backlogDir) ∨
      ((n.started r lines).backlog = 0 ∧ (n.started r lines).backlogDir = .up) := by
  unfold Generator.started
  cases r.kind
  case follow => exact .inr ⟨rfl, rfl⟩
  all_goals exact .inl ⟨rfl, rfl⟩

/-- A move started on a generator (R90, R93 to R101). -/
theorem Generator.Startable.started (h : n.Startable) (r : MoveRecord) (home : r.kind.homesInRange = true) (lines : InputLines) :
    (n.started r lines).Lawful false := by
  obtain ⟨queue, halt, counter, trigger⟩ := n.started_keeps r lines
  obtain ⟨m, hm, rfl⟩ := n.started_current r lines
  have state := n.started_state m.record lines
  have busy : m.record.kind.startState.atRest = false ∧ m.record.kind.startState ≠ .armed ∧
      m.record.kind.startState ≠ .stopping ∧ m.record.kind.startState ≠ .halted ∧
      m.record.kind.startState.suits m.record.kind = true := by
    cases m.record.kind <;> simp [MoveKind.startState, GenState.atRest, GenState.suits]
  obtain ⟨noRest, noArmed, noStopping, noHalted, suits⟩ := busy
  have no_halt : (n.started m.record lines).halt = false := halt.trans h.no_halt
  refine
    { halt_copy := no_halt, counter_range := counter ▸ h.counter_range
      home_range := ⟨queue ▸ h.home_range, fun k hk => by rw [hm] at hk; cases hk; exact home⟩
      queue_places := queue ▸ h.queue_places, rest_no_move := fun k => ?_, move_suits := fun _ => ⟨m, hm, by rw [state]; exact suits⟩
      halted_in_force := fun k => absurd (state ▸ k) noHalted, halt_stops := fun k => by rw [no_halt] at k; cases k
      stopping_no_queue := fun k => absurd (state ▸ k) noStopping, armed_no_trigger := fun k => absurd (state ▸ k) noArmed
      stopped_no_trigger := fun k => ?_, backlog_places := ?_, empty_backlog_up := ?_ }
  · rw [state, noRest] at k; cases k
  · rcases k with k | k
    · exact absurd (state ▸ k) noHalted
    · exact absurd (state ▸ k) noStopping
  · rcases n.started_backlog m.record lines with ⟨e, -⟩ | ⟨e, -⟩ <;> rw [e]
    · exact h.backlog_places
    · omega
  · rcases n.started_backlog m.record lines with ⟨e, d⟩ | ⟨e, d⟩ <;> rw [e, d]
    · exact h.empty_backlog_up
    · exact fun _ => rfl

/-- A record that waits for its trigger (R90). -/
theorem Generator.Bare.armed (h : n.Bare b c) {r : MoveRecord} {rest : List MoveRecord} (q : n.queue = r :: rest)
    (t : n.pendingTrigger = false) (limit : Option Nat) :
    ({ n with
        queue := rest, state := .armed
        current := some { record := r, started := false, issued := 0, remaining := limit, dir := .up, search := none } } :
      Generator).Lawful b := by
  have no_halt := (h.startable (by rw [q]; simp)).no_halt
  have homes := h.home_range
  have places := h.queue_places
  rw [q] at homes places
  exact
    { halt_copy := h.halt_copy, counter_range := h.counter_range
      home_range := ⟨fun k hk => homes k (.tail _ hk), fun k hk => by cases hk; exact homes r (.head _)⟩
      queue_places := (Nat.le_succ _).trans places
      rest_no_move := nofun, move_suits := fun _ => ⟨_, rfl, rfl⟩, halted_in_force := nofun
      halt_stops := fun k => by dsimp only at k; rw [no_halt] at k; cases k
      stopping_no_queue := nofun, armed_no_trigger := fun _ => t
      stopped_no_trigger := fun k => by rcases k with k | k <;> cases k
      backlog_places := h.backlog_places, empty_backlog_up := h.empty_backlog_up }

/-- A generator left at rest (R92, point 4). -/
theorem Generator.Bare.rested (h : n.Bare b c) (q : n.queue = []) (st : GenState) (t : Bool)
    (k : st = .halted ∧ n.halt = true ∧ t = n.pendingTrigger ∨ st = .idle ∧ n.halt = false) :
    ({ n with state := st, pendingTrigger := t } : Generator).Lawful b := by
  have lawful (idle : st.atRest = true) (halted : st = .halted → n.halt = true) (stops : n.halt = true → st = .halted)
      (not_stopping : st ≠ .stopping) (trigger : st = .halted → t = false) :
      ({ n with state := st, pendingTrigger := t } : Generator).Lawful b :=
    { halt_copy := h.halt_copy, counter_range := h.counter_range
      home_range := ⟨h.home_range, fun m hm => by dsimp only at hm; rw [h.no_move] at hm; cases hm⟩, queue_places := h.queue_places
      rest_no_move := fun _ => ⟨h.no_move, q⟩, move_suits := fun r => by dsimp only at r; rw [idle] at r; cases r
      halted_in_force := halted, halt_stops := fun f => .inl (stops f), stopping_no_queue := fun _ => q
      armed_no_trigger := fun e => by dsimp only at e; rw [e] at idle; cases idle
      stopped_no_trigger := fun e => e.elim trigger fun e => absurd e not_stopping
      backlog_places := h.backlog_places, empty_backlog_up := h.empty_backlog_up }
  rcases k with ⟨rfl, halt, rfl⟩ | ⟨rfl, halt⟩
  · exact lawful rfl (fun _ => halt) (fun _ => rfl) (by decide) fun _ => (h.halt_empty halt).2
  · exact lawful rfl nofun (fun f => by rw [halt] at f; cases f) (by decide) nofun

end Sys2Proof.Machine
end

section
/-! SUPPORT. The law of a generator with its claim under the operations of chapter 5: a move that ends, starts, steps, stops. -/

namespace Sys2Proof.Machine

/-- The law of a generator with its claim, in a state (R86, R110). -/
def State.GenFits (b : Bool) (s : State) (g : GenId) : Prop := (s.gen g).Fits b (s.claim (.generator g)).state

/-- A generator of a state that waits for its next record (R92). -/
def State.GenBare (b : Bool) (s : State) (g : GenId) : Prop := (s.gen g).Bare b (s.claim (.generator g)).state

/-- What stands after an operation that may have ended the move (R92). -/
def State.GenAfter (b : Bool) (r : State × Bool) (g : GenId) : Prop :=
  (r.2 = false → r.1.GenFits b g) ∧ (r.2 = true → r.1.GenBare b g)

variable {b : Bool} {s t : State} {g : GenId}

theorem State.GenFits.congr (h : s.GenFits b g) (gen : t.gen g = s.gen g)
    (claim : t.claim (.generator g) = s.claim (.generator g)) : t.GenFits b g := by
  unfold State.GenFits
  rw [gen, claim]
  exact h

theorem State.GenBare.congr (h : s.GenBare b g) (gen : t.gen g = s.gen g)
    (claim : t.claim (.generator g) = s.claim (.generator g)) : t.GenBare b g := by
  unfold State.GenBare
  rw [gen, claim]
  exact h

/-- A change of the record that keeps its law, its state and so what the claim asks of it. -/
theorem State.GenFits.modGen (h : s.GenFits b g) (f : Generator → Generator) (lawful : (f (s.gen g)).Lawful b)
    (state : (f (s.gen g)).state = (s.gen g).state) : (s.modGen g f).GenFits b g := by
  unfold State.GenFits
  rw [State.modGen_gen_same, State.modGen_claim]
  exact ⟨lawful, fun k => state ▸ h.free_rests k, fun k => state ▸ h.releasing_stops k⟩

/-- A change to a lawful record in STOPPING. -/
theorem State.GenFits.modGen_stopping (h : s.GenFits b g) (r : (s.gen g).state.atRest = false) (f : Generator → Generator) {b' : Bool}
    (lawful : (f (s.gen g)).Lawful b') (state : (f (s.gen g)).state = .stopping) : (s.modGen g f).GenFits b' g := by
  unfold State.GenFits
  rw [State.modGen_gen_same, State.modGen_claim]
  refine ⟨lawful, fun k => ?_, fun _ => .inl state⟩
  rw [h.free_rests k] at r
  cases r

/-! ### The end of a move -/

theorem State.GenFits.flush (h : s.GenFits b g) : (s.flush g).GenFits b g := by
  unfold State.GenFits
  rw [State.flush_gen, State.flush_claim]
  exact ⟨h.lawful.flushed _ id, h.free_rests, h.releasing_stops⟩

theorem State.GenFits.flushAll (h : s.GenFits b g) : (s.flushAll g).GenFits b g := by
  unfold State.GenFits
  rw [State.flushAll_gen, State.flushAll_claim]
  exact ⟨h.lawful.flushed _ nofun, h.free_rests, h.releasing_stops⟩

/-- A lawful generator whose move ends waits for its next record (R92). -/
theorem State.closeMove_bare (cause : EndCause) (lawful : (s.gen g).Lawful b)
    (unheld : (s.claim (.generator g)).state ≠ .held → (s.gen g).queue = []) : (s.closeMove g cause).GenBare b g := by
  unfold State.GenBare
  rw [State.closeMove_claim]
  cases m : (s.gen g).current with
  | none =>
    rw [State.closeMove_none s g cause m]
    exact lawful.bare m unheld
  | some m =>
    rw [State.closeMove_gen s g cause m]
    exact lawful.withoutMove unheld

theorem State.GenFits.closeMove (h : s.GenFits b g) (cause : EndCause) : (s.closeMove g cause).GenBare b g :=
  State.closeMove_bare cause h.lawful h.unheld_empty

theorem State.closeStopped_bare (lawful : (s.gen g).Lawful b)
    (unheld : (s.claim (.generator g)).state ≠ .held → (s.gen g).queue = []) : (s.closeStopped g).GenBare b g := by
  cases m : (s.gen g).current with
  | none =>
    rw [State.closeStopped_none s g m]
    exact lawful.bare m unheld
  | some m =>
    rw [State.closeStopped_some s g m]
    exact State.closeMove_bare _ lawful unheld

/-- A generator without a move and without a record comes to rest (R92, R143). -/
theorem State.GenBare.settle (h : s.GenBare b g) (q : (s.gen g).queue = []) : (s.settle g).GenFits b g := by
  unfold State.settle
  split <;> rename_i halt
  · unfold State.GenFits
    rw [State.modGen_gen_same, State.modGen_claim]
    exact ⟨h.rested q .halted (s.gen g).pendingTrigger (.inl ⟨rfl, halt, rfl⟩), fun _ => rfl, fun _ => .inr rfl⟩
  · have no_halt : (s.gen g).halt = false := by simpa using halt
    unfold State.GenFits
    rw [State.reportIdle_gen, State.reportIdle_claim]
    simp only [State.modGen_gen_same, State.modGen_claim]
    by_cases rel : (s.claim (.generator g)).state = .releasing <;> simp only [rel, if_true, if_false]
    · exact ⟨h.rested q .idle false (.inr ⟨rfl, no_halt⟩), fun _ => rfl,
        fun k => absurd k (Claim.passed_not_releasing _)⟩
    · exact ⟨h.rested q .idle (s.gen g).pendingTrigger (.inr ⟨rfl, no_halt⟩), fun _ => rfl, fun k => absurd k rel⟩

/-! ### One step -/

theorem State.GenFits.issueStep (h : s.GenFits b g) : (s.issueStep g).1.GenFits b g := by
  cases hm : (s.gen g).current with
  | none => rw [State.issueStep_none s g hm]; exact h
  | some m =>
    cases into : inCountRange (((s.gen g).motion m).move (s.gen g).counter) with
    | false => rw [State.issueStep_out s g hm into]; exact h
    | true =>
      unfold State.GenFits
      rw [State.issueStep_gen s g hm into, State.issueStep_claim]
      have state : ((s.gen g).stepped g m).state = (s.gen g).state := by cases g <;> rfl
      exact ⟨h.lawful.stepped g hm into, fun k => state ▸ h.free_rests k, fun k => state ▸ h.releasing_stops k⟩

/-- The entry into STOPPING of a move in motion, queue and trigger discarded, halt in force or not (R102, R108). -/
theorem State.brake_after {b b' : Bool} {n : Generator} (rate : StopRate) (lawful : n.Lawful b)
    (motion : n.state = .running ∨ n.state = .searching)
    (gen : s.gen g = { n with halt := b', queue := [], pendingTrigger := false })
    (claim : (s.claim (.generator g)).state ≠ .free) : State.GenAfter b' (s.brake g rate) g := by
  have braking : ((s.gen g).braking rate).Lawful b' := by rw [gen]; exact lawful.braking motion b' rate
  rw [State.brake_eq]
  have same : (s.modGen g fun n => n.braking rate).gen g = (s.gen g).braking rate := State.modGen_gen_same _ _ _
  split
  · refine ⟨nofun, fun _ => State.closeStopped_bare (same ▸ braking) fun _ => ?_⟩
    rw [same, gen]
    rfl
  · refine ⟨fun _ => ?_, nofun⟩
    unfold State.GenFits
    rw [same, State.modGen_claim]
    exact ⟨braking, fun k => absurd k claim, fun _ => .inl rfl⟩

/-- A generator in motion has a claim. -/
theorem Generator.Fits.not_free {c : ClaimState} {n : Generator} (h : n.Fits b c) (r : n.state.atRest = false) : c ≠ .free :=
  fun k => by rw [h.free_rests k] at r; cases r

theorem GenState.not_atRest_of_motion {c : GenState} (h : c = .running ∨ c = .searching) : c.atRest = false := by
  rcases h with rfl | rfl <;> rfl

/-- A stop of a move in motion (R102, R103). -/
theorem State.GenFits.stop (h : s.GenFits b g) (motion : (s.gen g).state = .running ∨ (s.gen g).state = .searching)
    (rate : StopRate) : State.GenAfter b ((s.flushAll g).brake g rate) g := by
  refine State.brake_after rate h.lawful motion ?_ ?_
  · rw [State.flushAll_gen, ← h.lawful.halt_copy]
  · rw [State.flushAll_claim]
    exact h.not_free (GenState.not_atRest_of_motion motion)

theorem State.GenFits.failSearch (h : s.GenFits b g) (k : NotFound) (motion : (s.gen g).state = .searching) :
    State.GenAfter b (s.failSearch g k) g := by
  have marked : (s.modGen g fun n => n.markSearch k).GenFits b g := h.modGen _ (h.lawful.modMove _ fun _ _ => rfl) rfl
  exact marked.stop (.inr (by rw [State.modGen_gen_same]; exact motion)) .stop

theorem CurrentMove.stepEnd_overLimit {m : CurrentMove} {b : Bool} (h : m.stepEnd b = .overLimit) : b = true := by
  unfold CurrentMove.stepEnd at h
  split at h
  · cases h
  · split at h
    · split at h <;> rename_i c
      · exact c.1
      · cases h
    all_goals cases h

/-- What follows a step (R85, R94, R121). -/
theorem State.GenFits.afterStep (h : s.GenFits b g) (e : StepEnd) (k : e = .overLimit → (s.gen g).state = .searching) :
    State.GenAfter b (s.afterStep g e) g := by
  cases e with
  | goesOn => exact ⟨fun _ => h, nofun⟩
  | noneLeft =>
    unfold State.afterStep
    dsimp only
    split
    · exact ⟨nofun, fun _ => State.closeStopped_bare h.lawful h.unheld_empty⟩
    · exact ⟨nofun, fun _ => h.closeMove _⟩
  | outOfRange => exact ⟨nofun, fun _ => h.flushAll.closeMove _⟩
  | overLimit => exact h.failSearch _ (k rfl)

theorem Generator.stepped_state (n : Generator) (g : GenId) (m : CurrentMove) : (n.stepped g m).state = n.state := by
  cases g <;> rfl

/-- One step with what follows it. -/
theorem State.GenFits.step (h : s.GenFits b g) : State.GenAfter b ((s.issueStep g).1.afterStep g (s.issueStep g).2) g := by
  refine h.issueStep.afterStep _ fun e => ?_
  cases hm : (s.gen g).current with
  | none => rw [State.issueStep_none s g hm] at e; cases e
  | some m =>
    cases into : inCountRange (((s.gen g).motion m).move (s.gen g).counter) with
    | false => rw [State.issueStep_out s g hm into] at e; cases e
    | true =>
      rw [State.issueStep_gen s g hm into, Generator.stepped_state]
      rw [State.issueStep_in s g hm into] at e
      exact of_decide_eq_true (CurrentMove.stepEnd_overLimit e)

/-! ### The start of a move -/

theorem State.GenFits.firstStep (h : s.GenFits b g) : State.GenAfter b (s.firstStep g) g := by
  unfold State.firstStep
  split
  · exact ⟨fun _ => h.modGen _ { h.lawful with } rfl, nofun⟩
  · exact h.step

/-- The state with a move started at a generator, and its notice. -/
def State.startedAt (s : State) (g : GenId) (r : MoveRecord) (byTrigger : Bool) : State :=
  (s.modGen g fun n => n.started r s.lines).postGen g
    (.moveStarted g r.tag r.kind (s.gen g).counter byTrigger (r.kind.startedPhase s.lines))

/-- What the start of a move comes to (R90): it goes on, goes on with its first step (R93), or has ended at once. -/
theorem State.startMove_cases (s : State) (g : GenId) (r : MoveRecord) (byTrigger : Bool) :
    s.startMove g r byTrigger = (s.startedAt g r byTrigger, false) ∨
      s.startMove g r byTrigger = (s.startedAt g r byTrigger).firstStep g ∨
      ∃ cause, s.startMove g r byTrigger = ((s.startedAt g r byTrigger).closeMove g cause, true) := by
  unfold State.startMove State.startedAt
  dsimp only
  split
  · split
    · exact .inr (.inr ⟨_, rfl⟩)
    · exact .inr (.inl rfl)
  · exact .inr (.inl rfl)
  · split
    · exact .inl rfl
    · exact .inr (.inr ⟨_, rfl⟩)
  · exact .inl rfl
  · exact .inr (.inl rfl)

@[simp] theorem State.startedAt_gen (s : State) (g : GenId) (r : MoveRecord) (byTrigger : Bool) :
    (s.startedAt g r byTrigger).gen g = (s.gen g).started r s.lines := by
  unfold State.startedAt
  rw [State.postGen_gen, State.modGen_gen_same]

@[simp] theorem State.startedAt_claim (s : State) (g : GenId) (r : MoveRecord) (byTrigger : Bool) (q : Resource) :
    (s.startedAt g r byTrigger).claim q = s.claim q := by
  unfold State.startedAt
  rw [State.postGen_claim, State.modGen_claim]

/-- A record that starts on a generator of a HELD claim (R90). -/
theorem State.startMove_after (h : (s.gen g).Startable) (held : (s.claim (.generator g)).state = .held) (r : MoveRecord)
    (home : r.kind.homesInRange = true) (byTrigger : Bool) : State.GenAfter false (s.startMove g r byTrigger) g := by
  have started : (s.startedAt g r byTrigger).GenFits false g := by
    unfold State.GenFits
    rw [State.startedAt_gen, State.startedAt_claim, held]
    exact (h.started r home s.lines).fits_held
  rcases s.startMove_cases g r byTrigger with e | e | ⟨cause, e⟩ <;> rw [e]
  · exact ⟨fun _ => started, nofun⟩
  · exact started.firstStep
  · exact ⟨nofun, fun _ => started.closeMove cause⟩

/-! ### The queue only gets shorter -/

theorem State.flushAll_queue (s : State) (g : GenId) : ((s.flushAll g).gen g).queue = [] := by rw [State.flushAll_gen]

theorem State.closeMove_queue (s : State) (g : GenId) (cause : EndCause) :
    ((s.closeMove g cause).gen g).queue = (s.gen g).queue := by
  cases m : (s.gen g).current with
  | none => rw [State.closeMove_none s g cause m]
  | some m => rw [State.closeMove_gen s g cause m]; rfl

theorem State.closeStopped_queue (s : State) (g : GenId) : ((s.closeStopped g).gen g).queue = (s.gen g).queue := by
  cases m : (s.gen g).current with
  | none => rw [State.closeStopped_none s g m]
  | some m => rw [State.closeStopped_some s g m, State.closeMove_queue]

theorem State.brake_queue (s : State) (g : GenId) (rate : StopRate) : ((s.brake g rate).1.gen g).queue = (s.gen g).queue := by
  rw [State.brake_eq]
  split
  · dsimp only
    rw [State.closeStopped_queue, State.modGen_gen_same]
    rfl
  · dsimp only
    rw [State.modGen_gen_same]
    rfl

theorem State.issueStep_queue (s : State) (g : GenId) : ((s.issueStep g).1.gen g).queue = (s.gen g).queue := by
  cases hm : (s.gen g).current with
  | none => rw [State.issueStep_none s g hm]
  | some m =>
    cases into : inCountRange (((s.gen g).motion m).move (s.gen g).counter) with
    | false => rw [State.issueStep_out s g hm into]
    | true =>
      rw [State.issueStep_gen s g hm into]
      cases g <;> rfl

theorem State.afterStep_queue (s : State) (g : GenId) (e : StepEnd) :
    ((s.afterStep g e).1.gen g).queue.length ≤ (s.gen g).queue.length := by
  cases e with
  | goesOn => exact le_refl _
  | noneLeft =>
    unfold State.afterStep
    dsimp only
    split
    · exact (congrArg List.length (s.closeStopped_queue g)).le
    · exact (congrArg List.length (s.closeMove_queue g _)).le
  | outOfRange =>
    refine (congrArg List.length ((s.flushAll g).closeMove_queue g _)).le.trans ?_
    rw [State.flushAll_queue]
    exact Nat.zero_le _
  | overLimit =>
    refine (congrArg List.length (State.brake_queue _ g _)).le.trans ?_
    rw [State.flushAll_queue]
    exact Nat.zero_le _

theorem State.firstStep_queue (s : State) (g : GenId) : ((s.firstStep g).1.gen g).queue.length ≤ (s.gen g).queue.length := by
  unfold State.firstStep
  split
  · dsimp only
    rw [State.modGen_gen_same]
  · exact (State.afterStep_queue _ g _).trans (congrArg List.length (s.issueStep_queue g)).le

theorem State.startMove_queue (s : State) (g : GenId) (r : MoveRecord) (byTrigger : Bool) :
    ((s.startMove g r byTrigger).1.gen g).queue.length ≤ (s.gen g).queue.length := by
  have started : ((s.startedAt g r byTrigger).gen g).queue = (s.gen g).queue := by
    rw [State.startedAt_gen]
    exact ((s.gen g).started_keeps r s.lines).1
  rcases s.startMove_cases g r byTrigger with e | e | ⟨cause, e⟩ <;> rw [e]
  · exact (congrArg List.length started).le
  · exact (State.firstStep_queue _ g).trans (congrArg List.length started).le
  · exact ((congrArg List.length (State.closeMove_queue _ g cause)).trans (congrArg List.length started)).le

theorem State.consumeTrigger_gen (s : State) (g : GenId) (r : MoveRecord) :
    (s.consumeTrigger g r).gen g =
      { s.gen g with pendingTrigger := if r.start = .onTrigger then false else (s.gen g).pendingTrigger } := by
  unfold State.consumeTrigger
  cases r.start <;> simp

@[simp] theorem State.consumeTrigger_claim (s : State) (g : GenId) (r : MoveRecord) (q : Resource) :
    (s.consumeTrigger g r).claim q = s.claim q := by
  unfold State.consumeTrigger
  cases r.start <;> rfl

/-- A generator without a move takes its queue (R90, R92). -/
theorem State.GenBare.takeQueue (k : Nat) (h : s.GenBare b g) (l : (s.gen g).queue.length ≤ k) :
    (State.takeQueue g k s).GenFits b g := by
  induction k generalizing s with
  | zero => exact h.settle (List.length_eq_zero_iff.mp (Nat.le_zero.mp l))
  | succ k ih =>
    unfold State.takeQueue
    split <;> rename_i q
    · exact h.settle q
    · rename_i r rest
      have nonempty : (s.gen g).queue ≠ [] := by rw [q]; simp
      have held : (s.claim (.generator g)).state = .held := by
        by_contra u
        exact nonempty (h.unheld_empty u)
      have start := h.startable nonempty
      have off : b = false := h.halt_copy.symm.trans start.no_halt
      have homes := h.home_range
      have places := h.queue_places
      rw [q] at homes places l
      dsimp only
      simp only [State.modGen_gen_same]
      split <;> rename_i waits
      · unfold State.GenFits
        rw [State.modGen_gen_same, State.modGen_gen_same, State.modGen_claim, State.modGen_claim, held]
        exact (h.armed q waits.2 r.kind.limit).fits_held
      · have gen := State.consumeTrigger_gen (s.modGen g fun n => { n with queue := rest }) g r
        have queue : (((s.modGen g fun n => { n with queue := rest }).consumeTrigger g r).gen g).queue = rest := by
          rw [gen, State.modGen_gen_same]
        have startable : (((s.modGen g fun n => { n with queue := rest }).consumeTrigger g r).gen g).Startable := by
          rw [gen, State.modGen_gen_same]
          exact ⟨start.no_halt, h.counter_range, fun k hk => homes k (.tail _ hk), (Nat.le_succ _).trans places, h.backlog_places,
            h.empty_backlog_up⟩
        have after := State.startMove_after startable (by rw [State.consumeTrigger_claim, State.modGen_claim]; exact held) r
          (homes r (.head _)) (decide (r.start = .onTrigger))
        have shorter := State.startMove_queue ((s.modGen g fun n => { n with queue := rest }).consumeTrigger g r) g r
          (decide (r.start = .onTrigger))
        rw [queue] at shorter
        subst off
        split <;> rename_i e
        · exact ih (after.2 e) (shorter.trans (Nat.succ_le_succ_iff.mp l))
        · exact after.1 (by simpa using e)

theorem State.GenBare.nextMove (h : s.GenBare b g) : (s.nextMove g).GenFits b g := h.takeQueue _ (le_refl _)

theorem State.GenFits.endMove (h : s.GenFits b g) (cause : EndCause) : (s.endMove g cause).GenFits b g :=
  (h.closeMove cause).nextMove

theorem State.GenAfter.thenNext {r : State × Bool} (h : State.GenAfter b r g) : (State.thenNext r g).GenFits b g := by
  unfold State.thenNext
  split <;> rename_i e
  · exact (h.2 e).nextMove
  · exact h.1 (by simpa using e)

theorem State.GenFits.takeStep (h : s.GenFits b g) : (s.takeStep g).GenFits b g := h.step.thenNext

/-! ### Triggers, stops and halts -/

theorem State.GenFits.postGen (h : s.GenFits b g) (k : NoticeKind) : (s.postGen g k).GenFits b g :=
  h.congr (by simp) (by simp)

/-- A trigger kept (R91). -/
theorem State.GenFits.keepTrigger (h : s.GenFits b g) (k : (s.gen g).state ≠ .armed ∧ (s.gen g).state ≠ .stopping ∧ (s.gen g).state ≠ .halted) :
    (s.modGen g fun n => { n with pendingTrigger := true }).GenFits b g :=
  h.modGen _
    { h.lawful with
      armed_no_trigger := fun e => absurd e k.1
      stopped_no_trigger := fun e => e.elim (fun e => absurd e k.2.2) fun e => absurd e k.2.1 }
    rfl

theorem State.GenFits.trigger (h : s.GenFits b g) (source : TriggerSource) : (s.trigger g source).GenFits b g := by
  have lost := h.postGen (.triggerLost g source (s.gen g).state)
  have held (k : (s.gen g).state ≠ .armed ∧ (s.gen g).state ≠ .stopping ∧ (s.gen g).state ≠ .halted) :
      (if (s.gen g).pendingTrigger then s.postGen g (.triggerLost g source (s.gen g).state)
        else s.modGen g fun n => { n with pendingTrigger := true }).GenFits b g := by
    split
    · exact lost
    · exact h.keepTrigger k
  unfold State.trigger
  dsimp only
  split <;> rename_i state <;> simp only [state] at held lost ⊢
  · split <;> rename_i hm
    · rename_i m
      have start := h.lawful.startable state
      have off : b = false := h.lawful.halt_copy.symm.trans start.no_halt
      subst off
      exact (State.startMove_after start (h.held (by rw [state]; rfl) (by rw [state]; decide)) m.record
        (h.lawful.home_range.2 m hm) true).thenNext
    · exact h
  all_goals first | exact held (by decide) | exact lost

/-- A generator whose queue and trigger are discarded and whose move then ends (R103, R108, R110). -/
theorem State.endMove_flushed {n : Generator} {b' : Bool} (lawful : n.Lawful b) (state : n.state.atRest = false ∧ n.state ≠ .stopping)
    (gen : s.gen g = { n with halt := b', queue := [], pendingTrigger := false }) (cause : EndCause) :
    (s.endMove g cause).GenFits b' g := by
  obtain ⟨m, hm, -⟩ := lawful.move_suits state.1
  have current : (s.gen g).current = some m := by rw [gen]; exact hm
  have bare : (s.closeMove g cause).GenBare b' g := by
    unfold State.GenBare
    rw [State.closeMove_gen s g cause current, State.closeMove_claim, gen]
    exact ⟨rfl, rfl, lawful.counter_range, fun _ hr => (nomatch hr), Nat.zero_le _, Nat.zero_le _, fun _ => rfl,
      fun _ => ⟨rfl, rfl⟩, fun _ => rfl⟩
  exact bare.nextMove

/-- The stop of a generator whose claim has lost its owner, or of any with its owner (R103, R110): the claim may be RELEASING
already. -/
theorem State.rampStop_fits (lawful : (s.gen g).Lawful b) (free : (s.claim (.generator g)).state = .free → (s.gen g).state.atRest = true)
    (idle : (s.gen g).state = .idle → (s.claim (.generator g)).state ≠ .releasing) : (s.rampStop g).GenFits b g := by
  have stands (k : (s.gen g).state = .stopping ∨ (s.gen g).state = .halted) : s.GenFits b g := ⟨lawful, free, fun _ => k⟩
  have gen : (s.flushAll g).gen g = { s.gen g with halt := b, queue := [], pendingTrigger := false } := by
    rw [State.flushAll_gen, ← lawful.halt_copy]
  have slow (motion : (s.gen g).state = .running ∨ (s.gen g).state = .searching) :
      (State.thenNext ((s.flushAll g).brake g .stop) g).GenFits b g := by
    refine (State.brake_after .stop lawful motion gen ?_).thenNext
    rw [State.flushAll_claim]
    intro k
    have rest := GenState.not_atRest_of_motion motion
    rw [free k] at rest
    cases rest
  unfold State.rampStop
  split <;> rename_i state
  · exact ⟨lawful, free, fun k => absurd k (idle state)⟩
  · exact State.endMove_flushed lawful (by rw [state]; decide) gen _
  · exact State.endMove_flushed lawful (by rw [state]; decide) gen _
  · exact State.endMove_flushed lawful (by rw [state]; decide) gen _
  · exact slow (.inl state)
  · exact slow (.inr state)
  · exact stands (.inl state)
  · exact stands (.inr state)

theorem State.GenFits.rampStop (h : s.GenFits b g) : (s.rampStop g).GenFits b g :=
  State.rampStop_fits h.lawful h.free_rests fun k c => by rcases h.releasing_stops c with e | e <;> rw [k] at e <;> cases e

/-- The record of a generator as halt comes into force there, queue and trigger discarded (R108). -/
theorem State.haltFlush_gen (s : State) (g : GenId) :
    ((s.modGen g fun n => { n with halt := true }).flushAll g).gen g =
      { s.gen g with halt := true, queue := [], pendingTrigger := false } := by
  rw [State.flushAll_gen, State.modGen_gen_same]

/-- Halt entry (R108): halt is then in force, whether it was before or not. -/
theorem State.GenFits.haltEntry (h : s.GenFits b g) : (s.haltEntry g).GenFits true g := by
  have gen := s.haltFlush_gen g
  have claim (q : Resource) : ((s.modGen g fun n => { n with halt := true }).flushAll g).claim q = s.claim q := by
    rw [State.flushAll_claim, State.modGen_claim]
  have slow (motion : (s.gen g).state = .running ∨ (s.gen g).state = .searching) :
      (State.thenNext (((s.modGen g fun n => { n with halt := true }).flushAll g).brake g .halt) g).GenFits true g := by
    refine (State.brake_after .halt h.lawful motion gen ?_).thenNext
    rw [claim]
    exact h.not_free (GenState.not_atRest_of_motion motion)
  have flushed := h.lawful.flushed false nofun
  unfold State.haltEntry
  dsimp only
  split <;> rename_i state
  · unfold State.GenFits
    rw [State.modGen_gen_same, State.modGen_claim, claim, gen]
    exact
      ⟨{ flushed with
          halt_copy := rfl, rest_no_move := fun _ => ⟨(h.lawful.rest_no_move (by rw [state]; rfl)).1, rfl⟩, move_suits := nofun
          halted_in_force := fun _ => rfl, halt_stops := fun _ => .inl rfl, stopping_no_queue := nofun, armed_no_trigger := nofun
          stopped_no_trigger := fun _ => rfl },
        fun _ => rfl, fun _ => .inr rfl⟩
  · exact State.endMove_flushed h.lawful (by rw [state]; decide) gen _
  · exact State.endMove_flushed h.lawful (by rw [state]; decide) gen _
  · exact State.endMove_flushed h.lawful (by rw [state]; decide) gen _
  · exact slow (.inl state)
  · exact slow (.inr state)
  · unfold State.GenFits
    rw [State.modGen_gen_same, State.modGen_claim, claim, gen]
    exact
      ⟨{ flushed with halt_copy := rfl, halted_in_force := fun _ => rfl, halt_stops := fun _ => .inr state },
        h.free_rests, h.releasing_stops⟩
  · unfold State.GenFits
    rw [claim, gen]
    exact
      ⟨{ flushed with halt_copy := rfl, halted_in_force := fun _ => rfl, halt_stops := fun _ => .inl state },
        h.free_rests, h.releasing_stops⟩

/-- The clear at a generator (R109): halt is then not in force. -/
theorem State.GenFits.haltClear (h : s.GenFits b g) : (s.haltClear g).GenFits false g := by
  unfold State.haltClear
  dsimp only
  split <;> rename_i state
  · obtain ⟨none, empty⟩ := h.lawful.rest_no_move (by rw [state]; rfl)
    have idle (t : Bool) : ({ s.gen g with halt := false, state := .idle, pendingTrigger := t } : Generator).Lawful false :=
      { h.lawful with
        halt_copy := rfl, rest_no_move := fun _ => ⟨none, empty⟩, move_suits := nofun, halted_in_force := nofun
        halt_stops := nofun, stopping_no_queue := nofun, armed_no_trigger := nofun
        stopped_no_trigger := fun e => by rcases e with e | e <;> cases e }
    unfold State.GenFits
    rw [State.reportIdle_gen, State.reportIdle_claim]
    simp only [State.modGen_gen_same, State.modGen_claim]
    by_cases rel : (s.claim (.generator g)).state = .releasing <;> simp only [rel, if_true, if_false]
    · exact ⟨idle false, fun _ => rfl, fun k => absurd k (Claim.passed_not_releasing _)⟩
    · exact ⟨idle _, fun _ => rfl, fun k => absurd k rel⟩
  · unfold State.GenFits
    rw [State.modGen_gen_same, State.modGen_claim]
    exact
      ⟨{ h.lawful with halt_copy := rfl, halted_in_force := fun e => absurd e state, halt_stops := nofun }, h.free_rests,
        h.releasing_stops⟩

end Sys2Proof.Machine
end

section
/-! SUPPORT. The law of a generator under its events and requests: source events, edges of a search, timers, records appended. -/

namespace Sys2Proof.Machine

variable {b : Bool} {s t : State} {g : GenId}

/-! ### The backlog of a FOLLOW move (R99) -/

/-- A backlog of at most 64 steps, an empty one with direction UP. -/
def BacklogLawful (x : Nat × StepDir) : Prop := x.1 ≤ 64 ∧ (x.1 = 0 → x.2 = .up)

theorem joinBacklog_lawful {dir : StepDir} {x y : Nat × StepDir} (h : BacklogLawful x) (e : joinBacklog dir x = some y) :
    BacklogLawful y := by
  obtain ⟨count, d⟩ := x
  obtain ⟨places, up⟩ := h
  dsimp only at places up
  unfold joinBacklog at e
  dsimp only at e
  split at e
  · split at e <;> cases e
    exact ⟨‹_›, fun z => absurd z (Nat.succ_ne_zero _)⟩
  · cases e
    refine ⟨(Nat.sub_le _ _).trans places, fun z => ?_⟩
    dsimp only at z ⊢
    simp [backlogDirection, z]

theorem joinMany_lawful {dir : StepDir} (k : Nat) {x y : Nat × StepDir} (h : BacklogLawful x) (e : joinMany dir k x = some y) :
    BacklogLawful y := by
  induction k generalizing x with
  | zero => cases e; exact h
  | succ k ih =>
    unfold joinMany at e
    split at e
    · exact ih (joinBacklog_lawful h ‹_›) e
    · cases e

/-- The current FOLLOW move of a generator that follows an axis now (R9). -/
theorem Generator.followsNow_iff (n : Generator) (x : AxisId) :
    n.followsNow x = true ↔
      n.state = .following ∧ ∃ m num den limit, n.current = some m ∧ m.record.kind = .follow x num den limit := by
  unfold Generator.followsNow
  rw [Bool.and_eq_true, decide_eq_true_eq]
  refine and_congr_right fun _ => ?_
  cases n.current with
  | none => simp
  | some m =>
    dsimp only
    cases e : m.record.kind <;> simp [e]

/-- A source event at a generator that does not follow the axis (R9). -/
theorem State.followEvent_of_not (s : State) {x : AxisId} (d : AxisDir) {g : GenId} (h : (s.gen g).followsNow x = false) :
    s.followEvent x d g = s := by
  unfold State.followEvent
  simp [h]

/-- A source event at a generator that follows the axis (R98, R99). -/
theorem State.followEvent_of_follows (s : State) {x : AxisId} (d : AxisDir) {g : GenId} {m : CurrentMove} {num : Int} {den : Nat}
    {limit : Option Nat} (state : (s.gen g).state = .following) (hm : (s.gen g).current = some m)
    (kind : m.record.kind = .follow x num den limit) :
    s.followEvent x d g =
      match joinMany (followReduce (s.gen g).accumulator num den d).2.2 (followReduce (s.gen g).accumulator num den d).2.1
        ((s.gen g).backlog, (s.gen g).backlogDir) with
      | some (count, dir) =>
        s.modGen g fun n =>
          { n with accumulator := (followReduce (s.gen g).accumulator num den d).1, backlog := count, backlogDir := dir }
      | none => (s.flush g).endMove g .followOverspeed := by
  have now : (s.gen g).followsNow x = true := (Generator.followsNow_iff _ x).mpr ⟨state, m, num, den, limit, hm, kind⟩
  unfold State.followEvent
  simp only [now, if_true, hm, kind] <;> rfl

theorem State.GenFits.followEvent (h : s.GenFits b g) (x : AxisId) (d : AxisDir) : (s.followEvent x d g).GenFits b g := by
  cases now : (s.gen g).followsNow x with
  | false => rw [s.followEvent_of_not d now]; exact h
  | true =>
    obtain ⟨state, m, num, den, limit, hm, kind⟩ := (Generator.followsNow_iff _ x).mp now
    rw [s.followEvent_of_follows d state hm kind]
    split <;> rename_i joined
    · obtain ⟨places, up⟩ := joinMany_lawful _ ⟨h.lawful.backlog_places, h.lawful.empty_backlog_up⟩ joined
      exact h.modGen _ { h.lawful with backlog_places := places, empty_backlog_up := up } rfl
    · exact h.flush.endMove _

/-! ### Edges of a search (R117 to R121) -/

/-- The search of a generator in SEARCHING. -/
theorem Generator.searchNow_some {n : Generator} {m : CurrentMove} {f : HomeFields} {r : SearchRecord} :
    n.searchNow = some (m, f, r) ↔
      n.state = .searching ∧ n.current = some m ∧ m.record.kind = .home f ∧ m.search = some r := by
  unfold Generator.searchNow
  constructor
  · intro h
    split at h <;> rename_i state
    · split at h <;> rename_i hm
      · cases h
      · split at h <;> rename_i kind search
        · cases h
          exact ⟨state, hm, kind, search⟩
        · cases h
    · cases h
  · rintro ⟨state, hm, kind, search⟩
    simp [state, hm, kind, search]

theorem Generator.Lawful.setSearch {n : Generator} (h : n.Lawful b) (r : SearchRecord) : (n.setSearch r).Lawful b :=
  h.modMove _ fun _ _ => rfl

theorem State.GenFits.setSearch (h : s.GenFits b g) (r : Generator → SearchRecord) :
    (s.modGen g fun n => n.setSearch (r n)).GenFits b g := h.modGen _ (h.lawful.setSearch _) rfl

theorem State.GenFits.searchDone (h : s.GenFits b g) (f : HomeFields) (range : -2000000000 ≤ f.home ∧ f.home ≤ 2000000000) :
    (s.searchDone g f).GenFits b g := by
  have homed : (s.modGen g fun n => { n with counter := f.home }).GenFits b g :=
    h.modGen _ { h.lawful with counter_range := range } rfl
  exact homed.endMove _

theorem Generator.Lawful.home_of_searchNow {n : Generator} (h : n.Lawful b) {m : CurrentMove} {f : HomeFields} {r : SearchRecord}
    (k : n.searchNow = some (m, f, r)) : -2000000000 ≤ f.home ∧ f.home ≤ 2000000000 := by
  obtain ⟨-, hm, kind, -⟩ := Generator.searchNow_some.mp k
  have home := h.home_range.2 m hm
  rw [kind] at home
  exact of_decide_eq_true home

theorem State.GenFits.refEdgeAt (h : s.GenFits b g) (line : RefLine) (rising : Bool) : (s.refEdgeAt line rising g).GenFits b g := by
  unfold State.refEdgeAt
  split <;> rename_i search
  · exact h
  · have state := (Generator.searchNow_some.mp search).1
    split
    · split
      · exact h.setSearch _
      · split
        · exact h
        · exact h.setSearch _
      · split
        · exact (h.failSearch _ state).thenNext
        · exact h
      · split
        · exact h.searchDone _ (h.lawful.home_of_searchNow search)
        · exact h
      all_goals exact h
    · exact h

theorem State.GenFits.markerEdgeAt (h : s.GenFits b g) (e : Encoder) : (s.markerEdgeAt e g).GenFits b g := by
  unfold State.markerEdgeAt
  split <;> rename_i search
  · exact h
  · rename_i m f r
    have counted : (s.modGen g fun n => n.setSearch { r with markers := r.markers + 1 }).GenFits b g := h.setSearch _
    split
    · dsimp only
      split
      · exact counted.searchDone f (h.lawful.home_of_searchNow search)
      · exact counted
    · exact h

/-! ### The ramp timer -/

theorem Generator.searchRamp_lawful {n : Generator} (h : n.Lawful b) : n.searchRamp.Lawful b := by
  unfold Generator.searchRamp
  split <;> rename_i hm
  · exact h
  · rename_i m
    have home := h.home_range
    have busy : n.state.atRest = false := by
      by_contra r
      rw [(h.rest_no_move (by simpa using r)).1] at hm
      cases hm
    obtain ⟨k, hk, suits⟩ := h.move_suits busy
    rw [hm] at hk
    cases hk
    have creeping (v : Nat) (search : Option SearchRecord) :
        ({ n with speed := v, current := some { m with search := search } } : Generator).Lawful b :=
      { h with
        home_range := ⟨home.1, fun k hk => by cases hk; exact home.2 m hm⟩
        rest_no_move := fun r => absurd r (by rw [busy]; decide)
        move_suits := fun _ => ⟨_, rfl, suits⟩ }
    split
    · split
      · split
        · split
          · exact creeping _ _
          · exact { h with }
        · exact { h with }
      · exact h
    · exact h

theorem State.GenFits.closeStopped_next (h : s.GenFits b g) : ((s.closeStopped g).nextMove g).GenFits b g :=
  (State.closeStopped_bare h.lawful h.unheld_empty).nextMove

theorem Generator.searchRamp_state (n : Generator) : n.searchRamp.state = n.state := by
  unfold Generator.searchRamp
  split
  · rfl
  · split
    · split
      · split
        · split <;> rfl
        · rfl
      · rfl
    · rfl

theorem State.GenFits.rampTick (h : s.GenFits b g) : (s.rampTick g).GenFits b g := by
  have pre : (s.modGen g fun n => { n with rampLeft := some 1 }).GenFits b g := h.modGen _ { h.lawful with } rfl
  unfold State.rampTick
  dsimp only
  generalize s.modGen g (fun n => { n with rampLeft := some 1 }) = t at pre ⊢
  split
  · split
    · exact pre
    · split
      · exact pre.modGen _ { pre.lawful with } rfl
      · exact pre.endMove _
  · exact pre.modGen _ (Generator.searchRamp_lawful pre.lawful) (Generator.searchRamp_state _)
  · split
    · exact pre.closeStopped_next
    · have slower : (t.modGen g fun n => { n with speed := n.speed - n.stopDecelNow }).GenFits b g :=
        pre.modGen _ { pre.lawful with } rfl
      split
      · exact slower.closeStopped_next
      · exact slower
  all_goals exact h

/-! ### Requests -/

/-- A record joins the queue of a generator whose move goes on (R105). -/
theorem Generator.Lawful.append {n : Generator} (h : n.Lawful b) (r : MoveRecord) (home : r.kind.homesInRange = true)
    (room : n.queue.length < 8) (busy : n.state.atRest = false) (k : n.state ≠ .stopping) :
    ({ n with queue := n.queue ++ [r] } : Generator).Lawful b :=
  { h with
    home_range :=
      ⟨fun q hq => (List.mem_append.mp hq).elim (h.home_range.1 q) fun e => by rw [List.mem_singleton.mp e]; exact home,
        h.home_range.2⟩
    queue_places := by rw [List.length_append]; exact room
    rest_no_move := fun e => by dsimp only at e; rw [busy] at e; cases e
    stopping_no_queue := fun e => absurd e k }

/-- Append Move on a generator that may take a record (R105). -/
theorem State.GenFits.append (h : s.GenFits b g) (held : (s.claim (.generator g)).state = .held) (halt : (s.gen g).halt = false)
    (k : (s.gen g).state ≠ .stopping) (room : (s.gen g).queue.length < 8) (r : MoveRecord) (home : r.kind.homesInRange = true) :
    (s.append g r).GenFits b g := by
  have not_halted : (s.gen g).state ≠ .halted := fun e => by rw [h.lawful.halted_in_force e] at halt; cases halt
  have joined (idle : (s.gen g).state ≠ .idle) : (s.modGen g fun n => { n with queue := n.queue ++ [r] }).GenFits b g := by
    refine h.modGen _ (h.lawful.append r home room ?_ k) rfl
    cases e : (s.gen g).state <;> first | rfl | exact absurd e idle | exact absurd e not_halted
  unfold State.append
  dsimp only
  split <;> rename_i idle
  · obtain ⟨none, empty⟩ := h.lawful.rest_no_move (by rw [idle]; rfl)
    have bare : (s.modGen g fun n => { n with queue := n.queue ++ [r] }).GenBare b g := by
      unfold State.GenBare
      rw [State.modGen_gen_same, State.modGen_claim, held]
      exact
        ⟨none, h.lawful.halt_copy, h.lawful.counter_range,
          fun q hq => by
            dsimp only at hq
            rw [empty] at hq
            rw [List.mem_singleton.mp hq]
            exact home,
          by dsimp only; rw [empty]; simp, h.lawful.backlog_places, h.lawful.empty_backlog_up,
          fun e => absurd e (by dsimp only; rw [halt]; decide), fun e => absurd rfl e⟩
    exact bare.nextMove
  · have j := joined idle
    split
    · exact j
    · split
      · split
        · exact j.modGen _ { j.lawful with } rfl
        · exact j
      · exact j.endMove _
      all_goals exact j

/-- The home value of a record that Append Move accepts (R114). -/
theorem moveOf_homesInRange {g : GenId} {maxRate : Nat} {raw : RawMove} {r : MoveRecord} (h : moveOf g maxRate raw = some r) :
    r.kind.homesInRange = true := by
  have home {k : MoveKind} (e : homeKindOf maxRate raw = some k) : k.homesInRange = true := by
    unfold homeKindOf at e
    split at e
    · rename_i hh _ _ _ _ _
      split at e
      · cases e
      · split at e <;> cases e
        unfold countOf at hh
        split at hh <;> cases hh
        exact decide_eq_true ((inCountRange_iff _).mp ‹_›)
    · cases e
  have kind {k : MoveKind} (e : moveKindOf g maxRate raw = some k) : k.homesInRange = true := by
    unfold moveKindOf at e
    split at e
    · unfold positionKindOf at e; split at e <;> cases e; rfl
    · unfold velocityKindOf at e; split at e <;> cases e; rfl
    · unfold followKindOf at e
      dsimp only at e
      split at e
      · split at e <;> cases e; rfl
      · cases e
    · unfold dwellKindOf at e
      dsimp only at e
      split at e <;> cases e; rfl
    · exact home e
    · cases e
  unfold moveOf at h
  split at h <;> cases h
  exact kind ‹_›

end Sys2Proof.Machine
end

section
/-! SUPPORT. The laws of a state together, but for those of the links, and how far each kind of operation leaves them: what
every part of a command keeps, it keeps through them. -/

namespace Sys2Proof.Machine

/-- The claim table's law with the session of a port, if any, on its way out: the claims it owned may still stand (R142). -/
structure State.ClaimsBut (gone : Option PortId) (s : State) : Prop where
  each : ∀ r, (s.claim r).Lawful r
  owners_open : ∀ r p, (s.claim r).owner = some p → (s.session p).isOpen = true ∨ gone = some p
  waiters_open : ∀ r p, p ∈ (s.claim r).waiters → (s.session p).isOpen = true

/-- The laws of a state but for those of its generators, its links and its hand-over's response, with a session, if any, on
its way out. -/
structure State.Calm (gone : Option PortId) (s : State) : Prop where
  axes : s.AxesLawful
  windows : s.WindowsLawful
  halt : s.HaltLawful
  once : s.handing.Nodup
  not_latched : s.handing ≠ [] → s.halt ≠ .latched
  commits : s.CommitsLawful
  pool : s.PoolLawful
  claims : s.ClaimsBut gone
  sessions : s.SessionsLawful
  notices : s.NoticesLawful

/-- The same with the laws of the generators. -/
structure State.Sound (gone : Option PortId) (s : State) : Prop extends State.Calm gone s where
  gens : ∀ g, s.GenFits (s.inForceAt (.generator g)) g

theorem State.Lawful.sound {s : State} (h : s.Lawful) : s.Sound none :=
  ⟨⟨h.axes, ⟨h.channels, h.cam, h.slots⟩, h.halt, h.handOver.once, h.handOver.not_latched, h.commits, h.pool,
      ⟨h.claims.each, fun r p k => .inl (h.claims.owners_open r p k), h.claims.waiters_open⟩, h.sessions, h.notices⟩,
    s.gensLawful_iff.mp h.gens⟩

theorem State.Sound.claimsLawful {s : State} (h : s.Sound none) : s.ClaimsLawful :=
  ⟨h.claims.each, fun r p k => (h.claims.owners_open r p k).resolve_right nofun, h.claims.waiters_open⟩

theorem State.Sound.gensLawful {s : State} {gone : Option PortId} (h : s.Sound gone) : s.GensLawful :=
  s.gensLawful_iff.mpr h.gens

/-! ### Claims -/

theorem Claim.free_lawful (r : Resource) : Claim.free.Lawful r :=
  ⟨Nat.zero_le _, List.nodup_nil, nofun, fun _ => ⟨rfl, rfl⟩, nofun, nofun⟩

theorem Claim.Lawful.passed {r : Resource} {c : Claim} (h : c.Lawful r) : c.passed.Lawful r := by
  unfold Claim.passed
  split <;> rename_i w
  · exact Claim.free_lawful r
  · have once := h.wait_once
    have places := h.wait_places
    rw [w] at once places
    obtain ⟨fresh, once⟩ := List.nodup_cons.mp once
    exact ⟨(Nat.le_succ _).trans places, once, fun p hp => by cases hp; exact fresh, nofun, fun _ => rfl, nofun⟩

theorem Claim.passed_owner {c : Claim} {p : PortId} (h : c.passed.owner = some p) : p ∈ c.waiters := by
  unfold Claim.passed at h
  split at h <;> rename_i w
  · cases h
  · cases h; rw [w]; exact .head _

theorem Claim.passed_waiters {c : Claim} {p : PortId} (h : p ∈ c.passed.waiters) : p ∈ c.waiters := by
  unfold Claim.passed at h
  split at h <;> rename_i w
  · cases h
  · rw [w]; exact .tail _ h

/-- Claims that stand or have been handed on. -/
theorem State.ClaimsBut.handed {gone : Option PortId} {s t : State} (h : s.ClaimsBut gone)
    (claims : ∀ r, t.claim r = s.claim r ∨ t.claim r = (s.claim r).passed)
    (sessions : ∀ p, (t.session p).isOpen = (s.session p).isOpen) : t.ClaimsBut gone := by
  refine ⟨fun r => ?_, fun r p k => ?_, fun r p k => ?_⟩
  · rcases claims r with e | e <;> rw [e]
    · exact h.each r
    · exact (h.each r).passed
  · rw [sessions]
    rcases claims r with e | e <;> rw [e] at k
    · exact h.owners_open r p k
    · exact .inl (h.waiters_open r p (Claim.passed_owner k))
  · rw [sessions]
    rcases claims r with e | e <;> rw [e] at k
    · exact h.waiters_open r p k
    · exact h.waiters_open r p (Claim.passed_waiters k)

theorem Claim.Handed.stands_or_passed {c d : Claim} (h : c.Handed d) : d = c ∨ d = c.passed := h.imp id And.right

/-! ### What a change of some of the records keeps -/

section keeps

variable {gone : Option PortId} {s t : State} {n : Nat} {K : NoticeKind → Prop}

theorem State.CommitsLawful.congr (h : s.CommitsLawful) (commits : t.commits = s.commits)
    (modes : ∀ x, (t.axis x).mode = (s.axis x).mode) (sessions : ∀ p, (t.session p).isOpen = (s.session p).isOpen) :
    t.CommitsLawful := fun p x k => by
  have had : s.hasCommit p x = true := by unfold State.hasCommit at k ⊢; rw [← commits]; exact k
  rw [modes, sessions]
  exact h p x had

theorem State.SessionsLawful.congr (h : s.SessionsLawful) (sessions : ∀ p, t.session p = s.session p) : t.SessionsLawful := by
  refine ⟨fun p => sessions p ▸ h.each p, fun p q => ?_⟩
  rw [sessions, sessions]
  exact h.stations_differ p q

theorem State.Told.noticesLawful (k : State.Told K n s t) (h : s.NoticesLawful) : t.NoticesLawful := fun p =>
  (k.port p).lawful (h p)

theorem State.Told.isOpen (k : State.Told K n s t) (p : PortId) : (t.session p).isOpen = (s.session p).isOpen := by
  rw [k.session]

theorem State.axis_congr (h : t.axes = s.axes) (x : AxisId) : t.axis x = s.axis x := by unfold State.axis; rw [h]
theorem State.gen_congr (h : t.gens = s.gens) (g : GenId) : t.gen g = s.gen g := by unfold State.gen; rw [h]
theorem State.claim_congr (h : t.claims = s.claims) (r : Resource) : t.claim r = s.claim r := by unfold State.claim; rw [h]
theorem State.port_congr (h : t.ports = s.ports) (p : PortId) : t.port p = s.port p := by unfold State.port; rw [h]
theorem State.channel_congr (h : t.channels = s.channels) (o : OutputId) : t.channel o = s.channel o := by
  unfold State.channel; rw [h]
theorem State.compareList_congr (h : t.compares = s.compares) (x : AxisId) : t.compareList x = s.compareList x := by
  unfold State.compareList; rw [h]
theorem State.hasCommit_congr (h : t.commits = s.commits) (p : PortId) (x : AxisId) : t.hasCommit p x = s.hasCommit p x := by
  unfold State.hasCommit; rw [h]
theorem State.holder_congr (h : t.claims = s.claims) (r : Resource) : t.holder r = s.holder r := by
  unfold State.holder; rw [State.claim_congr h]
theorem State.holds_congr (h : t.claims = s.claims) (p : PortId) (r : Resource) : t.holds p r = s.holds p r := by
  unfold State.holds; rw [State.holder_congr h]

/-- Notices told, halt state and hand-over standing, and each other law of its own. -/
theorem State.Calm.told (h : s.Calm gone) (k : State.Told K n s t) (lines : t.lines = s.lines) (halt : t.halt = s.halt)
    (handing : t.handing = s.handing) (axes : t.AxesLawful) (windows : t.WindowsLawful) (commits : t.CommitsLawful)
    (pool : t.PoolLawful) (claims : ∀ r, t.claim r = s.claim r ∨ t.claim r = (s.claim r).passed) : t.Calm gone := by
  refine ⟨axes, windows, ?_, ?_, ?_, commits, pool, h.claims.handed claims k.isOpen, h.sessions.congr k.session,
    k.noticesLawful h.notices⟩
  · unfold State.HaltLawful
    rw [halt, lines]
    exact h.halt
  · rw [handing]; exact h.once
  · rw [handing, halt]; exact h.not_latched

theorem State.Sound.told (h : s.Sound gone) (k : State.Told K n s t) (lines : t.lines = s.lines) (halt : t.halt = s.halt)
    (handing : t.handing = s.handing) (axes : t.AxesLawful) (windows : t.WindowsLawful) (commits : t.CommitsLawful)
    (pool : t.PoolLawful) (gens : ∀ g, t.GenFits (s.inForceAt (.generator g)) g)
    (claims : ∀ r, t.claim r = s.claim r ∨ t.claim r = (s.claim r).passed) : t.Sound gone :=
  ⟨h.toCalm.told k lines halt handing axes windows commits pool claims,
    fun g => by rw [State.inForceAt_congr halt handing]; exact gens g⟩

/-- Nothing but ports differs, by notices told. -/
theorem State.Sound.ported (h : s.Sound gone) (r : PortsOnly s t) (k : State.Told K n s t) : t.Sound gone :=
  h.told k r.lines r.halt r.handing (h.axes.congr r.axes)
    (h.windows.congr r.slots r.camLevels r.channels r.halt r.handing fun o c => by rw [r.claim]; exact c)
    (h.commits.congr r.commits (fun x => by rw [State.axis_congr r.axes]) k.isOpen)
    (h.pool.congr r.compares r.nextCompareId fun x e _ o => by rw [k.isOpen]; exact o)
    (fun g => (h.gens g).congr (r.gen g) (r.claim _)) fun q => .inl (r.claim q)

/-- An operation at a generator. -/
theorem State.Calm.genOp (h : s.Calm gone) {g : GenId} (k : GenOnly g n s t) : t.Calm gone := by
  have r := k.move
  refine h.told k.told r.lines r.halt r.handing (h.axes.congr r.axes)
    (h.windows.congr r.slots r.camLevels r.channels r.halt r.handing
      fun o c => by rw [k.other_claims (.output o) (by simp)]; exact c)
    (h.commits.congr r.commits (fun x => by rw [State.axis_congr r.axes]) k.told.isOpen)
    (h.pool.congr r.compares r.nextCompareId fun x e _ o => by rw [k.told.isOpen]; exact o) fun q => ?_
  by_cases e : q = .generator g
  · rw [e]; exact k.claim.stands_or_passed
  · exact .inl (k.other_claims q e)

/-- An operation at a generator leaves the law of every other one. -/
theorem GenOnly.fits_other {g i : GenId} {b : Bool} (k : GenOnly g n s t) (e : i ≠ g) (h : s.GenFits b i) : t.GenFits b i :=
  h.congr (k.others i e) (k.other_claims _ fun c => e (by cases c; rfl))

/-- An operation at a generator that keeps the law there. -/
theorem State.Sound.genOp (h : s.Sound gone) {g : GenId} (k : GenOnly g n s t)
    (fits : ∀ b, s.GenFits b g → t.GenFits b g) : t.Sound gone := by
  refine ⟨h.toCalm.genOp k, fun i => ?_⟩
  rw [State.inForceAt_congr k.move.halt k.move.handing]
  by_cases e : i = g
  · subst i; exact fits _ (h.gens g)
  · exact k.fits_other e (h.gens i)

/-- The axes differ, their modes standing, and ports by notices told. -/
theorem State.Sound.axesOp (h : s.Sound gone) (r : CaptureOnly s t) (k : State.Told K n s t) (axes : t.AxesLawful)
    (modes : ∀ x, (t.axis x).mode = (s.axis x).mode) : t.Sound gone :=
  h.told k r.lines r.halt r.handing axes
    (h.windows.congr r.slots r.camLevels r.channels r.halt r.handing fun o c => by rw [State.claim_congr r.claims]; exact c)
    (h.commits.congr r.commits modes k.isOpen)
    (h.pool.congr r.compares r.nextCompareId fun x e _ o => by rw [k.isOpen]; exact o)
    (fun g => (h.gens g).congr (State.gen_congr r.gens g) (State.claim_congr r.claims _)) fun q => .inl (State.claim_congr r.claims q)

/-- Slots, cam levels, channels and commits differ, and ports by notices told. -/
theorem State.Sound.windowsOp (h : s.Sound gone) (r : CommitOnly s t) (k : State.Told K n s t) (windows : t.WindowsLawful)
    (commits : t.CommitsLawful) : t.Sound gone :=
  h.told k r.lines r.halt r.handing (h.axes.congr r.axes) windows commits
    (h.pool.congr r.compares r.nextCompareId fun x e _ o => by rw [k.isOpen]; exact o)
    (fun g => (h.gens g).congr (State.gen_congr r.gens g) (State.claim_congr r.claims _)) fun q => .inl (State.claim_congr r.claims q)

/-- The compare pool differs. -/
theorem State.Sound.poolOp (h : s.Sound gone) {c : PerAxis (List CompareEntry)} {i : Nat}
    (pool : ({ s with compares := c, nextCompareId := i } : State).PoolLawful) :
    ({ s with compares := c, nextCompareId := i } : State).Sound gone :=
  ⟨⟨h.axes.congr rfl, h.windows.congr rfl rfl rfl rfl rfl fun _ c => c, h.halt, h.once, h.not_latched,
      h.commits.congr rfl (fun _ => rfl) fun _ => rfl, pool,
      h.claims.handed (fun _ => .inl rfl) fun _ => rfl, h.sessions.congr fun _ => rfl, h.notices⟩,
    fun g => (h.gens g).congr rfl rfl⟩

/-- A change of fields that no law reads. -/
theorem State.Sound.frame (h : s.Sound gone) (v : List AxisDir) (taking : Bool) (choices : Nat) (pending : List Instr)
    (now : Word) (clearing : Option PortId) :
    ({ s with
        vEvents := v, vTaking := taking, choices := choices, pending := pending, now := now, clearing := clearing } : State).Sound
      gone :=
  ⟨⟨h.axes.congr rfl, h.windows.congr rfl rfl rfl rfl rfl fun _ c => c, h.halt, h.once, h.not_latched,
      h.commits.congr rfl (fun _ => rfl) fun _ => rfl, h.pool.congr rfl rfl fun _ _ _ o => o,
      h.claims.handed (fun _ => .inl rfl) fun _ => rfl, h.sessions.congr fun _ => rfl, h.notices⟩,
    fun g => (h.gens g).congr rfl rfl⟩

end keeps

/-! ### Parts that keep every law -/

/-- What a part of a command keeps: it reaches no more than a count event does, posts notices, and keeps the laws. -/
structure State.Keeps (s t : State) : Prop where
  reach : CountOnly s t
  told : ∃ n, State.Told (fun _ => True) n s t
  sound : ∀ gone, s.Sound gone → t.Sound gone

namespace State.Keeps

variable {s t u : State} {n : Nat} {K : NoticeKind → Prop}

theorem refl (s : State) : s.Keeps s := ⟨.refl s, ⟨0, .refl _ _ _⟩, fun _ h => h⟩

theorem trans (h : s.Keeps t) (k : t.Keeps u) : s.Keeps u := by
  obtain ⟨m, hm⟩ := h.told
  obtain ⟨n, hn⟩ := k.told
  exact ⟨h.reach.trans k.reach, ⟨_, hm.trans hn⟩, fun gone l => k.sound gone (h.sound gone l)⟩

theorem chosen (s : State) : s.Keeps { s with choices := s.choices + 1 } :=
  ⟨⟨rfl⟩, ⟨0, .of_ports _ _ rfl rfl⟩, fun _ h => h.frame _ _ _ _ _ _⟩

theorem of_ported (r : PortsOnly s t) (k : State.Told K n s t) : s.Keeps t :=
  ⟨r.toCountOnly, ⟨n, k.weaken fun _ _ => trivial⟩, fun _ h => h.ported r k⟩

theorem of_genOp {g : GenId} (k : ∃ n, GenOnly g n s t) (fits : ∀ b, s.GenFits b g → t.GenFits b g) : s.Keeps t := by
  obtain ⟨n, k⟩ := k
  exact ⟨k.move.toCountOnly, ⟨n, k.told.weaken fun _ _ => trivial⟩, fun _ h => h.genOp k fits⟩

theorem takeParts (parts : List (Bool × (State → State))) (h : ∀ f ∈ parts, ∀ t, State.Keeps t (f.2 t)) (s : State) :
    s.Keeps (takeParts parts s) :=
  takeParts_keeps State.Keeps .refl (fun _ _ _ h k => h.trans k) chosen parts h s

end State.Keeps

variable (s : State)

theorem State.post_keeps (p : PortId) (k : NoticeKind) : s.Keeps (s.post p k) :=
  .of_ported (s.post_reach p k) (s.post_told p (K := fun _ => True) trivial)

theorem State.postHolder_keeps (r : Resource) (k : NoticeKind) : s.Keeps (s.postHolder r k) :=
  .of_ported (s.postHolder_reach r k) (s.postHolder_told r (K := fun _ => True) trivial)

theorem State.broadcast_keeps (wants : Subscriptions → Bool) (k : NoticeKind) : s.Keeps (s.broadcast wants k) :=
  .of_ported (s.broadcast_reach wants k) (s.broadcast_told wants (K := fun _ => True) trivial)

theorem State.followEvent_keeps (x : AxisId) (d : AxisDir) (g : GenId) : s.Keeps (s.followEvent x d g) :=
  .of_genOp (s.followEvent_only x d g) fun _ h => h.followEvent x d

theorem State.trigger_keeps (g : GenId) (source : TriggerSource) : s.Keeps (s.trigger g source) :=
  .of_genOp (s.trigger_only g source) fun _ h => h.trigger source

theorem State.takeStep_keeps (g : GenId) : s.Keeps (s.takeStep g) := .of_genOp (s.takeStep_only g) fun _ h => h.takeStep

theorem State.rampTick_keeps (g : GenId) : s.Keeps (s.rampTick g) := .of_genOp (s.rampTick_only g) fun _ h => h.rampTick

theorem State.endMove_keeps (g : GenId) (cause : EndCause) : s.Keeps (s.endMove g cause) :=
  .of_genOp (s.endMove_only g cause) fun _ h => h.endMove cause

theorem State.rampStop_keeps (g : GenId) : s.Keeps (s.rampStop g) := .of_genOp (s.rampStop_only g) fun _ h => h.rampStop

theorem State.flush_keeps (g : GenId) : s.Keeps (s.flush g) := .of_genOp ⟨1, s.flush_only g⟩ fun _ h => h.flush

theorem State.refEdgeAt_keeps (line : RefLine) (rising : Bool) (g : GenId) : s.Keeps (s.refEdgeAt line rising g) :=
  .of_genOp (s.refEdgeAt_only line rising g) fun _ h => h.refEdgeAt line rising

theorem State.markerEdgeAt_keeps (e : Encoder) (g : GenId) : s.Keeps (s.markerEdgeAt e g) :=
  .of_genOp (s.markerEdgeAt_only e g) fun _ h => h.markerEdgeAt e

/-- A change of a generator's record that keeps its law and its state. -/
theorem State.modGen_keeps (g : GenId) (f : Generator → Generator) (lawful : ∀ b, (s.gen g).Lawful b → (f (s.gen g)).Lawful b)
    (state : (f (s.gen g)).state = (s.gen g).state) : s.Keeps (s.modGen g f) :=
  .of_genOp ⟨0, s.modGen_only g f⟩ fun _ h => h.modGen f (lawful _ h.lawful) state

/-! ### Captures -/

theorem State.modAxis_told (K : NoticeKind → Prop) (n : Nat) (x : AxisId) (f : Axis → Axis) :
    State.Told K n s (s.modAxis x f) := .of_ports _ _ rfl rfl

theorem State.setCompareList_told (K : NoticeKind → Prop) (n : Nat) (x : AxisId) (l : List CompareEntry) :
    State.Told K n s (s.setCompareList x l) := .of_ports _ _ rfl rfl

theorem State.logCapture_told {K : NoticeKind → Prop} (x : AxisId) (source : CaptureSource) (position : Int)
    (lost : K (.captureLost x source)) : State.Told K 1 s (s.logCapture x source position).1 := by
  unfold State.logCapture
  dsimp only
  split
  · dsimp only
    exact s.modAxis_told _ _ x _
  · dsimp only
    split
    · exact s.modAxis_told _ _ x _
    · exact (s.modAxis_told K 0 x _).trans (State.postHolder_told _ _ lost)

theorem State.captureEdge_told {K : NoticeKind → Prop} (x : AxisId) (source : CaptureSource) (rising : Bool)
    (lost : K (.captureLost x source)) (done : ∀ n, K (.captureDone x source n)) :
    State.Told K 2 s (s.captureEdge x source rising) := by
  unfold State.captureEdge
  split
  · exact .refl _ _ _
  · have pre := s.logCapture_told x source (s.axis x).extended lost
    generalize s.logCapture x source (s.axis x).extended = r at pre ⊢
    obtain ⟨t, logged⟩ := r
    cases logged
    · exact pre.mono (by omega)
    · simp only [if_true]
      split
      · exact (pre.trans (State.modAxis_told _ K 0 x _)).trans (State.postHolder_told _ _ (done _))
      · exact pre.trans (State.modAxis_told _ K 1 x _)

theorem State.logCapture_keeps (x : AxisId) (source : CaptureSource) (position : Int) :
    s.Keeps (s.logCapture x source position).1 := by
  have told := s.logCapture_told (K := fun _ => True) x source position trivial
  have reach := s.logCapture_reach x source position
  have axes := s.logCapture_axes x source position
  refine ⟨reach.toCountOnly, ⟨_, told⟩, fun gone h => h.axesOp reach told ?_ fun y => ?_⟩
  · refine State.AxesLawful.congr (h.axes.modAxis x _ ((h.axes.each x).logged source position s.now) (.inl ?_)) axes
    rw [Axis.logged_keeps]
  · rw [State.axis_congr axes, State.modAxis_axis]
    split
    · rename_i e; subst y; rw [Axis.logged_keeps]
    · rfl

theorem State.captureEdge_keeps (x : AxisId) (source : CaptureSource) (rising : Bool) :
    s.Keeps (s.captureEdge x source rising) := by
  have told := s.captureEdge_told (K := fun _ => True) x source rising trivial fun _ => trivial
  have reach := s.captureEdge_reach x source rising
  have axes := s.captureEdge_axes x source rising
  refine ⟨reach.toCountOnly, ⟨_, told⟩, fun gone h => h.axesOp reach told ?_ fun y => ?_⟩
  · refine State.AxesLawful.congr (h.axes.modAxis x _ ((h.axes.each x).captured source rising s.now) (.inl ?_)) axes
    rw [Axis.captured_keeps]
  · rw [State.axis_congr axes, State.modAxis_axis]
    split
    · rename_i e; subst y; rw [Axis.captured_keeps]
    · rfl

/-- A change of an axis that keeps its law, its mode and its sense. -/
theorem State.modAxis_keeps (x : AxisId) (f : Axis → Axis) (lawful : (s.axis x).Lawful → (f (s.axis x)).Lawful)
    (mode : (f (s.axis x)).mode = (s.axis x).mode) (sense : (f (s.axis x)).sense = (s.axis x).sense) : s.Keeps (s.modAxis x f) := by
  refine ⟨⟨rfl⟩, ⟨0, .of_ports _ _ rfl rfl⟩, fun gone h => h.axesOp (K := fun _ => True) (n := 0) ⟨rfl⟩ (.of_ports _ _ rfl rfl)
    (h.axes.modAxis x f (lawful (h.axes.each x)) (.inl sense)) fun y => ?_⟩
  rw [State.modAxis_axis]
  split
  · rename_i e; subst y; exact mode
  · rfl

/-! ### The cam engine -/

theorem LevelsOnly.told {s t : State} (h : LevelsOnly s t) (K : NoticeKind → Prop) (n : Nat) : State.Told K n s t :=
  .of_ports _ _ h.now h.ports

theorem CamOnly.told {s t : State} (h : CamOnly s t) (K : NoticeKind → Prop) (n : Nat) : State.Told K n s t :=
  .of_ports _ _ h.now h.ports

/-- A change of slots, cam levels and channels that keeps their laws. -/
theorem State.Keeps.of_camOnly {s t : State} (r : CamOnly s t) (windows : s.WindowsLawful → t.WindowsLawful) : s.Keeps t :=
  ⟨r.toCountOnly, ⟨0, r.told _ _⟩, fun _ h => h.windowsOp r.toCommitOnly (r.told (fun _ => True) 0) (windows h.windows)
    (h.commits.congr r.commits (fun x => by rw [State.axis_congr r.axes]) fun p => (r.told (fun _ => True) 0).isOpen p)⟩

theorem State.evaluateAxis_keeps (x : AxisId) : s.Keeps (s.evaluateAxis x) :=
  .of_camOnly (s.evaluateAxis_reach x) fun h => h.evaluateAxis x

/-- An arrival that leaves the copies of halt and cam level, and leaves a pulse under overlay HIGH. -/
theorem State.arrive_keeps (o : OutputId) (f : Channel → Channel) (halt : (f (s.channel o)).halt = (s.channel o).halt)
    (cam : (f (s.channel o)).cam = (s.channel o).cam)
    (pulse : ((s.channel o).pulse.isSome = true → (s.channel o).overlay = .high) →
      (f (s.channel o)).pulse.isSome = true → (f (s.channel o)).overlay = .high) : s.Keeps (s.arrive o f) :=
  .of_camOnly (s.arrive_reach o f).toCamOnly fun h => h.arrive o f halt cam (pulse (h.channels o).pulse_high)

theorem State.applyCommit_told {K : NoticeKind → Prop} (p : PortId) (x : AxisId) (timing : CommitTiming)
    (done : ∀ n i, K (.commitDone x timing n i)) : State.Told K 1 s (s.applyCommit p x timing) := by
  rw [State.applyCommit_eq]
  refine State.Told.trans (m := 0) ?_ (State.post_told _ p (done _ _))
  have r := (CamOnly.trans ⟨rfl⟩ (State.evaluateSlots_reach (s.commitSlots p x) x fun w =>
      decide (w.status = .live) && s.holds p (.output w.output)) : CamOnly s _).trans
    (State.recomposeAll_reach _ ((s.slots.toList.filter (s.ownWindow p x)).map Slot.output)).toCamOnly
  exact r.told K 0

theorem State.applyCommit_keeps (p : PortId) (x : AxisId) (timing : CommitTiming) : s.Keeps (s.applyCommit p x timing) := by
  have r := s.applyCommit_reach p x timing
  have told := s.applyCommit_told (K := fun _ => True) p x timing fun _ _ => trivial
  have commits : (s.applyCommit p x timing).commits = s.commits := by
    rw [State.applyCommit_eq, (State.post_reach _ _ _).commits, (State.recomposeAll_reach _ _).commits]
    rfl
  exact ⟨r.toCountOnly, ⟨1, told⟩, fun _ h => h.windowsOp r told (h.windows.applyCommit p x timing)
    (h.commits.congr commits (fun y => by rw [State.axis_congr r.axes]) told.isOpen)⟩

theorem State.setCommit_hasCommit (p q : PortId) (x y : AxisId) (b : Bool) :
    (s.setCommit p x b).hasCommit q y = if q = p ∧ y = x then b else s.hasCommit q y := by
  unfold State.setCommit State.hasCommit
  cases p <;> cases q <;> cases x <;> cases y <;> rfl

theorem State.setCommit_keeps (p : PortId) (x : AxisId) (b : Bool)
    (may : b = true → (s.axis x).mode = .rotary ∧ (s.session p).isOpen = true) : s.Keeps (s.setCommit p x b) := by
  refine ⟨⟨rfl⟩, ⟨0, .of_ports _ _ rfl rfl⟩, fun _ h => h.windowsOp (K := fun _ => True) (n := 0) ⟨rfl⟩ (.of_ports _ _ rfl rfl)
    (h.windows.setCommit p x b) fun q y k => ?_⟩
  rw [State.setCommit_hasCommit] at k
  split at k
  · rename_i e; rw [e.1, e.2]; exact may k
  · exact h.commits q y k

/-- The commit of a session at a rollover, where it has one pending (R32). -/
def State.applyPendingOf (s : State) (x : AxisId) (p : PortId) : State :=
  if s.hasCommit p x then (s.applyCommit p x .atRollover).setCommit p x false else s

theorem State.applyPending_eq (x : AxisId) :
    s.applyPending x = ((s.applyPendingOf x .p1).applyPendingOf x .p2).applyPendingOf x .p3 := rfl

theorem State.applyPendingOf_keeps (x : AxisId) (p : PortId) : s.Keeps (s.applyPendingOf x p) := by
  unfold State.applyPendingOf
  split
  · exact (s.applyCommit_keeps p x _).trans (State.setCommit_keeps _ p x false nofun)
  · exact .refl s

theorem State.applyPending_keeps (x : AxisId) : s.Keeps (s.applyPending x) := by
  rw [State.applyPending_eq]
  exact ((s.applyPendingOf_keeps x .p1).trans (State.applyPendingOf_keeps _ x .p2)).trans (State.applyPendingOf_keeps _ x .p3)

theorem State.camEvent_keeps (x : AxisId) (rollover : Bool) : s.Keeps (s.camEvent x rollover) := by
  unfold State.camEvent
  refine State.Keeps.trans ?_ (State.evaluateAxis_keeps _ x)
  split
  · exact s.applyPending_keeps x
  · exact .refl s

/-! ### Firing -/

theorem State.outAction_keeps (p : PortId) (o : OutputId) (f : Channel → Channel) (halt : ∀ c, (f c).halt = c.halt)
    (cam : ∀ c, (f c).cam = c.cam) (pulse : ∀ c, (f c).pulse.isSome = true → (f c).overlay = .high) :
    s.Keeps (s.outAction p o f).1 := by
  unfold State.outAction
  split
  · exact s.arrive_keeps o f (halt _) (cam _) fun _ => pulse _
  · exact .refl s

theorem State.fireAction_keeps (x : AxisId) (e : CompareEntry) : s.Keeps (s.fireAction x e).1 := by
  unfold State.fireAction
  split
  · exact .refl s
  · exact s.outAction_keeps _ _ _ (fun _ => rfl) (fun _ => rfl) nofun
  · exact s.outAction_keeps _ _ _ (fun _ => rfl) (fun _ => rfl) nofun
  · exact s.outAction_keeps _ _ _ (fun _ => rfl) (fun _ => rfl) fun _ _ => rfl
  · exact s.outAction_keeps _ _ _ (fun _ => rfl) (fun _ => rfl) nofun
  · split
    · exact s.trigger_keeps _ _
    · exact .refl s
  · exact s.logCapture_keeps x _ _

theorem State.fireAction_compares (x : AxisId) (e : CompareEntry) : (s.fireAction x e).1.compares = s.compares := by
  unfold State.fireAction
  split
  · rfl
  · exact (s.outAction_reach _ _ _).compares
  · exact (s.outAction_reach _ _ _).compares
  · exact (s.outAction_reach _ _ _).compares
  · exact (s.outAction_reach _ _ _).compares
  · split
    · exact (s.trigger_reach _ _).compares
    · rfl
  · exact (s.logCapture_reach x _ _).compares

/-- A firing by its parts (R54): the action, the list, the notice. -/
theorem State.fire_eq (x : AxisId) (d : AxisDir) (e : CompareEntry) :
    s.fire x d e =
      (((s.fireAction x e).1).setCompareList x (refile e (e.settle (s.axis x)).2 (s.compareList x))).post e.owner
        (e.firedNotice x (s.axis x) d (s.fireAction x e).2 (e.settle (s.axis x)).1 (e.settle (s.axis x)).2) := by
  have list : (s.fireAction x e).1.compareList x = s.compareList x := State.compareList_congr (s.fireAction_compares x e) x
  rw [← list]
  rfl

theorem State.fire_compareList (x y : AxisId) (d : AxisDir) (e : CompareEntry) :
    (s.fire x d e).compareList y =
      if y = x then refile e (e.settle (s.axis x)).2 (s.compareList x) else s.compareList y := by
  rw [State.fire_eq, State.compareList_congr (State.post_reach _ _ _).compares]
  split
  · subst y; exact State.setCompareList_same _ _ _
  · rename_i h
    rw [State.setCompareList_other _ _ _ _ h]
    exact State.compareList_congr (s.fireAction_compares x e) y

/-- A re-armed entry keeps its id and its owner (R59). -/
theorem CompareEntry.settle_same (e : CompareEntry) (a : Axis) {k : CompareEntry} (h : (e.settle a).2 = some k) :
    k.id = e.id ∧ k.owner = e.owner := by
  unfold CompareEntry.settle at h
  split at h
  · cases h
  · split at h
    · cases h
    · split at h <;> cases h
      exact ⟨rfl, rfl⟩

/-- The firing of an entry that stands in its list. -/
theorem State.Sound.fire {s : State} {gone : Option PortId} (h : s.Sound gone) (x : AxisId) (d : AxisDir) {e : CompareEntry}
    (mem : e ∈ s.compareList x) : (s.fire x d e).Sound gone := by
  have acted := (s.fireAction_keeps x e).sound gone h
  have list := State.compareList_congr (s.fireAction_compares x e) x
  have filed := acted.pool.refile (list ▸ mem) (e.settle (s.axis x)).2 fun k hk => e.settle_same _ hk
  rw [list] at filed
  rw [State.fire_eq]
  exact (State.post_keeps _ _ _).sound gone (acted.poolOp filed)

theorem State.fire_told (x : AxisId) (d : AxisDir) (e : CompareEntry) :
    ∃ n, State.Told (fun _ => True) n s (s.fire x d e) := by
  obtain ⟨n, h⟩ := (s.fireAction_keeps x e).told
  rw [State.fire_eq]
  exact ⟨_, (h.trans (State.setCompareList_told _ _ 0 x _)).trans (State.post_told _ _ trivial)⟩

theorem mem_refile_of_ne {e f : CompareEntry} (again : Option CompareEntry) {l : List CompareEntry} (h : f ∈ l)
    (d : f.id ≠ e.id) : f ∈ refile e again l := by
  have stays := mem_removeId.mpr ⟨h, d⟩
  cases again with
  | none => exact stays
  | some k => exact (insertEntry_perm k _).symm.subset (.tail _ stays)

theorem State.compareEvent_keeps (x : AxisId) (d : AxisDir) : s.Keeps (s.compareEvent x d) := by
  have due : (s.dueEntries x d).Sublist (s.compareList x) := List.filter_sublist
  refine ⟨s.compareEvent_reach x d, ?_, fun gone h => ?_⟩
  · unfold State.compareEvent
    generalize s.dueEntries x d = l at due
    clear due
    induction l generalizing s with
    | nil => exact ⟨0, .refl _ _ _⟩
    | cons e l ih =>
      obtain ⟨m, hm⟩ := s.fire_told x d e
      obtain ⟨n, hn⟩ := ih (s.fire x d e)
      exact ⟨_, hm.trans hn⟩
  · unfold State.compareEvent
    have ids := ((s.ids_differ_iff.mp h.pool.ids_differ).1 x).sublist (due.map _)
    have stand : ∀ e ∈ s.dueEntries x d, e ∈ s.compareList x := fun e he => due.subset he
    generalize s.dueEntries x d = l at ids stand
    clear due
    induction l generalizing s with
    | nil => exact h
    | cons e l ih =>
      obtain ⟨fresh, ids⟩ := List.nodup_cons.mp ids
      refine ih (s.fire x d e) (h.fire x d (stand e (.head _))) ids fun f hf => ?_
      rw [State.fire_compareList, if_pos rfl]
      refine mem_refile_of_ne _ (stand f (.tail _ hf)) fun c => fresh ?_
      rw [← c]
      exact List.mem_map_of_mem hf

/-! ### Count events -/

theorem State.followParts_keeps (x : AxisId) (d : AxisDir) : ∀ f ∈ s.followParts x d, ∀ t, State.Keeps t (f.2 t) := by
  intro f hf t
  obtain ⟨g, -, rfl⟩ := List.mem_map.1 hf
  exact t.followEvent_keeps x d g

theorem State.counted_keeps (x : AxisId) (d : AxisDir) : s.Keeps (s.modAxis x fun a => a.counted d) :=
  s.modAxis_keeps x _ (fun h => h.counted d) rfl rfl

theorem Axis.counted_advance (a : Axis) (d e : AxisDir) : (a.counted e).advance d = a.advance d := by
  cases d <;> rfl

theorem State.countEvent_keeps (x : AxisId) (d : AxisDir) : s.Keeps (s.countEvent x d) := by
  have counted := s.counted_keeps x d
  unfold State.countEvent
  dsimp only
  split
  · exact counted.trans (.takeParts _ (State.followParts_keeps _ x d) _)
  · rename_i turn position rollover _ e
    have moved : (s.modAxis x fun a => a.counted d).Keeps
        ((s.modAxis x fun a => a.counted d).modAxis x fun a => { a with turn := turn, position := position }) :=
      State.modAxis_keeps _ x _
        (fun h => h.advanced (d := d) (by rw [State.modAxis_axis_same, Axis.counted_advance]; exact e)) rfl rfl
    refine (counted.trans moved).trans (.takeParts _ ?_ _)
    intro f hf t
    rcases List.mem_cons.1 hf with rfl | hf
    · exact t.camEvent_keeps x _
    rcases List.mem_cons.1 hf with rfl | hf
    · exact t.compareEvent_keeps x d
    exact State.followParts_keeps _ x d f hf t
  · have overrun : (s.modAxis x fun a => a.counted d).Keeps
        ((s.modAxis x fun a => a.counted d).modAxis x fun a => { a with status := .overrange }) :=
      State.modAxis_keeps _ x _ (fun h => h.overrange) rfl rfl
    refine (counted.trans overrun).trans (.takeParts _ ?_ _)
    intro f hf t
    rcases List.mem_cons.1 hf with rfl | hf
    · exact t.evaluateAxis_keeps x
    rcases List.mem_cons.1 hf with rfl | hf
    · exact t.broadcast_keeps _ _
    exact State.followParts_keeps _ x d f hf t

theorem State.frame_keeps (v : List AxisDir) (taking : Bool) : s.Keeps { s with vEvents := v, vTaking := taking } :=
  ⟨⟨rfl⟩, ⟨0, .of_ports _ _ rfl rfl⟩, fun _ h => h.frame _ _ _ _ _ _⟩

theorem State.deferredStep_keeps : s.Keeps s.deferredStep := by
  unfold State.deferredStep
  split
  · exact s.takeStep_keeps .gv
  · exact .refl s

theorem State.drainSteps_keeps (n : Nat) : s.Keeps (State.drainSteps n s) := by
  induction n generalizing s with
  | zero => exact .refl s
  | succ n ih =>
    unfold State.drainSteps
    split
    · exact .refl s
    · rename_i d rest _
      have taken := (s.frame_keeps rest true).trans (State.countEvent_keeps _ .v d)
      exact ((taken.trans (State.frame_keeps _ _ false)).trans (State.deferredStep_keeps _)).trans (ih _)

theorem State.drain_keeps : s.Keeps s.drain := s.drainSteps_keeps _

end Sys2Proof.Machine
end

section
/-! SUPPORT. What the laws owe to a hand-over of the halt state, to a session end, to the clocks, and to the events of the
field lines. -/

namespace Sys2Proof.Machine

/-! ### One part among others in any order (log 5) -/

/-- The count of a free choice taken. -/
def State.choose (s : State) : State := { s with choices := s.choices + 1 }

theorem inTurn_append (k l : List (State → State)) (s : State) : inTurn (k ++ l) s = inTurn l (inTurn k s) := by
  unfold inTurn
  exact List.foldl_append

/-- Parts in any order are their functions one after another, with at most one choice among them. -/
theorem inAnyOrder_order (parts : List (State → State)) (s : State) :
    ∃ order extra, order.Perm (parts ++ extra) ∧ (∀ f ∈ extra, f = State.choose) ∧ inAnyOrder parts s = inTurn order s := by
  unfold inAnyOrder
  split
  · exact ⟨[], [], .refl _, by simp, rfl⟩
  · rename_i f
    exact ⟨[f], [], .refl _, by simp, rfl⟩
  · rename_i f g rest
    refine ⟨State.choose :: permuted (Config.freeOrder s.choices) (f :: g :: rest), [State.choose], ?_, by simp, rfl⟩
    exact (List.Perm.cons _ (permuted_perm _ _)).trans (List.perm_append_singleton _ _).symm

theorem filter_perm {α : Type} (p : α → Bool) (l : List α) : (l.filter (fun x => !p x) ++ l.filter p).Perm l := by
  induction l with
  | nil => exact .refl _
  | cons x l ih =>
    cases h : p x
    · simpa [h] using ih
    · simp only [h, List.filter_cons, Bool.not_true, Bool.false_eq_true, if_false, if_true]
      exact List.perm_middle.trans (.cons _ ih)

/-- The parts of one event are taken one after another, with at most one choice among them. -/
theorem takeParts_order (parts : List (Bool × (State → State))) (s : State) :
    ∃ order extra, order.Perm (parts.map (fun f => f.2) ++ extra) ∧ (∀ f ∈ extra, f = State.choose) ∧
      takeParts parts s = inTurn order s := by
  unfold takeParts
  obtain ⟨order, extra, perm, choose, eq⟩ := inAnyOrder_order ((parts.filter fun f => f.1).map fun f => f.2)
    (inTurn ((parts.filter fun f => !f.1).map fun f => f.2) s)
  refine ⟨(parts.filter fun f => !f.1).map (fun f => f.2) ++ order, extra, ?_, choose, ?_⟩
  · refine (List.Perm.append_left _ perm).trans ?_
    rw [← List.append_assoc, ← List.map_append]
    exact List.Perm.append_right _ ((filter_perm (fun f => f.1) parts).map _)
  · rw [eq, inTurn_append]

theorem inTurn_keeps (P : State → Prop) (l : List (State → State)) (h : ∀ f ∈ l, ∀ t, P t → P (f t)) (s : State) (start : P s) :
    P (inTurn l s) := by
  unfold inTurn
  induction l generalizing s with
  | nil => exact start
  | cons f l ih => exact ih (fun g hg => h g (.tail _ hg)) _ (h f (.head _) s start)

/-- What one part brings about, the others keeping what it finds and what it leaves, stands after them all. -/
theorem takeParts_once (P Q : State → Prop) (before after : List (Bool × (State → State))) (f : Bool × (State → State))
    (keepsP : ∀ k ∈ before ++ after, ∀ t, P t → P (k.2 t)) (keepsQ : ∀ k ∈ before ++ after, ∀ t, Q t → Q (k.2 t))
    (choseP : ∀ t, P t → P t.choose) (choseQ : ∀ t, Q t → Q t.choose) (acts : ∀ t, P t → Q (f.2 t)) {s : State} (start : P s) :
    Q (takeParts (before ++ f :: after) s) := by
  obtain ⟨order, extra, perm, choose, eq⟩ := takeParts_order (before ++ f :: after) s
  rw [List.map_append, List.map_cons, List.append_assoc, List.cons_append] at perm
  have mem : f.2 ∈ order := perm.symm.subset (by simp)
  obtain ⟨k, l, rfl⟩ := List.append_of_mem mem
  have rest : (k ++ l).Perm (before.map (fun f => f.2) ++ (after.map (fun f => f.2) ++ extra)) :=
    List.Perm.cons_inv ((List.perm_middle.symm.trans perm).trans List.perm_middle)
  have part (h : State → State) (hh : h ∈ k ++ l) : (∃ i ∈ before ++ after, h = i.2) ∨ h = State.choose := by
    have m := rest.subset hh
    simp only [List.mem_append, List.mem_map] at m
    rcases m with ⟨i, hi, rfl⟩ | ⟨i, hi, rfl⟩ | m
    · exact .inl ⟨i, List.mem_append_left _ hi, rfl⟩
    · exact .inl ⟨i, List.mem_append_right _ hi, rfl⟩
    · exact .inr (choose h m)
  rw [eq, inTurn_append]
  refine inTurn_keeps Q l (fun h hh t q => ?_) _ (acts _ (inTurn_keeps P k (fun h hh t p => ?_) s start))
  · rcases part h (List.mem_append_right _ hh) with ⟨i, hi, rfl⟩ | rfl
    · exact keepsQ i hi t q
    · exact choseQ t q
  · rcases part h (List.mem_append_left _ hh) with ⟨i, hi, rfl⟩ | rfl
    · exact keepsP i hi t p
    · exact choseP t p

/-- What every part keeps stands after them all. -/
theorem takeParts_all (P : State → Prop) (parts : List (Bool × (State → State))) (keeps : ∀ k ∈ parts, ∀ t, P t → P (k.2 t))
    (chose : ∀ t, P t → P t.choose) {s : State} (start : P s) : P (takeParts parts s) := by
  obtain ⟨order, extra, perm, choose, eq⟩ := takeParts_order parts s
  rw [eq]
  refine inTurn_keeps P order (fun h hh t p => ?_) s start
  rcases List.mem_append.mp (perm.subset hh) with m | m
  · obtain ⟨i, hi, rfl⟩ := List.mem_map.mp m
    exact keeps i hi t p
  · rw [choose h m]
    exact chose t p

/-! ### Ports changed with their sessions standing -/

section ports

variable {s t : State} {gone : Option PortId}

/-- Ports that differ, open sessions staying open. -/
theorem State.Sound.portsOp (h : s.Sound gone) (r : PortsOnly s t)
    (opens : ∀ p, (s.session p).isOpen = true → (t.session p).isOpen = true) (sessions : t.SessionsLawful)
    (notices : t.NoticesLawful) : t.Sound gone := by
  have claim := r.claim
  refine ⟨⟨h.axes.congr r.axes, h.windows.congr r.slots r.camLevels r.channels r.halt r.handing fun o c => by rw [claim]; exact c,
    ?_, ?_, ?_, fun p x k => ?_, h.pool.congr r.compares r.nextCompareId fun _ e _ o => opens e.owner o,
    ⟨fun q => claim q ▸ h.claims.each q, fun q p k => ?_, fun q p k => ?_⟩, sessions, notices⟩, fun g => ?_⟩
  · unfold State.HaltLawful; rw [r.halt, r.lines]; exact h.halt
  · rw [r.handing]; exact h.once
  · rw [r.handing, r.halt]; exact h.not_latched
  · obtain ⟨mode, o⟩ := h.commits p x (by rw [State.hasCommit_congr r.commits] at k; exact k)
    exact ⟨by rw [State.axis_congr r.axes]; exact mode, opens p o⟩
  · rw [claim] at k
    exact (h.claims.owners_open q p k).imp (opens p) id
  · rw [claim] at k
    exact opens p (h.claims.waiters_open q p k)
  · rw [State.inForceAt_congr r.halt r.handing]
    exact (h.gens g).congr (r.gen g) (claim _)

/-- One port that differs, its session standing. -/
theorem State.Sound.modPort (h : s.Sound gone) (p : PortId) (f : Port → Port) (session : (f (s.port p)).session = (s.port p).session)
    (notices : (f (s.port p)).notices.Lawful) : (s.modPort p f).Sound gone := by
  have same (q : PortId) : (s.modPort p f).session q = s.session q := by
    unfold State.session
    rw [State.modPort_port]
    split
    · rename_i e; subst q; exact session
    · rfl
  refine h.portsOp (s.modPort_reach p f) (fun q o => by rw [same]; exact o) (h.sessions.congr same) fun q => ?_
  rw [State.modPort_port]
  split
  · exact notices
  · exact h.notices q

theorem Session.closed_lawful : Session.closed.Lawful := ⟨fun _ => rfl, nofun, nofun, nofun, nofun⟩

/-- One session that differs, still open where it was, with its station. -/
theorem State.SessionsLawful.modSession (h : s.SessionsLawful) (p : PortId) (f : Session → Session)
    (lawful : (f (s.session p)).Lawful) (opens : (f (s.session p)).isOpen = (s.session p).isOpen)
    (station : (f (s.session p)).station = (s.session p).station) : (s.modSession p f).SessionsLawful := by
  have at_q (q : PortId) : (s.modSession p f).session q = if q = p then f (s.session p) else s.session q := by
    unfold State.modSession State.session
    rw [State.modPort_port]
    split <;> rfl
  have isOpen (q : PortId) : ((s.modSession p f).session q).isOpen = (s.session q).isOpen := by
    rw [at_q]; split
    · rename_i e; subst q; exact opens
    · rfl
  have stations (q : PortId) : ((s.modSession p f).session q).station = (s.session q).station := by
    rw [at_q]; split
    · rename_i e; subst q; exact station
    · rfl
  refine ⟨fun q => ?_, fun q r => ?_⟩
  · rw [at_q]
    split
    · exact lawful
    · exact h.each q
  · rw [isOpen, isOpen, stations, stations]
    exact h.stations_differ q r

theorem State.Sound.modSession (h : s.Sound gone) (p : PortId) (f : Session → Session)
    (lawful : (f (s.session p)).Lawful) (opens : (f (s.session p)).isOpen = (s.session p).isOpen)
    (station : (f (s.session p)).station = (s.session p).station) : (s.modSession p f).Sound gone := by
  refine h.portsOp (s.modSession_reach p f) (fun q o => ?_) (h.sessions.modSession p f lawful opens station) fun q => ?_
  · unfold State.modSession State.session at *
    rw [State.modPort_port]
    split
    · rename_i e; subst q; exact opens.trans o
    · exact o
  · unfold State.modSession
    rw [State.modPort_port]
    split
    · exact h.notices p
    · exact h.notices q

theorem Session.Lawful.restartLease {x : Session} (h : x.Lawful) : x.restartLease.Lawful := by
  unfold Session.restartLease
  split <;> rename_i c
  · rw [Bool.and_eq_true, Bool.not_eq_true'] at c
    exact
      { none_values := fun o => by dsimp only at o; rw [c.1] at o; cases o
        station_range := h.station_range, lease_range := h.lease_range
        timer_stopped := fun _ => ⟨nofun, fun k => by dsimp only at k; rw [c.2] at k; cases k⟩
        timer_range := fun n hn => by cases hn; exact le_refl _ }
  · exact h

theorem State.Sound.restartLease (h : s.Sound gone) (p : PortId) : (s.modSession p Session.restartLease).Sound gone :=
  h.modSession p _ (h.sessions.each p).restartLease (Session.restartLease_isOpen _) (Session.restartLease_station _)

/-- A response handed to the transmitter, or put into the cache. -/
theorem State.Sound.respond (h : s.Sound gone) (p : PortId) (r : Response) : (s.respond p r).Sound gone := by
  refine h.modPort p _ ?_ ?_ <;> split
  · rfl
  · rfl
  · exact h.notices p
  · exact h.notices p

theorem State.Sound.remember (h : s.Sound gone) (p : PortId) (seq : Byte) (body : List Byte) (closes : Bool) :
    (s.remember p seq body closes).Sound gone := by
  unfold State.remember
  split
  · exact h
  · exact h.modPort p _ rfl (h.notices p)

theorem State.Sound.offer (h : s.Sound gone) (p : PortId) : (s.offer p).Sound gone :=
  h.modPort p _ (by rw [Port.offer_keeps]) (Port.offer_notices_lawful _ _ (h.notices p))

theorem State.Sound.startNext (h : s.Sound gone) (p : PortId) : (s.startNext p).Sound gone := by
  unfold State.startNext
  split
  · exact h.modPort p _ rfl (h.notices p)
  · exact h.offer p

/-- A change of the field lines but for HALT. -/
theorem State.Sound.lines (h : s.Sound gone) (l : InputLines) (halt : l.haltAsserted = s.lines.haltAsserted) :
    ({ s with lines := l } : State).Sound gone := by
  refine ⟨⟨h.axes.congr rfl, h.windows.congr rfl rfl rfl rfl rfl fun _ c => c, ?_, h.once, h.not_latched,
    h.commits.congr rfl (fun _ => rfl) fun _ => rfl, h.pool.congr rfl rfl fun _ _ _ o => o,
    h.claims.handed (fun _ => .inl rfl) fun _ => rfl, h.sessions.congr fun _ => rfl, h.notices⟩, fun g => (h.gens g).congr rfl rfl⟩
  unfold State.HaltLawful
  rw [halt]
  exact h.halt

end ports

/-! ### Changes of the halt state (R126, R127) -/

section halt

variable {s t : State} {gone : Option PortId}

theorem State.inForce_ne (c : HaltState) : c.inForce = decide (c ≠ .clear) := by cases c <;> rfl

/-- A part of a halt change at its generator. -/
theorem State.haltPart_only (s : State) (g : GenId) (inForce : Bool) :
    ∃ n, GenOnly g n s (if inForce then s.haltEntry g else s.haltClear g) := by
  cases inForce
  · exact ⟨1, s.haltClear_only g⟩
  · exact s.haltEntry_only g

theorem State.haltPart_fits (s : State) (g : GenId) {b inForce : Bool} (h : s.GenFits b g) :
    (if inForce then s.haltEntry g else s.haltClear g).GenFits inForce g := by
  cases inForce
  · exact h.haltClear
  · exact h.haltEntry

/-- The parts of a halt change at its generators, with other parts that leave the generators: a generator among the receivers
takes the change, any other stands. -/
theorem takeParts_halt (pre : List (Bool × (State → State))) (quiet : ∀ f ∈ pre, ∀ t, PortsOnly t (f.2 t))
    (u : State) (receivers : List HaltReceiver) (inForce : Bool) (calm : s.Calm gone)
    (fits : ∀ g, s.GenFits (if .generator g ∈ receivers then !inForce else s.inForceAt (.generator g)) g)
    (force : ∀ g, .generator g ∈ receivers → s.inForceAt (.generator g) = inForce)
    (calmPre : ∀ f ∈ pre, ∀ t, t.Calm gone → (f.2 t).Calm gone) :
    (takeParts (pre ++ u.haltParts receivers inForce) s).Sound gone := by
  have halting (f : Bool × (State → State)) (hf : f ∈ u.haltParts receivers inForce) :
      ∃ g, ∀ t, f.2 t = if inForce then t.haltEntry g else t.haltClear g := by
    obtain ⟨g, -, rfl⟩ := List.mem_map.mp hf
    exact ⟨g, fun _ => rfl⟩
  have calmAll : (takeParts (pre ++ u.haltParts receivers inForce) s).Calm gone := by
    refine takeParts_all (fun t => t.Calm gone) _ (fun f hf t c => ?_) (fun t c => ?_) calm
    · rcases List.mem_append.mp hf with hf | hf
      · exact calmPre f hf t c
      · obtain ⟨g, eq⟩ := halting f hf
        obtain ⟨n, only⟩ := t.haltPart_only g inForce
        rw [eq]
        exact c.genOp only
    · exact c.told (K := fun _ => True) (n := 0) (.of_ports _ _ rfl rfl) rfl rfl rfl (c.axes.congr rfl)
        (c.windows.congr rfl rfl rfl rfl rfl fun _ k => k) (c.commits.congr rfl (fun _ => rfl) fun _ => rfl)
        (c.pool.congr rfl rfl fun _ _ _ o => o) fun _ => .inl rfl
  have same : (takeParts (pre ++ u.haltParts receivers inForce) s).halt = s.halt ∧
      (takeParts (pre ++ u.haltParts receivers inForce) s).handing = s.handing := by
    refine takeParts_all (fun t => t.halt = s.halt ∧ t.handing = s.handing) _ (fun f hf t c => ?_) (fun t c => c) ⟨rfl, rfl⟩
    rcases List.mem_append.mp hf with hf | hf
    · have r := quiet f hf t
      rw [r.halt, r.handing]
      exact c
    · obtain ⟨g, eq⟩ := halting f hf
      obtain ⟨n, only⟩ := t.haltPart_only g inForce
      rw [eq, only.move.halt, only.move.handing]
      exact c
  refine ⟨calmAll, fun g => ?_⟩
  rw [State.inForceAt_congr same.1 same.2]
  have others (b : Bool) (f : Bool × (State → State)) (hf : f ∈ pre ∨ ∃ i, i ≠ g ∧ ∀ t, f.2 t = if inForce then t.haltEntry i else t.haltClear i)
      (t : State) (c : t.GenFits b g) : (f.2 t).GenFits b g := by
    rcases hf with hf | ⟨i, ne, eq⟩
    · have r := quiet f hf t
      exact c.congr (r.gen g) (r.claim _)
    · obtain ⟨n, only⟩ := t.haltPart_only i inForce
      rw [eq]
      exact only.fits_other (Ne.symm ne) c
  have chosen (b : Bool) (t : State) (c : t.GenFits b g) : t.choose.GenFits b g := c.congr rfl rfl
  by_cases mem : HaltReceiver.generator g ∈ receivers
  · rw [force g mem]
    have listed : g ∈ allGens.filter fun g => decide (HaltReceiver.generator g ∈ receivers) :=
      List.mem_filter.mpr ⟨mem_allGens g, decide_eq_true mem⟩
    obtain ⟨before, after, split⟩ := List.append_of_mem listed
    have nodup : (before ++ g :: after).Nodup := split ▸ List.Nodup.filter _ (by decide : allGens.Nodup)
    have ne (i : GenId) (hi : i ∈ before ++ after) : i ≠ g := by
      rintro rfl
      exact (List.nodup_middle.mp nodup).notMem hi
    have start := fits g
    rw [if_pos mem] at start
    unfold State.haltParts
    rw [split, List.map_append, List.map_cons, ← List.append_assoc]
    have part (f : Bool × (State → State))
        (hf : f ∈ (pre ++ before.map fun g => (u.haltVisible g, fun t : State => if inForce then t.haltEntry g else t.haltClear g)) ++
          after.map fun g => (u.haltVisible g, fun t : State => if inForce then t.haltEntry g else t.haltClear g)) :
        f ∈ pre ∨ ∃ i, i ≠ g ∧ ∀ t, f.2 t = if inForce then t.haltEntry i else t.haltClear i := by
      rw [List.append_assoc, ← List.map_append] at hf
      rcases List.mem_append.mp hf with hf | hf
      · exact .inl hf
      · obtain ⟨i, hi, rfl⟩ := List.mem_map.mp hf
        exact .inr ⟨i, ne i hi, fun _ => rfl⟩
    exact takeParts_once (fun t => t.GenFits (!inForce) g) (fun t => t.GenFits inForce g) _ _ _
      (fun f hf t c => others _ f (part f hf) t c) (fun f hf t c => others _ f (part f hf) t c) (chosen _) (chosen _)
      (fun t c => t.haltPart_fits g c) start
  · have start := fits g
    rw [if_neg mem] at start
    refine takeParts_all (fun t => t.GenFits (s.inForceAt (.generator g)) g) _ (fun f hf t c => others _ f ?_ t c) (chosen _) start
    rcases List.mem_append.mp hf with hf | hf
    · exact .inl hf
    · obtain ⟨i, hi, rfl⟩ := List.mem_map.mp hf
      refine .inr ⟨i, fun e => mem ?_, fun _ => rfl⟩
      rw [← e]
      exact of_decide_eq_true (List.mem_filter.mp hi).2

/-- The channels among the receivers of a halt change, once each stands with the halt in force there (R71). -/
theorem State.channelsTakeHalt_lawful (h : s.WindowsLawful) (receivers : List HaltReceiver) (inForce : Bool)
    (halt : HaltState) (handing : List HaltReceiver)
    (force : ∀ o, ({ s with halt := halt, handing := handing } : State).inForceAt (.output o) =
      if .output o ∈ receivers then inForce else s.inForceAt (.output o)) :
    (State.channelsTakeHalt { s with halt := halt, handing := handing } receivers inForce).WindowsLawful := by
  refine ⟨fun o => ?_, fun o => ?_, h.slots.congr rfl fun _ k => k⟩
  · rw [State.channelsTakeHalt_channel]
    have f : (State.channelsTakeHalt { s with halt := halt, handing := handing } receivers inForce).inForceAt (.output o) =
        if .output o ∈ receivers then inForce else s.inForceAt (.output o) := force o
    rw [f]
    have c := h.channels o
    split
    · exact ⟨rfl, rfl, c.pulse_high⟩
    · exact c
  · rw [State.channelsTakeHalt_channel]
    refine ⟨(h.cam o).1, ?_⟩
    split
    · exact (h.cam o).2
    · exact (h.cam o).2

end halt

end Sys2Proof.Machine
end

section
/-! SUPPORT. The laws under the halt monitor's operations (chapter 7). -/

namespace Sys2Proof.Machine

variable {s t : State} {gone : Option PortId}

/-- Channels, halt state and hand-over that differ, with the HALT line. -/
theorem State.Calm.halting (h : s.Calm gone)
    (eq : t = { s with
      channels := t.channels, halt := t.halt, handing := t.handing, choices := t.choices, lines := t.lines })
    (windows : t.WindowsLawful) (halt : t.HaltLawful) (once : t.handing.Nodup) (not_latched : t.handing ≠ [] → t.halt ≠ .latched) :
    t.Calm gone := by
  have axes : t.axes = s.axes := by rw [eq]
  have commits : t.commits = s.commits := by rw [eq]
  have ports : t.ports = s.ports := by rw [eq]
  have claims : t.claims = s.claims := by rw [eq]
  have session (p : PortId) : t.session p = s.session p := by unfold State.session; rw [State.port_congr ports]
  refine ⟨h.axes.congr axes, windows, halt, once, not_latched,
    h.commits.congr commits (fun x => by rw [State.axis_congr axes]) fun p => by rw [session],
    h.pool.congr (by rw [eq]) (by rw [eq]) fun _ e _ o => by rw [session]; exact o,
    h.claims.handed (fun r => .inl (State.claim_congr claims r)) fun p => by rw [session], h.sessions.congr session, fun p => ?_⟩
  rw [State.port_congr ports]
  exact h.notices p

theorem State.WindowsLawful.chooseFree (h : s.WindowsLawful) (n : Nat) : ({ s with choices := n } : State).WindowsLawful :=
  h.congr rfl rfl rfl rfl rfl fun _ k => k

/-! ### A hand-over that goes on -/

/-- The receivers that take a change as its hand-over goes on: all but the late ones. -/
def State.firstOf (s : State) (late : List HaltReceiver) : List HaltReceiver := s.handing.filter fun r => decide (r ∉ late)

/-- The receivers that have still to take it after that. -/
def State.laterOf (s : State) (late : List HaltReceiver) : List HaltReceiver := s.handing.filter fun r => decide (r ∈ late)

theorem State.mem_firstOf (s : State) (late : List HaltReceiver) (r : HaltReceiver) :
    r ∈ s.firstOf late ↔ r ∈ s.handing ∧ r ∉ late := by
  simp [State.firstOf]

theorem State.mem_laterOf (s : State) (late : List HaltReceiver) (r : HaltReceiver) :
    r ∈ s.laterOf late ↔ r ∈ s.handing ∧ r ∈ late := by
  simp [State.laterOf]

/-- The state of a hand-over that goes on, the channels having taken the change. -/
def State.handOnChannels (s : State) (late : List HaltReceiver) : State :=
  State.channelsTakeHalt { s with handing := s.laterOf late } (s.firstOf late) s.halt.inForce

theorem State.handOnChannels_inForceAt (s : State) (late : List HaltReceiver) (r : HaltReceiver) :
    (s.handOnChannels late).inForceAt r = if r ∈ s.firstOf late then s.halt.inForce else s.inForceAt r := by
  have here : (s.handOnChannels late).inForceAt r =
      if r ∈ s.laterOf late then decide (s.halt = .clear) else decide (s.halt ≠ .clear) := rfl
  rw [here, State.inForce_ne]
  unfold State.inForceAt
  simp only [State.mem_firstOf, State.mem_laterOf]
  by_cases a : r ∈ s.handing <;> by_cases b : r ∈ late <;> simp [a, b]

/-- The state of a hand-over that goes on, every receiver but the late ones having taken the change. -/
def State.handOnTaken (s : State) (late : List HaltReceiver) : State :=
  takeParts ((s.handOnChannels late).haltParts (s.firstOf late) s.halt.inForce) (s.handOnChannels late)

theorem State.handOn_eq (s : State) (late : List HaltReceiver) :
    s.handOn late = if (s.handOnTaken late).handing = [] then (s.handOnTaken late).answerClear else s.handOnTaken late := rfl

theorem State.handOnChannels_calm (h : s.Calm gone) (late : List HaltReceiver) : (s.handOnChannels late).Calm gone := by
  refine h.halting rfl ?_ h.halt (h.once.filter _) fun k => h.not_latched fun e => k ?_
  · exact State.channelsTakeHalt_lawful h.windows (s.firstOf late) s.halt.inForce s.halt (s.laterOf late) fun o =>
      s.handOnChannels_inForceAt late (.output o)
  · change s.laterOf late = []
    unfold State.laterOf
    rw [e]
    rfl

/-- A receiver that has still to take a change holds halt in force the other way (R127). -/
theorem State.inForceAt_of_handing {r : HaltReceiver} (h : r ∈ s.handing) : s.inForceAt r = !s.halt.inForce := by
  unfold State.inForceAt
  rw [if_pos h]
  cases s.halt <;> rfl

theorem State.Sound.handOnTaken (h : s.Sound gone) (late : List HaltReceiver) : (s.handOnTaken late).Sound gone := by
  refine takeParts_halt [] (by simp) _ _ _ (State.handOnChannels_calm h.toCalm late) (fun g => ?_) (fun g m => ?_) (by simp)
  · have start : (s.handOnChannels late).GenFits (s.inForceAt (.generator g)) g := (h.gens g).congr rfl rfl
    split <;> rename_i m
    · rw [← State.inForceAt_of_handing ((s.mem_firstOf late _).mp m).1]
      exact start
    · rw [State.handOnChannels_inForceAt, if_neg m]
      exact start
  · rw [State.handOnChannels_inForceAt, if_pos m]

theorem State.Sound.answerClear (h : s.Sound gone) : s.answerClear.Sound gone := by
  have cleared : ({ s with clearing := none } : State).Sound gone := h.frame _ _ _ _ _ _
  unfold State.answerClear
  split
  · exact h
  · split
    · exact cleared
    · exact cleared.respond _ _

theorem State.Sound.handOn (h : s.Sound gone) (late : List HaltReceiver) : (s.handOn late).Sound gone := by
  rw [State.handOn_eq]
  split
  · exact (h.handOnTaken late).answerClear
  · exact h.handOnTaken late

theorem State.Sound.completeHandOver (h : s.Sound gone) : s.completeHandOver.Sound gone := by
  unfold State.completeHandOver
  split
  · exact h
  · exact h.handOn _

theorem State.Sound.continueHandOver (h : s.Sound gone) : s.continueHandOver.Sound gone := by
  unfold State.continueHandOver
  split
  · exact h
  · exact State.Sound.handOn (h.frame _ _ _ _ _ _) _

/-- What the parts of a hand-over leave as it is: the halt state, who has still to take the change, and the Clear Halt that
waits. -/
theorem State.haltParts_stand (u : State) (receivers : List HaltReceiver) (inForce : Bool) (s : State) :
    MoveOnly s { takeParts (u.haltParts receivers inForce) s with choices := s.choices } := by
  refine takeParts_all (fun t => MoveOnly s { t with choices := s.choices }) _ (fun f hf t c => ?_) (fun t c => c) (.refl s)
  obtain ⟨g, -, rfl⟩ := List.mem_map.mp hf
  obtain ⟨n, only⟩ := t.haltPart_only g inForce
  refine c.trans ⟨?_⟩
  have eq := only.move.eq
  dsimp only at eq ⊢
  rw [eq]

theorem State.handOnTaken_handing (s : State) (late : List HaltReceiver) : (s.handOnTaken late).handing = s.laterOf late :=
  (State.haltParts_stand (s.handOnChannels late) (s.firstOf late) s.halt.inForce (s.handOnChannels late)).handing

theorem State.handOnTaken_halt (s : State) (late : List HaltReceiver) : (s.handOnTaken late).halt = s.halt :=
  (State.haltParts_stand (s.handOnChannels late) (s.firstOf late) s.halt.inForce (s.handOnChannels late)).halt

theorem State.handOnTaken_clearing (s : State) (late : List HaltReceiver) : (s.handOnTaken late).clearing = s.clearing :=
  (State.haltParts_stand (s.handOnChannels late) (s.firstOf late) s.halt.inForce (s.handOnChannels late)).clearing

theorem State.answerClear_handing (s : State) : s.answerClear.handing = s.handing := by
  unfold State.answerClear
  split
  · rfl
  · split <;> rfl

theorem State.answerClear_clearing (s : State) : s.answerClear.clearing = none := by
  unfold State.answerClear
  split <;> rename_i c
  · exact c
  · split <;> rfl

/-- What waits for a hand-over's end no longer waits as it goes on to its end (R129). -/
theorem State.handOn_handing (s : State) (late : List HaltReceiver) : (s.handOn late).handing = s.laterOf late := by
  rw [State.handOn_eq]
  split
  · rw [State.answerClear_handing, State.handOnTaken_handing]
  · exact s.handOnTaken_handing late

theorem State.laterOf_nil (s : State) : s.laterOf [] = [] := by simp [State.laterOf]

@[simp] theorem State.completeHandOver_handing (s : State) : s.completeHandOver.handing = [] := by
  unfold State.completeHandOver
  split <;> rename_i e
  · exact e
  · rw [State.handOn_handing, State.laterOf_nil]

@[simp] theorem State.completeHandOver_halt (s : State) : s.completeHandOver.halt = s.halt := by
  have e := congrArg State.halt s.completeHandOver_reach.eq
  exact e

@[simp] theorem State.completeHandOver_lines (s : State) : s.completeHandOver.lines = s.lines := by
  have e := congrArg State.lines s.completeHandOver_reach.eq
  exact e

/-! ### A change of the halt state -/

theorem State.inForceAt_nil (h : s.handing = []) (r : HaltReceiver) : s.inForceAt r = s.halt.inForce := by
  unfold State.inForceAt
  rw [h, State.inForce_ne]
  simp

/-- The receivers of a change that take it with the change: all but the late ones. -/
def firstReceivers (mask : Nat) : List HaltReceiver := allReceivers.filter fun r => decide (r ∉ lateReceivers mask)

theorem mem_firstReceivers (mask : Nat) (r : HaltReceiver) : r ∈ firstReceivers mask ↔ r ∉ lateReceivers mask := by
  simp [firstReceivers]

/-- The state of a change of halt in force, the channels among its first receivers having taken it. -/
def State.changeChannels (s : State) (new : HaltState) : State :=
  State.channelsTakeHalt
    { s with halt := new, handing := lateReceivers (Config.freeOrder s.choices), choices := s.choices + 1 }
    (firstReceivers (Config.freeOrder s.choices)) new.inForce

/-- A change of the halt state by its two ways (R126, R127). -/
theorem State.haltChange_eq (s : State) (new : HaltState) (cause : HaltCause) (station : Nat) :
    s.haltChange new cause station =
      if s.halt.inForce = new.inForce then
        State.broadcast { s with halt := new } (fun w => w.haltChanged) (.haltChanged new s.halt cause station)
      else
        takeParts
          ((true, fun u => u.broadcast (fun w => w.haltChanged) (.haltChanged new s.halt cause station)) ::
            (s.changeChannels new).haltParts (firstReceivers (Config.freeOrder s.choices)) new.inForce)
          (s.changeChannels new) := rfl

theorem State.changeChannels_inForceAt (s : State) (new : HaltState) (r : HaltReceiver) :
    (s.changeChannels new).inForceAt r =
      if r ∈ firstReceivers (Config.freeOrder s.choices) then new.inForce else !new.inForce := by
  have here : (s.changeChannels new).inForceAt r =
      if r ∈ lateReceivers (Config.freeOrder s.choices) then decide (new = .clear) else decide (new ≠ .clear) := rfl
  rw [here, State.inForce_ne]
  simp only [mem_firstReceivers]
  by_cases m : r ∈ lateReceivers (Config.freeOrder s.choices) <;> simp [m]

/-- A change of the halt state with the HALT line, every receiver having taken the one before (R126, R127). -/
theorem State.Sound.haltChange (h : s.Sound gone) (empty : s.handing = []) (l : InputLines) (new : HaltState) (cause : HaltCause)
    (station : Nat) (law : new = .active ↔ l.haltAsserted = true) (latched : new = .latched → s.halt = .active) :
    (State.haltChange { s with lines := l } new cause station).Sound gone := by
  have force := State.inForceAt_nil empty
  rw [State.haltChange_eq]
  split <;> rename_i same
  · have same' : s.halt.inForce = new.inForce := same
    have changed : ({ s with lines := l, halt := new } : State).Sound gone := by
      have keep (r : HaltReceiver) : ({ s with lines := l, halt := new } : State).inForceAt r = s.inForceAt r := by
        rw [force, same']
        exact State.inForceAt_nil (s := { s with lines := l, halt := new }) empty r
      refine ⟨h.toCalm.halting rfl ⟨fun o => ?_, h.windows.cam.congr rfl rfl rfl, h.windows.slots.congr rfl fun _ k => k⟩ law
        h.once fun k => absurd empty k, fun g => ?_⟩
      · rw [keep]; exact h.windows.channels o
      · rw [keep]; exact (h.gens g).congr rfl rfl
    exact (State.broadcast_keeps _ _ _).sound gone changed
  · have differ : s.halt.inForce = !new.inForce := by
      have ne : s.halt.inForce ≠ new.inForce := same
      revert ne
      cases s.halt.inForce <;> cases new.inForce <;> simp
    have at_r (r : HaltReceiver) := State.changeChannels_inForceAt { s with lines := l } new r
    have posted (k : NoticeKind) (wants : Subscriptions → Bool) (t : State) : PortsOnly t (t.broadcast wants k) :=
      t.broadcast_reach wants k
    refine takeParts_halt [(true, _)] (fun f hf t => ?_) _ _ _ ?_ (fun g => ?_) (fun g m => ?_) fun f hf t c => ?_
    · rw [List.mem_singleton.mp hf]
      exact posted _ _ t
    · refine h.toCalm.halting rfl ?_ law (lateReceivers_nodup _) fun _ e => ?_
      · refine (State.channelsTakeHalt_lawful (s := { s with lines := l, choices := s.choices + 1 })
          (h.windows.congr rfl rfl rfl rfl rfl fun _ k => k) (firstReceivers (Config.freeOrder s.choices)) new.inForce new
          (lateReceivers (Config.freeOrder s.choices)) fun o => ?_)
        refine (at_r (.output o)).trans ?_
        split
        · rfl
        · rw [← differ, ← force (.output o)]; rfl
      · have e' : new = .latched := e
        rw [latched e', e'] at differ
        cases differ
    · have start : (State.changeChannels { s with lines := l } new).GenFits (!new.inForce) g := by
        rw [← differ, ← force (.generator g)]
        exact (h.gens g).congr rfl rfl
      split <;> rename_i m
      · exact start
      · rw [at_r, if_neg m]; exact start
    · rw [at_r, if_pos m]
    · rw [List.mem_singleton.mp hf]
      have r := posted (.haltChanged new s.halt cause station) (fun w => w.haltChanged) t
      exact c.told (K := fun _ => True) (State.broadcast_told t _ trivial) r.lines r.halt r.handing (c.axes.congr r.axes)
        (c.windows.congr r.slots r.camLevels r.channels r.halt r.handing fun o k => by rw [r.claim]; exact k)
        (c.commits.congr r.commits (fun x => by rw [State.axis_congr r.axes])
          fun p => by rw [State.broadcast_session])
        (c.pool.congr r.compares r.nextCompareId fun _ e _ o => by rw [State.broadcast_session]; exact o)
        fun q => .inl (r.claim q)

theorem State.Sound.haltAsserted (h : s.Sound gone) : s.haltAsserted.Sound gone := by
  unfold State.haltAsserted
  split
  · exact h.completeHandOver.haltChange s.completeHandOver_handing _ _ _ _ (by simp) nofun
  · exact h.completeHandOver.haltChange s.completeHandOver_handing _ _ _ _ (by simp) nofun
  · exact h

theorem State.Sound.haltReleased (h : s.Sound gone) : s.haltReleased.Sound gone := by
  unfold State.haltReleased
  split <;> rename_i active
  · exact h.completeHandOver.haltChange s.completeHandOver_handing _ _ _ _ (by simp) fun _ => by simp [active]
  · exact h
  · exact h

theorem clearHaltRequest_sound (h : s.Sound gone) (p : PortId) : (clearHaltRequest p s).1.Sound gone := by
  have done := h.completeHandOver
  unfold clearHaltRequest
  dsimp only
  split <;> rename_i halt
  · exact done
  · refine done.haltChange s.completeHandOver_handing s.completeHandOver.lines _ _ _ ?_ nofun
    have law := done.halt
    unfold State.HaltLawful at law
    rw [halt] at law
    exact ⟨nofun, fun k => absurd (law.mpr k) nofun⟩
  · exact done

end Sys2Proof.Machine
end

section
/-! SUPPORT. The laws under a session end (chapter 9), the clocks, and the events of the field lines. -/

namespace Sys2Proof.Machine

variable {s t : State} {gone : Option PortId}

/-! ### Claims handed on -/

theorem Claim.Lawful.held_of_owner {r : Resource} {c : Claim} (h : c.Lawful r) {p : PortId} (o : c.owner = some p) :
    c.state = .held := by
  cases e : c.state with
  | held => rfl
  | free => rw [(h.free_empty e).1] at o; cases o
  | releasing => rw [(h.releasing_generator e).1] at o; cases o

/-- A claim handed on (R140): no window of an output handed on is left, and a generator handed on is in IDLE. -/
theorem State.Sound.handOver (h : s.Sound gone) (r : Resource) (station : Nat) (cause : ClaimCause)
    (windows : ∀ o, r = .output o → ∀ i : Fin 48, s.slots[i].status ≠ .free → s.slots[i].output ≠ o)
    (idle : ∀ g, r = .generator g → (s.gen g).state.atRest = true) : (s.handOver r station cause).Sound gone := by
  have reach := s.handOver_reach r station cause
  have told := s.handOver_told (K := fun _ => True) r station cause trivial trivial
  have claim (q : Resource) := s.handOver_claim r q station cause
  have slots : (s.handOver r station cause).SlotsLawful := fun i => by
    rw [reach.slots]
    refine ⟨(h.windows.slots i).1, fun f => ?_⟩
    rw [claim, if_neg fun e => windows s.slots[i].output e.symm i f rfl]
    exact (h.windows.slots i).2 f
  refine h.told told reach.lines reach.halt reach.handing (h.axes.congr reach.axes)
    ⟨h.windows.channels.congr reach.channels reach.halt reach.handing,
      h.windows.cam.congr reach.slots reach.camLevels reach.channels, slots⟩
    (h.commits.congr reach.commits (fun x => by rw [State.axis_congr reach.axes]) told.isOpen)
    (h.pool.congr reach.compares reach.nextCompareId fun _ e _ o => by rw [told.isOpen]; exact o) (fun g => ?_) fun q => ?_
  · by_cases e : .generator g = r
    · subst e
      unfold State.GenFits
      rw [State.handOver_gen, claim, if_pos rfl]
      exact ⟨(h.gens g).lawful, fun _ => idle g rfl, fun k => absurd k (Claim.passed_not_releasing _)⟩
    · exact (h.gens g).congr (State.handOver_gen _ _ _ _ _) ((claim _).trans (if_neg e))
  · rw [claim]
    split
    · rename_i e; rw [e]; exact .inr rfl
    · exact .inl rfl

theorem State.cleanup_keeps (s : State) (r : Resource) : s.Keeps (s.cleanup r) := by
  cases r with
  | output o =>
    exact .of_camOnly ((s.eraseWindows_reach o).trans (State.arrive_reach _ o _).toCamOnly) fun h => h.cleanup (.output o)
  | generator g =>
    exact s.modGen_keeps g (fun n => { n with pendingTrigger := false }) (fun _ l => { l with armed_no_trigger := fun _ => rfl, stopped_no_trigger := fun _ => rfl }) rfl
  | axis x => exact s.modAxis_keeps x _ (fun l => l.cleanup) rfl rfl

theorem State.cleanup_output_slots (s : State) (o : OutputId) (i : Fin 48) :
    (s.cleanup (.output o)).slots[i] = if s.slots[i].output = o then Slot.free else s.slots[i] :=
  s.eraseWindows_slot o i

theorem State.cleanup_claim (s : State) (r q : Resource) : (s.cleanup r).claim q = s.claim q := by
  cases r with
  | output o => exact State.claim_congr ((s.eraseWindows_reach o).trans (State.arrive_reach _ o _).toCamOnly).claims q
  | generator g => rfl
  | axis x => rfl

/-- A claim cleaned up and handed on (R138, R142): a generator is in IDLE. -/
theorem State.Sound.cleanup_handOver (h : s.Sound gone) (r : Resource) (station : Nat) (cause : ClaimCause)
    (idle : ∀ g, r = .generator g → (s.gen g).state.atRest = true) : ((s.cleanup r).handOver r station cause).Sound gone := by
  refine ((s.cleanup_keeps r).sound gone h).handOver r station cause (fun o e i f => ?_) fun g e => ?_
  · subst e
    rw [State.cleanup_output_slots] at f ⊢
    split at f
    · exact absurd rfl f
    · rename_i ne; rw [if_neg ne]; exact ne
  · subst e
    have state : ((s.cleanup (.generator g)).gen g).state = (s.gen g).state := by
      unfold State.cleanup
      rw [State.modGen_gen_same]
    rw [state]
    exact idle g rfl

/-! ### The end of a session (R157, R158) -/

/-- A claim whose owner is lost becomes RELEASING (R143), and its generator stops (R110). -/
theorem State.Sound.loseOwner (h : s.Sound gone) (g : GenId) (station : Nat) (held : (s.claim (.generator g)).state = .held)
    (busy : (s.gen g).state ≠ .idle) : (s.loseOwner g station).Sound gone := by
  unfold State.loseOwner
  generalize set : s.setClaim (.generator g)
    { state := .releasing, owner := none, former := station, waiters := (s.claim (.generator g)).waiters } = t
  have claim : t.claim (.generator g) =
      { state := .releasing, owner := none, former := station, waiters := (s.claim (.generator g)).waiters } := by
    rw [← set, State.setClaim_claim_same]
  have others (q : Resource) (e : q ≠ .generator g) : t.claim q = s.claim q := by
    rw [← set, State.setClaim_claim_other _ _ _ _ e]
  have gen (i : GenId) : t.gen i = s.gen i := by rw [← set]; rfl
  have force (r : HaltReceiver) : t.inForceAt r = s.inForceAt r := by rw [← set]; rfl
  have l := h.claims.each (.generator g)
  have calm : t.Calm gone := by
    refine ⟨h.axes.congr (by rw [← set]; rfl), h.windows.congr (by rw [← set]; rfl) (by rw [← set]; rfl) (by rw [← set]; rfl)
      (by rw [← set]; rfl) (by rw [← set]; rfl) fun o k => by rw [others _ (by simp)]; exact k, by rw [← set]; exact h.halt,
      by rw [← set]; exact h.once, by rw [← set]; exact h.not_latched,
      h.commits.congr (by rw [← set]; rfl) (fun _ => by rw [← set]; rfl) fun _ => by rw [← set]; rfl,
      h.pool.congr (by rw [← set]; rfl) (by rw [← set]; rfl) fun _ _ _ o => by rw [← set]; exact o, ?_,
      h.sessions.congr fun _ => by rw [← set]; rfl, by rw [← set]; exact h.notices⟩
    have session (p : PortId) : t.session p = s.session p := by rw [← set]; rfl
    refine ⟨fun r => ?_, fun r p k => ?_, fun r p k => ?_⟩ <;> by_cases e : r = .generator g
    · rw [e, claim]
      exact ⟨l.wait_places, l.wait_once, nofun, nofun, nofun, fun _ => ⟨rfl, g, rfl⟩⟩
    · rw [others r e]; exact h.claims.each r
    · rw [e, claim] at k; cases k
    · rw [others r e] at k; rw [session]; exact h.claims.owners_open r p k
    · rw [e, claim] at k; rw [session]; exact h.claims.waiters_open _ p k
    · rw [others r e] at k; rw [session]; exact h.claims.waiters_open r p k
  obtain ⟨n, only⟩ := t.rampStop_only g
  refine ⟨calm.genOp only, fun i => ?_⟩
  rw [State.inForceAt_congr only.move.halt only.move.handing, force]
  by_cases e : i = g
  · subst e
    refine State.rampStop_fits (by rw [gen]; exact (h.gens i).lawful) (fun k => ?_) fun k => ?_
    · rw [claim] at k; cases k
    · rw [gen] at k; exact absurd k busy
  · refine only.fits_other e ((h.gens i).congr (gen i) (others _ fun c => e (by cases c; rfl)))

/-- The laws as the claim table takes the end of a session (R142): its claims fall one by one, and none comes back. -/
structure State.Ending (p : PortId) (done : List Resource) (s : State) : Prop where
  sound : s.Sound (some p)
  closed : (s.session p).isOpen = false
  given : ∀ r ∈ done, (s.claim r).owner ≠ some p

theorem State.endClaim_session (p : PortId) (station : Nat) (s : State) (r : Resource) (q : PortId) :
    (State.endClaim p station s r).session q = s.session q := by
  have passed (r : Resource) : (s.passOn r station).session q = s.session q := by
    obtain ⟨n, told⟩ := (s.cleanup_keeps r).told
    exact (State.Told.session (State.handOver_told (K := fun _ => True) _ r station .sessionEnded trivial trivial) q).trans
      (told.session q)
  unfold State.endClaim
  split
  · split
    · exact passed _
    · exact passed _
    · split
      · exact passed _
      · obtain ⟨n, only⟩ := State.rampStop_only _ _
        exact (only.told.session q).trans rfl
  · rfl

/-- What the end of a session makes of the claim records (R142, R143): the one in hand is handed on or RELEASING. -/
theorem State.endClaim_claim (p : PortId) (station : Nat) (s : State) (r q : Resource) :
    (q ≠ r ∧ (State.endClaim p station s r).claim q = s.claim q) ∨
      (q = r ∧ (s.holds p r = false ∧ (State.endClaim p station s r).claim q = s.claim q ∨
        (State.endClaim p station s r).claim q = (s.claim r).passed ∨
        (State.endClaim p station s r).claim q =
          { state := .releasing, owner := none, former := station, waiters := (s.claim r).waiters })) := by
  have passed (r : Resource) : (s.passOn r station).claim q = if q = r then (s.claim r).passed else s.claim q := by
    unfold State.passOn
    rw [State.handOver_claim, State.cleanup_claim, State.cleanup_claim]
  by_cases holds : s.holds p r = true
  · by_cases e : q = r
    · refine .inr ⟨e, .inr ?_⟩
      subst e
      unfold State.endClaim
      rw [if_pos holds]
      cases q with
      | output o => exact .inl ((passed _).trans (if_pos rfl))
      | axis x => exact .inl ((passed _).trans (if_pos rfl))
      | generator g =>
        dsimp only
        split
        · exact .inl ((passed _).trans (if_pos rfl))
        · obtain ⟨n, only⟩ := State.rampStop_only (s.setClaim (.generator g)
            { state := .releasing, owner := none, former := station, waiters := (s.claim (.generator g)).waiters }) g
          have claim := only.claim
          rw [State.setClaim_claim_same] at claim
          exact claim.stands_or_passed.symm
    · refine .inl ⟨e, ?_⟩
      unfold State.endClaim
      rw [if_pos holds]
      cases r with
      | output o => exact (passed _).trans (if_neg e)
      | axis x => exact (passed _).trans (if_neg e)
      | generator g =>
        dsimp only
        split
        · exact (passed _).trans (if_neg e)
        · obtain ⟨n, only⟩ := State.rampStop_only (s.setClaim (.generator g)
            { state := .releasing, owner := none, former := station, waiters := (s.claim (.generator g)).waiters }) g
          exact (only.other_claims q e).trans (State.setClaim_claim_other _ _ _ _ e)
  · have stands : State.endClaim p station s r = s := by
      unfold State.endClaim
      rw [if_neg holds]
    rw [stands]
    by_cases e : q = r
    · exact .inr ⟨e, .inl ⟨by simpa using holds, rfl⟩⟩
    · exact .inl ⟨e, rfl⟩

theorem State.Ending.endClaim {p : PortId} {done : List Resource} (h : s.Ending p done) (station : Nat) (r : Resource) :
    (State.endClaim p station s r).Ending p (r :: done) := by
  refine ⟨?_, by rw [State.endClaim_session]; exact h.closed, fun q m o => ?_⟩
  · unfold State.endClaim
    split <;> rename_i holds
    · split
      · exact h.sound.cleanup_handOver _ _ _ nofun
      · exact h.sound.cleanup_handOver _ _ _ nofun
      · split <;> rename_i idle
        · exact h.sound.cleanup_handOver _ _ _ fun g e => by cases e; rw [idle]; rfl
        · exact h.sound.loseOwner _ _ ((s.holds_iff p _).mp holds).1 idle
    · exact h.sound
  · have noWaiter (r : Resource) (k : p ∈ (s.claim r).waiters) : False := by
      have o := h.sound.claims.waiters_open r p k
      rw [h.closed] at o
      cases o
    rcases State.endClaim_claim p station s r q with ⟨ne, e⟩ | ⟨rfl, ⟨not, e⟩ | e | e⟩ <;> rw [e] at o
    · exact h.given q ((List.mem_cons.mp m).resolve_left ne) o
    · have holds := (s.holds_iff p q).mpr ⟨(h.sound.claims.each q).held_of_owner o, o⟩
      rw [not] at holds
      cases holds
    · exact noWaiter q (Claim.passed_owner o)
    · cases o

theorem State.Ending.endClaims {p : PortId} (station : Nat) (l done : List Resource) {s : State} (h : s.Ending p done) :
    (l.foldl (State.endClaim p station) s).Ending p (l.reverse ++ done) := by
  induction l generalizing s done with
  | nil => exact h
  | cons r l ih =>
    rw [List.reverse_cons, List.append_assoc]
    exact ih (r :: done) (h.endClaim station r)

theorem ClaimTable.mapAll_get (f : Claim → Claim) (t : ClaimTable) (r : Resource) : (t.mapAll f).get r = f (t.get r) := by
  cases r with
  | output o => exact mapVector_get f t.outputs o.val o.isLt
  | generator g => cases g <;> rfl
  | axis x => cases x <;> rfl

theorem State.dropWaits_claim (s : State) (p : PortId) (r : Resource) : (s.dropWaits p).claim r = (s.claim r).dropWaiter p :=
  ClaimTable.mapAll_get _ _ _

/-- The state of a session end before the claim table's part (R157 to R159). -/
def State.sessionGone (s : State) (p : PortId) (cause : SessionCause) : State :=
  ((((s.modPort p Port.ended).broadcast (fun u => u.sessionEnded) (.sessionEnded (s.station p) p cause)).dropCommits p).dropEntries
    p).dropWaits p

theorem State.endSession_eq (s : State) (p : PortId) (cause : SessionCause) :
    s.endSession p cause = allResources.foldl (State.endClaim p (s.station p)) (s.sessionGone p cause) := rfl

theorem State.sessionGone_reach (s : State) (p : PortId) (cause : SessionCause) :
    s.sessionGone p cause =
      { s with
        ports := (s.sessionGone p cause).ports, commits := (s.sessionGone p cause).commits
        compares := (s.sessionGone p cause).compares, claims := (s.sessionGone p cause).claims } := by
  have r := (s.modPort_reach p Port.ended).trans
    (State.broadcast_reach _ (fun u => u.sessionEnded) (.sessionEnded (s.station p) p cause))
  unfold State.sessionGone
  rw [r.eq]
  rfl

theorem State.sessionGone_told (s : State) (p : PortId) (cause : SessionCause) :
    State.Told (fun k => k = .sessionEnded (s.station p) p cause) 1 (s.modPort p Port.ended) (s.sessionGone p cause) :=
  { State.broadcast_told (K := fun k => k = .sessionEnded (s.station p) p cause) (s.modPort p Port.ended)
      (fun u => u.sessionEnded) rfl with }

theorem State.sessionGone_session (s : State) (p q : PortId) (cause : SessionCause) :
    (s.sessionGone p cause).session q = if q = p then Session.closed else s.session q := by
  rw [(s.sessionGone_told p cause).session]
  unfold State.session
  rw [State.modPort_port]
  split <;> rfl

theorem State.sessionGone_hasCommit (s : State) (p q : PortId) (x : AxisId) (cause : SessionCause) :
    (s.sessionGone p cause).hasCommit q x = if q = p then false else s.hasCommit q x := by
  have commits : (s.sessionGone p cause).commits = s.commits.set p { a := false, b := false, v := false } := by
    have r := (s.modPort_reach p Port.ended).trans
      (State.broadcast_reach _ (fun u => u.sessionEnded) (.sessionEnded (s.station p) p cause))
    exact congrArg (fun c : PerPort (PerAxis Bool) => c.set p { a := false, b := false, v := false }) r.commits
  unfold State.hasCommit
  rw [commits]
  cases p <;> cases q <;> cases x <;> rfl

theorem State.sessionGone_compares (s : State) (p : PortId) (cause : SessionCause) :
    (s.sessionGone p cause).compares = (s.removeEntries fun e => decide (e.owner = p)).compares := by
  have r := (s.modPort_reach p Port.ended).trans
    (State.broadcast_reach _ (fun u => u.sessionEnded) (.sessionEnded (s.station p) p cause))
  unfold State.sessionGone State.dropWaits State.dropEntries State.removeEntries State.dropCommits
  simp only [r.compares]

theorem State.sessionGone_claim (s : State) (p : PortId) (cause : SessionCause) (r : Resource) :
    (s.sessionGone p cause).claim r = (s.claim r).dropWaiter p := by
  have reach := (s.modPort_reach p Port.ended).trans
    (State.broadcast_reach _ (fun u => u.sessionEnded) (.sessionEnded (s.station p) p cause))
  unfold State.sessionGone
  rw [State.dropWaits_claim]
  exact congrArg (Claim.dropWaiter p) (reach.claim r)

theorem State.Sound.sessionGone (h : s.Sound none) (p : PortId) (cause : SessionCause) : (s.sessionGone p cause).Ending p [] := by
  have eq := s.sessionGone_reach p cause
  have session (q : PortId) := s.sessionGone_session p q cause
  have claim := s.sessionGone_claim p cause
  have told := s.sessionGone_told p cause
  have opens (q : PortId) (k : (s.session q).isOpen = true) (ne : q ≠ p) : ((s.sessionGone p cause).session q).isOpen = true := by
    rw [session, if_neg ne]; exact k
  have held (r : Resource) : ((s.claim r).dropWaiter p).state = (s.claim r).state := rfl
  refine ⟨⟨⟨h.axes.congr (by rw [eq]), h.windows.congr (by rw [eq]) (by rw [eq]) (by rw [eq]) (by rw [eq]) (by rw [eq]) fun o k => ?_,
    ?_, by rw [eq]; exact h.once, by rw [eq]; exact h.not_latched, fun q x k => ?_,
    h.pool.removeEntries (fun e => decide (e.owner = p)) (s.sessionGone_compares p cause) (by rw [eq]) fun x e m k => ?_,
    ⟨fun r => ?_, fun r q k => ?_, fun r q k => ?_⟩, ⟨fun q => ?_, fun q q' => ?_⟩, ?_⟩, fun g => ?_⟩, ?_, by simp⟩
  · rw [claim, held]; exact k
  · unfold State.HaltLawful; rw [eq]; exact h.halt
  · rw [State.sessionGone_hasCommit] at k
    split at k <;> rename_i ne
    · cases k
    · obtain ⟨mode, o⟩ := h.commits q x k
      exact ⟨by rw [State.axis_congr (s := s) (by rw [eq])]; exact mode, opens q o ne⟩
  · exact opens e.owner (h.pool.owners_open x e m) (of_decide_eq_false k)
  · have l := h.claims.each r
    have sub : ((s.claim r).dropWaiter p).waiters.Sublist (s.claim r).waiters := List.filter_sublist
    rw [claim]
    exact ⟨sub.length_le.trans l.wait_places, l.wait_once.sublist sub, fun q o m => l.owner_not_waiting q o (sub.subset m),
      fun k => ⟨(l.free_empty k).1, List.sublist_nil.mp ((l.free_empty k).2 ▸ sub)⟩, l.held_owned, l.releasing_generator⟩
  · rw [claim] at k
    by_cases ne : q = p
    · exact .inr (by rw [ne])
    · exact .inl (opens q ((h.claims.owners_open r q k).resolve_right nofun) ne)
  · rw [claim] at k
    obtain ⟨m, ne⟩ := List.mem_filter.mp k
    exact opens q (h.claims.waiters_open r q m) (of_decide_eq_true ne)
  · rw [session]
    split
    · exact Session.closed_lawful
    · exact h.sessions.each q
  · rw [session, session]
    split
    · exact nofun
    · split
      · exact fun _ => nofun
      · exact h.sessions.stations_differ q q'
  · refine told.noticesLawful fun q => ?_
    rw [State.modPort_port]
    split
    · exact NoticeQueue.fresh_lawful
    · exact h.notices q
  · have force : (s.sessionGone p cause).inForceAt (.generator g) = s.inForceAt (.generator g) :=
      State.inForceAt_congr (by rw [eq]) (by rw [eq]) _
    unfold State.GenFits
    rw [force, State.gen_congr (s := s) (by rw [eq]), claim, held]
    exact h.gens g
  · rw [session, if_pos rfl]
    rfl

theorem State.Sound.endSession (h : s.Sound none) (p : PortId) (cause : SessionCause) : (s.endSession p cause).Sound none := by
  rw [State.endSession_eq]
  have e := (h.sessionGone p cause).endClaims (s.station p) allResources []
  refine ⟨⟨e.sound.axes, e.sound.windows, e.sound.halt, e.sound.once, e.sound.not_latched, e.sound.commits, e.sound.pool,
    ⟨e.sound.claims.each, fun r q k => .inl ?_, e.sound.claims.waiters_open⟩, e.sound.sessions, e.sound.notices⟩, e.sound.gens⟩
  refine (e.sound.claims.owners_open r q k).resolve_right fun c => ?_
  cases c
  refine e.given r ?_ k
  simp [mem_allResources]

theorem State.Sound.leaseExpires (h : s.Sound none) (p : PortId) : (s.leaseExpires p).Sound none := by
  unfold State.leaseExpires
  split
  · exact h.endSession p _
  · exact h

/-! ### The clocks -/

theorem Session.Lawful.millisecond {x : Session} (h : x.Lawful) :
    ({ x with leaseLeft := x.leaseLeft.map fun n => n - 1 } : Session).Lawful :=
  { none_values := fun o => by
      have e : x = Session.closed := h.none_values o
      rw [e]; rfl
    station_range := h.station_range, lease_range := h.lease_range
    timer_stopped := fun o => by dsimp only; rw [Option.map_eq_none_iff]; exact h.timer_stopped o
    timer_range := fun n hn => by
      obtain ⟨k, hk, rfl⟩ := Option.map_eq_some_iff.mp hn
      exact (Nat.sub_le _ _).trans (h.timer_range k hk) }

theorem State.tick_axis (s : State) (x : AxisId) : s.tick.axis x = (s.axis x).millisecond := by cases x <;> rfl
theorem State.tick_gen (s : State) (g : GenId) : s.tick.gen g = (s.gen g).millisecond := by cases g <;> rfl
theorem State.tick_port (s : State) (p : PortId) : s.tick.port p = (s.port p).millisecond := by cases p <;> rfl
theorem State.tick_channel (s : State) (o : OutputId) : s.tick.channel o = (s.channel o).millisecond :=
  mapVector_get Channel.millisecond s.channels o.val o.isLt

theorem State.Sound.tick (h : s.Sound gone) : s.tick.Sound gone := by
  have session (p : PortId) : s.tick.session p = { s.session p with leaseLeft := (s.session p).leaseLeft.map fun n => n - 1 } := by
    unfold State.session; rw [State.tick_port]; rfl
  have isOpen (p : PortId) : (s.tick.session p).isOpen = (s.session p).isOpen := by rw [session]
  refine ⟨⟨⟨fun x => ?_, ?_⟩, ⟨fun o => ?_, fun o => ?_, h.windows.slots.congr rfl fun _ k => k⟩, h.halt, h.once, h.not_latched,
    h.commits.congr rfl (fun x => by rw [State.tick_axis]; rfl) isOpen,
    h.pool.congr rfl rfl fun _ _ _ o => by rw [isOpen]; exact o,
    h.claims.handed (fun _ => .inl rfl) isOpen, ⟨fun p => ?_, fun p q => ?_⟩, fun p => ?_⟩, fun g => ?_⟩
  · rw [State.tick_axis]; exact (h.axes.each x).millisecond
  · rw [State.tick_axis]; exact h.axes.v_normal
  · have c := h.windows.channels o
    rw [State.tick_channel]
    exact ⟨c.halt_copy, c.line_level, fun k => c.pulse_high (by simpa [Channel.millisecond] using k)⟩
  · rw [State.tick_channel]; exact h.windows.cam o
  · rw [session]; exact (h.sessions.each p).millisecond
  · rw [session, session]; exact h.sessions.stations_differ p q
  · rw [State.tick_port]; exact h.notices p
  · unfold State.GenFits
    rw [State.tick_gen]
    exact ⟨{ (h.gens g).lawful with }, (h.gens g).free_rests, (h.gens g).releasing_stops⟩

theorem State.Sound.millisecond (h : s.Sound gone) : s.millisecond.Sound gone := h.continueHandOver.tick

/-! ### The events of the field lines and of the generators' timers -/

theorem InputLines.setPair_halt (l : InputLines) (e : Encoder) (x : EncoderLines) :
    (l.setPair e x).haltAsserted = l.haltAsserted := by cases e <;> rfl
theorem InputLines.setMarker_halt (l : InputLines) (e : Encoder) (b : Bool) :
    (l.setMarker e b).haltAsserted = l.haltAsserted := by cases e <;> rfl
theorem InputLines.setRef_halt (l : InputLines) (r : RefLine) (b : Bool) :
    (l.setRef r b).haltAsserted = l.haltAsserted := by cases r <;> rfl

theorem State.Sound.encoderLevels (h : s.Sound gone) (e : Encoder) (new : EncoderLines) : (s.encoderLevels e new).Sound gone := by
  have l := h.lines (s.lines.setPair e new) (InputLines.setPair_halt _ _ _)
  unfold State.encoderLevels
  dsimp only
  split
  · exact l
  · exact ((State.countEvent_keeps _ _ _).trans (State.drain_keeps _)).sound gone l

theorem State.gateExpires_keeps (s : State) (x : AxisId) : s.Keeps (s.gateExpires x) := by
  unfold State.gateExpires
  split
  · exact (s.modAxis_keeps x _ (fun l => l.gated) rfl rfl).trans (State.evaluateAxis_keeps _ x)
  · exact .refl s

theorem State.Sound.markerLevel (h : s.Sound gone) (e : Encoder) (active : Bool) : (s.markerLevel e active).Sound gone := by
  have l := h.lines (s.lines.setMarker e active) (InputLines.setMarker_halt _ _ _)
  unfold State.markerLevel
  split
  · exact h
  · refine ((State.Keeps.takeParts _ (fun f hf t => ?_) _).trans (State.drain_keeps _)).sound gone l
    rcases List.mem_cons.mp hf with rfl | hf
    · exact t.captureEdge_keeps _ _ _
    · split at hf
      · obtain ⟨g, -, rfl⟩ := List.mem_map.mp hf
        exact t.markerEdgeAt_keeps e g
      · cases hf

theorem State.Sound.refLevel (h : s.Sound gone) (r : RefLine) (high : Bool) : (s.refLevel r high).Sound gone := by
  have l := h.lines (s.lines.setRef r high) (InputLines.setRef_halt _ _ _)
  unfold State.refLevel
  split
  · exact h
  · refine ((State.Keeps.takeParts _ (fun f hf t => ?_) _).trans (State.drain_keeps _)).sound gone l
    rcases List.mem_append.mp hf with hf | hf
    · obtain ⟨x, -, rfl⟩ := List.mem_map.mp hf
      exact t.captureEdge_keeps _ _ _
    · obtain ⟨g, -, rfl⟩ := List.mem_map.mp hf
      exact t.refEdgeAt_keeps r high g

theorem State.stepNow_keeps (s : State) (g : GenId) : s.Keeps (s.stepNow g) := by
  unfold State.stepNow
  split
  · exact (s.takeStep_keeps g).trans (State.drain_keeps _)
  · exact .refl s

theorem State.backlogStep_keeps (s : State) (g : GenId) : s.Keeps (s.backlogStep g) := by
  unfold State.backlogStep
  split
  · exact (s.takeStep_keeps g).trans (State.drain_keeps _)
  · exact .refl s

theorem State.rampExpires_keeps (s : State) (g : GenId) : s.Keeps (s.rampExpires g) := by
  unfold State.rampExpires
  split
  · exact (s.rampTick_keeps g).trans (State.drain_keeps _)
  · exact .refl s

theorem State.dwellExpires_keeps (s : State) (g : GenId) : s.Keeps (s.dwellExpires g) := by
  unfold State.dwellExpires
  split
  · exact (s.endMove_keeps g _).trans (State.drain_keeps _)
  · exact .refl s

theorem State.pulseExpires_keeps (s : State) (o : OutputId) : s.Keeps (s.pulseExpires o) := by
  unfold State.pulseExpires
  split
  · exact s.arrive_keeps o _ rfl rfl fun _ => nofun
  · exact .refl s

/-- An event of a field line or a clock keeps the laws. -/
theorem State.Sound.fieldEvent (h : s.Sound none) {c : Instr} {event : State → State} (e : fieldEvent c = some event) :
    (event s).Sound none := by
  cases c <;> simp only [Machine.fieldEvent, Option.some.injEq, reduceCtorEq] at e <;> subst e
  case encoderTransition e a b => exact h.encoderLevels e _
  case gateExpiry x => exact (s.gateExpires_keeps x).sound none h
  case markerEdge e a => exact h.markerLevel e a
  case referenceLineEdge l a => exact h.refLevel l a
  case generatorStep g => exact (s.stepNow_keeps g).sound none h
  case followBacklogStep g => exact (s.backlogStep_keeps g).sound none h
  case rampTimerExpiry g => exact (s.rampExpires_keeps g).sound none h
  case dwellTimerExpiry g => exact (s.dwellExpires_keeps g).sound none h
  case pulseTimerExpiry o => exact (s.pulseExpires_keeps o).sound none h
  case haltAssertion => exact h.haltAsserted
  case haltRelease => exact h.haltReleased
  case leaseExpiry p => exact h.leaseExpires p
  case deviceMillisecondIncrement => exact h.millisecond

end Sys2Proof.Machine
end

section
/-! SUPPORT. The laws under the requests: what each block's part of a request keeps (R148). -/

namespace Sys2Proof.Machine

variable {s t : State} {gone : Option PortId}

/-! ### Claims -/

/-- A claim record that changes, staying HELD or in its state, its owner and waiters open sessions. -/
theorem State.Sound.setClaim (h : s.Sound gone) (r : Resource) (c : Claim) (lawful : c.Lawful r)
    (state : c.state = .held ∨ c.state = (s.claim r).state)
    (owner : ∀ p, c.owner = some p → (s.session p).isOpen = true ∨ gone = some p)
    (waiters : ∀ p ∈ c.waiters, (s.session p).isOpen = true) : (s.setClaim r c).Sound gone := by
  have claim (q : Resource) : (s.setClaim r c).claim q = if q = r then c else s.claim q := by
    split
    · rename_i e; rw [e, State.setClaim_claim_same]
    · rename_i e; exact State.setClaim_claim_other _ _ _ _ e
  refine ⟨⟨h.axes.congr rfl, h.windows.congr rfl rfl rfl rfl rfl fun o k => ?_, h.halt, h.once, h.not_latched,
    h.commits.congr rfl (fun _ => rfl) fun _ => rfl, h.pool.congr rfl rfl fun _ _ _ o => o, ⟨fun q => ?_, fun q p k => ?_, fun q p k => ?_⟩,
    h.sessions.congr fun _ => rfl, h.notices⟩, fun g => ?_⟩
  · rw [claim]
    split
    · rename_i e; rw [e] at k; exact state.elim id fun e => e.trans k
    · exact k
  all_goals try rw [claim] at k
  · rw [claim]
    split
    · rename_i e; rw [e]; exact lawful
    · exact h.claims.each q
  · split at k
    · exact owner p k
    · exact h.claims.owners_open q p k
  · split at k
    · exact waiters p k
    · exact h.claims.waiters_open q p k
  · have fits := h.gens g
    unfold State.GenFits at fits ⊢
    rw [claim]
    split
    · rename_i e
      rcases state with held | same
      · rw [held]; exact ⟨fits.lawful, nofun, nofun⟩
      · rw [same, ← e]; exact fits
    · exact fits

theorem claimRequest_sound (h : s.Sound gone) {p : PortId} (isOpen : (s.session p).isOpen = true) (resource wait : Byte) :
    (claimRequest p resource wait s).1.Sound gone := by
  unfold claimRequest
  split
  · rename_i r w _ _
    have l := h.claims.each r
    have open_waiters := h.claims.waiters_open r
    dsimp only
    split
    · exact h
    split <;> rename_i not_holding not_waiting
    · exact h
    split
    · rename_i free
      obtain ⟨-, none_waiting⟩ := l.free_empty free
      refine h.setClaim r _ ⟨l.wait_places, l.wait_once, fun q o => ?_, nofun, fun _ => rfl, nofun⟩ (.inl rfl) (fun q o => ?_)
        open_waiters
      · dsimp only; rw [none_waiting]; simp
      · cases o; exact .inl isOpen
    split
    · exact h
    split <;> rename_i not_free _ room
    · exact h
    refine h.setClaim r _ ⟨?_, ?_, fun q o m => ?_, fun k => absurd k not_free, l.held_owned, l.releasing_generator⟩ (.inr rfl)
      (h.claims.owners_open r) fun q m => ?_
    · have places : ¬2 ≤ (s.claim r).waiters.length := room
      simp only [List.length_append, List.length_singleton]
      omega
    · rw [List.nodup_append]
      exact ⟨l.wait_once, List.nodup_singleton _, fun a ha b hb e => not_waiting (by rw [← List.mem_singleton.mp hb, ← e]; exact ha)⟩
    · rcases List.mem_append.mp m with m | m
      · exact l.owner_not_waiting q o m
      · rw [List.mem_singleton.mp m] at o
        exact not_holding ((s.holds_iff p r).mpr ⟨l.held_of_owner o, o⟩)
    · rcases List.mem_append.mp m with m | m
      · exact open_waiters q m
      · rw [List.mem_singleton.mp m]; exact isOpen
  · exact h

theorem cancelWaitRequest_sound (h : s.Sound gone) (p : PortId) (resource : Byte) : (cancelWaitRequest p resource s).1.Sound gone := by
  unfold cancelWaitRequest
  split
  · exact h
  · rename_i r _
    dsimp only
    split
    · have l := h.claims.each r
      have sub : ((s.claim r).waiters.filter fun w => decide (w ≠ p)).Sublist (s.claim r).waiters := List.filter_sublist
      exact h.setClaim r _
        ⟨sub.length_le.trans l.wait_places, l.wait_once.sublist sub, fun q o m => l.owner_not_waiting q o (sub.subset m),
          fun k => ⟨(l.free_empty k).1, List.sublist_nil.mp ((l.free_empty k).2 ▸ sub)⟩, l.held_owned, l.releasing_generator⟩
        (.inr rfl) (h.claims.owners_open r) fun q m => h.claims.waiters_open r q (sub.subset m)
    · exact h

/-- Entries leave the pool. -/
theorem State.removeEntries_keeps (s : State) (drop : CompareEntry → Bool) : s.Keeps (s.removeEntries drop) :=
  ⟨⟨rfl⟩, ⟨0, .of_ports _ _ rfl rfl⟩, fun _ h => h.poolOp (i := s.nextCompareId)
    (h.pool.removeEntries drop rfl rfl fun x e m _ => h.pool.owners_open x e m)⟩

theorem State.posts_keeps (s : State) (p : PortId) (notices : List NoticeKind) :
    s.Keeps (notices.foldl (fun t n => t.post p n) s) := by
  induction notices generalizing s with
  | nil => exact .refl s
  | cons n l ih => exact (s.post_keeps p n).trans (ih _)

theorem State.withdrawFor_keeps (s : State) (p : PortId) (r : Resource) : s.Keeps (s.withdrawFor p r) :=
  (s.removeEntries_keeps _).trans (State.posts_keeps _ p _)

theorem State.withdrawFor_gens (s : State) (p : PortId) (r : Resource) : (s.withdrawFor p r).gens = s.gens := by
  unfold State.withdrawFor
  generalize (allAxes.flatMap _ : List NoticeKind) = l
  generalize e : (s.removeEntries fun e => e.actsFor p r) = t
  have gens : t.gens = s.gens := by rw [← e]; rfl
  rw [← gens]
  clear e gens
  induction l generalizing t with
  | nil => rfl
  | cons n l ih => exact (ih (t.post p n)).trans (State.post_reach t p n).gens

theorem releaseRequest_sound (h : s.Sound gone) (p : PortId) (resource : Byte) : (releaseRequest p resource s).1.Sound gone := by
  unfold releaseRequest
  split
  · exact h
  · rename_i r _
    split
    · split <;> rename_i may
      · refine ((s.withdrawFor_keeps p r).sound gone h).cleanup_handOver r _ _ fun g e => ?_
        subst e
        rw [State.gen_congr (State.withdrawFor_gens _ _ _), of_decide_eq_true may]
        rfl
      · exact h
    · exact h

/-! ### Sessions -/

theorem State.modSession_session (s : State) (p q : PortId) (f : Session → Session) :
    (s.modSession p f).session q = if q = p then f (s.session p) else s.session q := by
  unfold State.modSession State.session
  rw [State.modPort_port]
  split <;> rfl

theorem stationOf_range {b : Byte} {n : Nat} (h : stationOf b = some n) : 1 ≤ n ∧ n ≤ 15 := by
  unfold stationOf at h
  split at h
  · cases h; assumption
  · cases h

theorem leaseOf_range {b : Half} {n : Nat} (h : leaseOf b = some n) : 50 ≤ n ∧ n ≤ 5000 ∧ n % 10 = 0 := by
  unfold leaseOf at h
  split at h
  · cases h; assumption
  · cases h

theorem State.stationInUse_iff (s : State) (p : PortId) (n : Nat) :
    s.stationInUse p n = true ↔ ∃ q, q ≠ p ∧ (s.session q).isOpen = true ∧ (s.session q).station = n := by
  unfold State.stationInUse
  simp only [List.any_eq_true, Bool.and_eq_true, decide_eq_true_eq, mem_allPorts, true_and, and_assoc]

/-- A session opened on a port that has none (R151). -/
theorem State.Sound.opened (h : s.Sound none) {p : PortId} {n l : Nat} (u : Subscriptions) (station : 1 ≤ n ∧ n ≤ 15)
    (lease : 50 ≤ l ∧ l ≤ 5000 ∧ l % 10 = 0) (unused : s.stationInUse p n = false) :
    (s.modPort p fun q => q.opened n l u).Sound none := by
  have session (q : PortId) : (s.modPort p fun q => q.opened n l u).session q =
      if q = p then { isOpen := true, station := n, lease := l, leaseLeft := some l, subs := u, closing := false } else s.session q := by
    unfold State.session
    rw [State.modPort_port]
    split <;> rfl
  have differs {q : PortId} (ne : q ≠ p) (o : (s.session q).isOpen = true) : (s.session q).station ≠ n := fun e => by
    have k := (s.stationInUse_iff p n).mpr ⟨q, ne, o, e⟩
    rw [unused] at k
    cases k
  refine h.portsOp (s.modPort_reach p _) (fun q o => ?_) ⟨fun q => ?_, fun q r => ?_⟩ fun q => ?_
  · rw [session]
    split
    · rfl
    · exact o
  · rw [session]
    split
    · exact ⟨nofun, fun _ => station, fun _ => lease, fun _ => ⟨nofun, nofun⟩, fun n e => by cases e; exact le_refl _⟩
    · exact h.sessions.each q
  · rw [session, session]
    split <;> rename_i hq <;> split <;> rename_i hr
    · exact fun _ _ _ => hq.trans hr.symm
    · exact fun _ o e => absurd e.symm (differs hr o)
    · exact fun o _ e => absurd e (differs hq o)
    · exact h.sessions.stations_differ q r
  · rw [State.modPort_port]
    split
    · exact NoticeQueue.fresh_lawful
    · exact h.notices q

theorem openSessionRequest_sound (h : s.Sound none) (p : PortId) (station : Byte) (lease : Half) (subs : Byte) :
    (openSessionRequest p station lease subs s).1.Sound none := by
  unfold openSessionRequest
  split
  · rename_i hn hl _
    split <;> rename_i used
    · exact h
    · exact h.opened _ (stationOf_range hn) (leaseOf_range hl) (by simpa using used)
  · exact h

theorem Session.Lawful.close {x : Session} (h : x.Lawful) (o : x.isOpen = true) :
    ({ x with leaseLeft := none, closing := true } : Session).Lawful :=
  ⟨fun k => absurd (o.symm.trans k) nofun, h.station_range, h.lease_range, fun _ => ⟨fun _ => rfl, fun _ => rfl⟩, nofun⟩

theorem closeSessionRequest_sound (h : s.Sound gone) {p : PortId} (isOpen : (s.session p).isOpen = true) :
    (closeSessionRequest p s).1.Sound gone :=
  h.modSession p (fun x => { x with leaseLeft := none, closing := true }) ((h.sessions.each p).close isOpen) rfl rfl

theorem Session.Lawful.setSubs {x : Session} (h : x.Lawful) (o : x.isOpen = true) (u : Subscriptions) :
    ({ x with subs := u } : Session).Lawful :=
  ⟨fun k => absurd (o.symm.trans k) nofun, h.station_range, h.lease_range, h.timer_stopped, h.timer_range⟩

theorem setSubscriptionsRequest_sound (h : s.Sound gone) {p : PortId} (isOpen : (s.session p).isOpen = true) (subs : Byte) :
    (setSubscriptionsRequest p subs s).1.Sound gone := by
  unfold setSubscriptionsRequest
  split
  · exact h
  · rename_i u _
    exact h.modSession p (fun x => { x with subs := u }) ((h.sessions.each p).setSubs isOpen u) rfl rfl

theorem readPortStatusRequest_sound (h : s.Sound gone) (p : PortId) : (readPortStatusRequest p s).1.Sound gone :=
  h.modPort p (fun q => { q with faults := Faults.zero }) rfl (h.notices p)

theorem acknowledgeNoticesRequest_sound (h : s.Sound gone) (p : PortId) (number : Half) :
    (acknowledgeNoticesRequest p number s).1.Sound gone := by
  unfold acknowledgeNoticesRequest
  dsimp only
  split
  · split
    · exact (h.modPort p _ rfl ((h.notices p).remove _)).offer p
    · exact h
  · split
    · exact h
    · split <;> exact h

/-! ### Axes -/

/-- An axis that no slot, entry or commit refers to, configured (R17): its mode may change. -/
theorem State.Sound.configured (h : s.Sound gone) (x : AxisId) (m : AxisMode) {l g : Nat} (d : Sense)
    (cycle : 16 ≤ l ∧ l ≤ 1048576) (gate : 1 ≤ g ∧ g ≤ 1000) (normal : x = .v → d = .normal) (free : s.anyCommit x = false) :
    (s.modAxis x fun a => a.configured m l d g).Sound gone := by
  have no_commit (p : PortId) (k : s.hasCommit p x = true) : False := by
    have any : s.anyCommit x = true := List.any_eq_true.mpr ⟨p, mem_allPorts p, k⟩
    rw [free] at any
    cases any
  refine ⟨⟨h.axes.modAxis x _ ((h.axes.each x).configured m d cycle gate) ?_, h.windows.congr rfl rfl rfl rfl rfl fun _ k => k, h.halt,
    h.once, h.not_latched, fun p y k => ?_, h.pool.congr rfl rfl fun _ _ _ o => o, h.claims.handed (fun _ => .inl rfl) fun _ => rfl,
    h.sessions.congr fun _ => rfl, h.notices⟩, fun g => (h.gens g).congr rfl rfl⟩
  · by_cases e : x = .v
    · exact .inr (.inr (normal e))
    · exact .inr (.inl e)
  · obtain ⟨mode, o⟩ := h.commits p y k
    have ne : y ≠ x := fun e => no_commit p (e ▸ k)
    rw [State.modAxis_axis, if_neg ne]
    exact ⟨mode, o⟩

theorem axisSenseOf_v {b : Byte} {d : Sense} (h : axisSenseOf .v b = some d) : d = .normal := by
  unfold axisSenseOf at h
  split at h
  · cases h
  · split at h <;> rename_i k
    · cases h
    · cases h
      cases d
      · rfl
      · exact absurd ⟨rfl, rfl⟩ k

theorem cycleOf_range {w : Word} {n : Nat} (h : cycleOf w = some n) : 16 ≤ n ∧ n ≤ 1048576 := by
  unfold cycleOf at h
  split at h
  · cases h; assumption
  · cases h

theorem gateOf_range {w : Half} {n : Nat} (h : gateOf w = some n) : 1 ≤ n ∧ n ≤ 1000 := by
  unfold gateOf at h
  split at h
  · cases h; assumption
  · cases h

theorem armCountOf_range {b : Byte} {n : Nat} (h : armCountOf b = some n) : 1 ≤ n ∧ n ≤ 8 := by
  unfold armCountOf at h
  split at h
  · cases h; assumption
  · cases h

/-- A holder's axis request keeps what its own part keeps. -/
theorem State.Sound.axisRequest (h : s.Sound gone) (p : PortId) (axis : Byte) (k : AxisId → State × Reply)
    (part : ∀ x, (k x).1.Sound gone) : (s.axisRequest p axis k).1.Sound gone := by
  unfold State.axisRequest
  split
  · exact h
  · split
    · exact part _
    · exact h

theorem configureAxisRequest_sound (h : s.Sound gone) (p : PortId) (axis mode : Byte) (cycle : Word) (sense : Byte) (gate : Half) :
    (configureAxisRequest p axis mode cycle sense gate s).1.Sound gone := by
  refine h.axisRequest p axis _ fun x => ?_
  split
  · rename_i hl hd hg
    split <;> rename_i referred
    · exact h
    · refine h.configured x _ _ (cycleOf_range hl) (gateOf_range hg) (fun e => ?_) ?_
      · subst e; exact axisSenseOf_v hd
      · simp only [State.axisReferred, Bool.or_eq_true, not_or] at referred
        simpa using referred.2
  · exact h

theorem presetAxisRequest_sound (h : s.Sound gone) (p : PortId) (axis : Byte) (turn : Half) (position : Word) :
    (presetAxisRequest p axis turn position s).1.Sound gone := by
  refine h.axisRequest p axis _ fun x => ?_
  split <;> rename_i valid
  · exact ((s.modAxis_keeps x _ (fun l => l.preset valid) rfl rfl).trans (State.evaluateAxis_keeps _ x)).sound gone h
  · exact h

theorem armCaptureRequest_sound (h : s.Sound gone) (p : PortId) (axis source edge count : Byte) :
    (armCaptureRequest p axis source edge count s).1.Sound gone := by
  refine h.axisRequest p axis _ fun x => ?_
  split
  · rename_i c e n _ _ hn
    exact (s.modAxis_keeps x (fun a => { a with arming := some { source := c, edge := e, remaining := n } })
      (fun l => l.armed (armCountOf_range hn)) rfl rfl).sound gone h
  · exact h

theorem readCapturesRequest_sound (h : s.Sound gone) (p : PortId) (axis : Byte) : (readCapturesRequest p axis s).1.Sound gone :=
  h.axisRequest p axis _ fun x =>
    (s.modAxis_keeps x (fun a => { a with log := [], lost := 0, lossReported := false }) (fun l => l.readOut) rfl rfl).sound gone h

/-! ### Windows -/

/-- One slot changed without a change of what it drives. -/
theorem State.Sound.setSlot (h : s.Sound gone) (i : Fin 48) (w : Slot) (lawful : w.Lawful)
    (held : w.status ≠ .free → (s.claim (.output w.output)).state = .held) (drives : ∀ o, w.drives o = s.slots[i].drives o) :
    ({ s with slots := s.slots.set i w } : State).Sound gone :=
  h.windowsOp (K := fun _ => True) (n := 0) ⟨rfl⟩ (.of_ports _ _ rfl rfl) (h.windows.setSlot i w lawful held drives)
    (h.commits.congr rfl (fun _ => rfl) fun _ => rfl)

theorem State.freeSlot_free {i : Fin 48} (h : s.freeSlot = some i) : s.slots[i].status = .free := by
  have k := List.find?_some h
  exact of_decide_eq_true k

theorem defineWindowRequest_sound (h : s.Sound gone) (p : PortId) (axis output : Byte) (raw : RawWindow) :
    (defineWindowRequest p axis output raw s).1.Sound gone := by
  unfold defineWindowRequest
  split
  · rename_i x o _ _
    split <;> rename_i holds
    · split
      · exact h
      · split
        · exact h
        · split <;> rename_i room
          · exact h
          · refine h.setSlot _ _ ⟨rfl, rfl, rfl⟩ (fun _ => ((s.holds_iff p _).mp holds).1) fun q => ?_
            rw [Slot.not_drives_of_free (State.freeSlot_free room)]
            rfl
    · exact h
  · exact h

theorem State.namesOwn_iff (s : State) (p : PortId) (i : Fin 48) :
    s.namesOwn p i = true ↔ s.slots[i].status ≠ .free ∧ s.holds p (.output s.slots[i].output) = true := by
  unfold State.namesOwn
  rw [Bool.and_eq_true, decide_eq_true_eq]

theorem editWindowRequest_sound (h : s.Sound gone) (p : PortId) (slot : Byte) (raw : RawWindow) :
    (editWindowRequest p slot raw s).1.Sound gone := by
  unfold editWindowRequest
  split
  · exact h
  · rename_i i _
    split <;> rename_i own
    · split
      · exact h
      · split
        · exact h
        · rename_i w _ _
          obtain ⟨used, holds⟩ := (s.namesOwn_iff p i).mp own
          refine h.setSlot i _ ((h.windows.slots i).1.edited w) (fun _ => ?_) (Slot.edited_drives _ _)
          rw [(Slot.edited_output _ _)]
          exact (h.windows.slots i).2 used
    · exact h

theorem deleteWindowRequest_sound (h : s.Sound gone) (p : PortId) (slot : Byte) :
    (deleteWindowRequest p slot s).1.Sound gone := by
  unfold deleteWindowRequest
  split
  · exact h
  · rename_i i _
    split <;> rename_i own
    · split
      · exact h
      · obtain ⟨used, holds⟩ := (s.namesOwn_iff p i).mp own
        refine h.setSlot i _ (h.windows.slots i).1.deleted (fun k => ?_) (Slot.deleted_drives _)
        rw [Slot.deleted_output k]
        exact (h.windows.slots i).2 used
    · exact h

theorem commitWindowsRequest_sound (h : s.Sound gone) {p : PortId} (isOpen : (s.session p).isOpen = true) (axis timing : Byte) :
    (commitWindowsRequest p axis timing s).1.Sound gone := by
  unfold commitWindowsRequest
  split
  · rename_i x t _ _
    split
    · exact h
    · rename_i linear
      split
      · exact h
      · cases t with
        | now => exact (s.applyCommit_keeps p x .now).sound gone h
        | atRollover =>
          refine (s.setCommit_keeps p x true fun _ => ⟨?_, isOpen⟩).sound gone h
          cases m : (s.axis x).mode with
          | linear => exact absurd ⟨rfl, m⟩ linear
          | rotary => rfl
  · exact h

theorem cancelCommitRequest_sound (h : s.Sound gone) (p : PortId) (axis : Byte) : (cancelCommitRequest p axis s).1.Sound gone := by
  unfold cancelCommitRequest
  split
  · exact h
  · split
    · exact (s.setCommit_keeps p _ false nofun).sound gone h
    · exact h

theorem readWindowRequest_state (slot : Byte) (s : State) : (readWindowRequest slot s).1 = s := by
  unfold readWindowRequest
  split
  · rfl
  · dsimp only
    split <;> rfl

/-! ### The compare pool -/

theorem idAfter_range (n : Nat) : 1 ≤ idAfter n ∧ idAfter n ≤ 255 := by
  unfold idAfter
  split <;> omega

theorem queueCompareRequest_sound (h : s.Sound gone) {p : PortId} (isOpen : (s.session p).isOpen = true) (raw : RawCompare) :
    (queueCompareRequest p raw s).1.Sound gone := by
  unfold queueCompareRequest
  split
  · exact h
  · split
    · split
      · split
        · exact h
        · split <;> rename_i room
          · exact h
          · have small : s.poolSize < 32 := not_le.mp room
            obtain ⟨k, eq, unused, -⟩ := s.findId_first (small.trans (by decide)) h.pool.next_range
            have range := idCandidate_range s.nextCompareId k
            rw [← eq] at unused range
            exact h.poolOp (h.pool.insert _ _ _ small unused range (idAfter_range _) isOpen)
      · exact h
    · exact h

theorem withdrawCompareRequest_sound (h : s.Sound gone) (p : PortId) (id : Byte) : (withdrawCompareRequest p id s).1.Sound gone := by
  unfold withdrawCompareRequest
  split
  · exact (s.removeEntries_keeps _).sound gone h
  · exact h

theorem readComparesRequest_state (axis index : Byte) (s : State) : (readComparesRequest axis index s).1 = s := by
  unfold readComparesRequest
  split
  · rfl
  · split <;> rfl

/-! ### Outputs -/

/-- What an arrival of a request leaves of a channel: the copies of halt and cam level, and a pulse under overlay HIGH. -/
structure Channel.Arrives (f : Channel → Channel) : Prop where
  halt : ∀ c, (f c).halt = c.halt
  cam : ∀ c, (f c).cam = c.cam
  pulse : ∀ c : Channel, (c.pulse.isSome = true → c.overlay = .high) → (f c).pulse.isSome = true → (f c).overlay = .high

theorem State.Sound.outputRequest (h : s.Sound gone) (p : PortId) (output : Byte) (change : Option (Channel → Channel))
    (arrives : ∀ f, change = some f → Channel.Arrives f) : (s.outputRequest p output change).1.Sound gone := by
  unfold State.outputRequest
  split
  · exact h
  · split
    · cases change with
      | none => exact h
      | some f =>
        have a := arrives f rfl
        exact (s.arrive_keeps _ f (a.halt _) (a.cam _) (a.pulse _)).sound gone h
    · exact h

theorem Channel.Arrives.mode (m : OutputMode) : Channel.Arrives fun c => { c with mode := m } :=
  ⟨fun _ => rfl, fun _ => rfl, fun _ k => k⟩
theorem Channel.Arrives.manual (l : Level) : Channel.Arrives fun c => { c with manual := l } :=
  ⟨fun _ => rfl, fun _ => rfl, fun _ k => k⟩
theorem Channel.Arrives.fallback (l : Level) : Channel.Arrives fun c => { c with fallback := l } :=
  ⟨fun _ => rfl, fun _ => rfl, fun _ k => k⟩
theorem Channel.Arrives.outPulse (n : Nat) : Channel.Arrives (Channel.outPulse n) :=
  ⟨fun _ => rfl, fun _ => rfl, fun _ _ _ => rfl⟩
theorem Channel.Arrives.outClear : Channel.Arrives Channel.outClear := ⟨fun _ => rfl, fun _ => rfl, fun _ _ => nofun⟩

theorem readOutputsRequest_sound (h : s.Sound gone) : (readOutputsRequest s).1.Sound gone := by
  rcases readOutputsRequest_cases s with ⟨-, -, e⟩ | ⟨later, -, e⟩ <;> rw [e]
  · exact h
  · exact (State.Keeps.chosen s).sound gone h

/-! ### Generators -/

/-- A holder's generator request keeps what its own part keeps, the claim being HELD. -/
theorem State.Sound.genRequest (h : s.Sound gone) (p : PortId) (gen : Byte) (k : GenId → State × Reply)
    (part : ∀ g, (s.claim (.generator g)).state = .held → (k g).1.Sound gone) : (s.genRequest p gen k).1.Sound gone := by
  unfold State.genRequest
  split
  · exact h
  · split <;> rename_i holds
    · exact part _ ((s.holds_iff p _).mp holds).1
    · exact h

theorem configureGeneratorRequest_sound (h : s.Sound gone) (p : PortId) (gen : Byte) (maxRate : Word) (stopDecel haltDecel : Half)
    (sense : Byte) : (configureGeneratorRequest p gen maxRate stopDecel haltDecel sense s).1.Sound gone := by
  refine h.genRequest p gen _ fun g _ => ?_
  split
  · rename_i m sd hd d _ _ _ _
    split
    · exact (s.modGen_keeps g (fun n => { n with maxRate := m, stopDecel := sd, haltDecel := hd, sense := d })
        (fun _ l => { l with }) rfl).sound gone h
    · exact h
  · exact h

theorem countOf_range {w : Word} {i : Int} (h : countOf w = some i) : -2000000000 ≤ i ∧ i ≤ 2000000000 := by
  unfold countOf at h
  split at h <;> rename_i k
  · cases h; exact (inCountRange_iff _).mp k
  · cases h

theorem setGeneratorPositionRequest_sound (h : s.Sound gone) (p : PortId) (gen : Byte) (value : Word) :
    (setGeneratorPositionRequest p gen value s).1.Sound gone := by
  refine h.genRequest p gen _ fun g _ => ?_
  split
  · exact h
  · rename_i v hv
    split
    · exact (s.modGen_keeps g (fun n => { n with counter := v }) (fun _ l => { l with counter_range := countOf_range hv }) rfl).sound
        gone h
    · exact h

theorem appendMoveRequest_sound (h : s.Sound gone) (p : PortId) (gen : Byte) (raw : RawMove) :
    (appendMoveRequest p gen raw s).1.Sound gone := by
  refine h.genRequest p gen _ fun g held => ?_
  split
  · exact h
  split <;> rename_i halt stopping
  · exact h
  split
  · exact h
  · rename_i r move
    split <;> rename_i room
    · exact h
    · obtain ⟨n, only⟩ := s.append_only g r
      exact h.genOp only fun b fits => fits.append held (by simpa using halt) stopping (not_le.mp room) r (moveOf_homesInRange move)

theorem stopGeneratorRequest_sound (h : s.Sound gone) (p : PortId) (gen mode : Byte) :
    (stopGeneratorRequest p gen mode s).1.Sound gone := by
  refine h.genRequest p gen _ fun g _ => ?_
  split
  · exact (s.rampStop_keeps g).sound gone h
  · exact (s.flush_keeps g).sound gone h
  · exact h

theorem triggerGeneratorRequest_sound (h : s.Sound gone) (p : PortId) (gen : Byte) : (triggerGeneratorRequest p gen s).1.Sound gone := by
  refine h.genRequest p gen _ fun g _ => ?_
  split
  · exact (s.trigger_keeps g .request).sound gone h
  · exact h

theorem readGeneratorRequest_state (gen : Byte) (s : State) : (readGeneratorRequest gen s).1 = s := by
  unfold readGeneratorRequest
  split <;> rfl

theorem readAxisRequest_state (axis : Byte) (s : State) : (readAxisRequest axis s).1 = s := by
  unfold readAxisRequest
  split <;> rfl

/-! ### The owning block's part of a request -/

/-- A request that needs the session passes the common checks with the session open (R148). -/
theorem State.session_open_of_check {p : PortId} {r : Request} (check : s.commonCheck p r = none) (needs : r.needsSession = true) :
    (s.session p).isOpen = true := by
  by_contra closed
  unfold State.commonCheck at check
  split at check
  · cases check
  · cases check
  · rw [if_neg closed, if_pos needs] at check
    cases check

theorem State.Sound.perform (h : s.Sound none) {p : PortId} {r : Request} (check : s.commonCheck p r = none) :
    (s.perform p r).1.Sound none := by
  have isOpen := State.session_open_of_check check
  cases r <;> unfold State.perform <;> dsimp only
  case unknown | badLength | renew | readHalt | readClaims => exact h
  case openSession a b c => exact openSessionRequest_sound h p a b c
  case closeSession => exact closeSessionRequest_sound h (isOpen rfl)
  case readPortStatus => exact readPortStatusRequest_sound h p
  case setSubscriptions u => exact setSubscriptionsRequest_sound h (isOpen rfl) u
  case acknowledgeNotices n => exact acknowledgeNoticesRequest_sound h p n
  case claim r w => exact claimRequest_sound h (isOpen rfl) r w
  case release r => exact releaseRequest_sound h p r
  case cancelWait r => exact cancelWaitRequest_sound h p r
  case configureAxis x m l d g => exact configureAxisRequest_sound h p x m l d g
  case presetAxis x t pos => exact presetAxisRequest_sound h p x t pos
  case readAxis x => rw [readAxisRequest_state]; exact h
  case armCapture x source edge count => exact armCaptureRequest_sound h p x source edge count
  case readCaptures x => exact readCapturesRequest_sound h p x
  case defineWindow x o w => exact defineWindowRequest_sound h p x o w
  case editWindow i w => exact editWindowRequest_sound h p i w
  case deleteWindow i => exact deleteWindowRequest_sound h p i
  case commitWindows x t => exact commitWindowsRequest_sound h (isOpen rfl) x t
  case cancelCommit x => exact cancelCommitRequest_sound h p x
  case readWindow i => rw [readWindowRequest_state]; exact h
  case queueCompare f => exact queueCompareRequest_sound h (isOpen rfl) f
  case withdrawCompare id => exact withdrawCompareRequest_sound h p id
  case readCompares x i => rw [readComparesRequest_state]; exact h
  case setOutputMode o m =>
    exact h.outputRequest p o _ fun f e => by obtain ⟨m, -, rfl⟩ := Option.map_eq_some_iff.mp e; exact .mode m
  case setOutputLevel o l =>
    exact h.outputRequest p o _ fun f e => by obtain ⟨l, -, rfl⟩ := Option.map_eq_some_iff.mp e; exact .manual l
  case setFallback o l =>
    exact h.outputRequest p o _ fun f e => by obtain ⟨l, -, rfl⟩ := Option.map_eq_some_iff.mp e; exact .fallback l
  case pulseOutput o w =>
    exact h.outputRequest p o _ fun f e => by obtain ⟨n, -, rfl⟩ := Option.map_eq_some_iff.mp e; exact .outPulse n
  case clearOverlay o => exact h.outputRequest p o _ fun f e => by cases e; exact .outClear
  case readOutputs => exact readOutputsRequest_sound h
  case configureGenerator g m sd hd d => exact configureGeneratorRequest_sound h p g m sd hd d
  case appendMove g m => exact appendMoveRequest_sound h p g m
  case stopGenerator g m => exact stopGeneratorRequest_sound h p g m
  case triggerGenerator g => exact triggerGeneratorRequest_sound h p g
  case setGeneratorPosition g v => exact setGeneratorPositionRequest_sound h p g v
  case readGenerator g => rw [readGeneratorRequest_state]; exact h
  case clearHalt => exact clearHaltRequest_sound h p

theorem State.Sound.answer (h : s.Sound none) (p : PortId) (r : Request) : (s.answer p r).1.Sound none := by
  unfold State.answer
  split
  · exact h
  · rename_i check
    exact (State.drain_keeps _).sound none (h.perform check)

end Sys2Proof.Machine
end

section
/-! SUPPORT. The laws under the port transport (chapter 11), cold reset and one step, and the settling of the statements
on what every step keeps of the blocks beside the ports' transport and the count events of axis V. -/

namespace Sys2Proof.Machine

variable {s t : State} {gone : Option PortId}

/-! ### A request taken and delivered -/

theorem State.Sound.clearingAt (h : s.Sound gone) (c : Option PortId) : ({ s with clearing := c } : State).Sound gone :=
  h.frame s.vEvents s.vTaking s.choices s.pending s.now c

theorem State.Sound.takeRequest (h : s.Sound none) (p : PortId) (seq : Byte) (r : Request) : (s.takeRequest p seq r).Sound none := by
  have a := (h.answer p r).remember p seq (responseBody r (s.answer p r).2) (closesWith r (s.answer p r).2.status)
  unfold State.takeRequest
  dsimp only
  split
  · exact a.clearingAt _
  · exact a.respond p _

theorem State.Sound.serveHead (h : s.Sound none) (p : PortId) : (s.serveHead p).Sound none := by
  unfold State.serveHead
  split
  · exact h
  · split
    · exact h.respond p _
    · exact h.takeRequest p _ _

/-- A change of a port that leaves its session and its notices. -/
theorem State.Sound.transport (h : s.Sound gone) (p : PortId) (f : Port → Port) (session : ∀ q, (f q).session = q.session)
    (notices : ∀ q, (f q).notices = q.notices) : (s.modPort p f).Sound gone :=
  h.modPort p f (session _) (by rw [notices]; exact h.notices p)

theorem State.Sound.deliver (h : s.Sound none) (p : PortId) (seq : Byte) (r : Request) : (s.deliver p seq r).Sound none := by
  have t := h.restartLease p
  unfold State.deliver
  dsimp only
  split
  · exact (t.transport p (fun q => { q with intake := [{ seq := seq, request := r }] }) (fun _ => rfl) fun _ => rfl).serveHead p
  · exact t.transport p _ (fun _ => rfl) fun _ => rfl
  · exact t.transport p _ (fun _ => rfl) fun _ => rfl

theorem State.Sound.arrival (h : s.Sound none) (p : PortId) (seq : Byte) (r : Request) : (s.arrival p seq r).Sound none := by
  unfold State.arrival
  split
  · exact h
  · exact h.deliver p seq r

/-! ### The receiver -/

theorem State.Sound.judge (h : s.Sound none) (p : PortId) (type seq len : Byte) (body : List Byte) (crc : Half) :
    (s.judge p type seq len body crc).Sound none := by
  unfold State.judge
  split
  · exact h.transport p _ (fun _ => rfl) fun _ => rfl
  · split
    · exact h.transport p _ (fun _ => rfl) fun _ => rfl
    · exact (h.transport p (fun q => q.receiving .hunt) (fun _ => rfl) fun _ => rfl).deliver p _ _

theorem State.Sound.takeByte (h : s.Sound none) (p : PortId) (b : Byte) : (s.takeByte p b).Sound none := by
  have moved (f : Port → Port) (session : ∀ q, (f q).session = q.session) (notices : ∀ q, (f q).notices = q.notices) :=
    h.transport p f session notices
  unfold State.takeByte
  split
  · exact h
  · split
    · split
      · exact moved _ (fun _ => rfl) fun _ => rfl
      · exact h
    · exact moved _ (fun _ => rfl) fun _ => rfl
    · exact moved _ (fun _ => rfl) fun _ => rfl
    · split
      · exact moved _ (fun _ => rfl) fun _ => rfl
      · exact moved _ (fun _ => rfl) fun _ => rfl
    · exact moved _ (fun _ => rfl) fun _ => rfl
    · exact moved _ (fun _ => rfl) fun _ => rfl
    · exact h.judge p _ _ _ _ _

theorem State.Sound.completeFrame (h : s.Sound none) (p : PortId) (b : Byte) : (s.completeFrame p b).Sound none := by
  unfold State.completeFrame
  split
  · exact h
  · split
    · exact h.judge p _ _ _ _ _
    all_goals exact h

theorem State.Sound.gap (h : s.Sound gone) (p : PortId) : (s.gap p).Sound gone := by
  unfold State.gap
  split
  · exact h
  · exact h.transport p _ (fun _ => rfl) fun _ => rfl

/-! ### Breaks and frame ends -/

theorem State.Sound.breakLink (h : s.Sound none) (p : PortId) : (s.breakLink p).Sound none := by
  have broken := (h.clearingAt (if s.clearing = some p then none else s.clearing)).transport p Port.broken (fun _ => rfl) fun _ => rfl
  unfold State.breakLink
  split
  · exact h
  · dsimp only
    split
    · exact broken.endSession p _
    · exact broken

theorem State.Sound.idleTx (h : s.Sound gone) (p : PortId) : (s.idleTx p).Sound gone :=
  h.transport p _ (fun _ => rfl) fun _ => rfl

theorem State.Sound.serveHeld (h : s.Sound none) (p : PortId) : (s.serveHeld p).Sound none := by
  have chosen : State.Sound none { s with choices := s.choices + 1 } := (State.Keeps.chosen s).sound none h
  unfold State.serveHeld
  rcases State.eitherWay_cases s (fun t => ((t.idleTx p).startNext p).serveHead p)
    (fun t => ((t.serveHead p).idleTx p).startNext p) with ⟨-, e⟩ | e | e <;> rw [e]
  · exact ((h.idleTx p).startNext p).serveHead p
  · exact ((chosen.idleTx p).startNext p).serveHead p
  · exact ((chosen.serveHead p).idleTx p).startNext p

theorem State.Sound.responseEnds (h : s.Sound none) (p : PortId) (closes : Bool) : (s.responseEnds p closes).Sound none := by
  have t := h.transport p (fun q => { q with intake := q.intake.tail }) (fun _ => rfl) fun _ => rfl
  unfold State.responseEnds
  dsimp only
  split
  · refine State.Sound.serveHead ?_ p
    split
    · exact (t.idleTx p).endSession p _
    · exact t.idleTx p
  · split
    · exact (t.idleTx p).startNext p
    · exact t.serveHeld p

theorem State.Sound.frameEnds (h : s.Sound none) (p : PortId) : (s.frameEnds p).Sound none := by
  unfold State.frameEnds
  split
  · exact h
  · split
    · exact h.responseEnds p _
    · exact (h.idleTx p).startNext p
    · exact (h.idleTx p).startNext p

theorem State.Sound.resendExpires (h : s.Sound gone) (p : PortId) : (s.resendExpires p).Sound gone := by
  unfold State.resendExpires
  split
  · exact h
  · split
    · exact (h.modPort p _ rfl ((h.notices p).resend)).offer p
    · exact h

/-! ### Cold reset -/

theorem Axis.cold_lawful : Axis.cold.Lawful := Axis.lawful_of_check (by decide)

theorem Channel.cold_lawful (b : Bool) : (Channel.cold b).Lawful b := ⟨rfl, by cases b <;> rfl, nofun⟩

theorem Generator.cold_lawful (b : Bool) : (Generator.cold b).Lawful b := by
  cases b <;> constructor <;> simp [Generator.cold, GenState.atRest]

theorem Port.cold_linkLawful (rate : LineRate) : (Port.cold rate).LinkLawful false :=
  ⟨by simp [Port.cold], nofun, nofun, fun _ k => absurd rfl k, fun _ => ⟨rfl, nofun⟩, by simp [Port.cold, Faults.zero]⟩

theorem State.restart_slots (s : State) (lines : InputLines) (straps : PerPort Straps) (i : Fin 48) :
    (s.restart lines straps).slots[i] = Slot.free := Vector.getElem_replicate _

theorem State.restart_camLevels (s : State) (lines : InputLines) (straps : PerPort Straps) (o : OutputId) :
    (s.restart lines straps).camLevels[o] = false := Vector.getElem_replicate _

theorem State.restart_hasCommit (s : State) (lines : InputLines) (straps : PerPort Straps) (p : PortId) (x : AxisId) :
    (s.restart lines straps).hasCommit p x = false := by cases p <;> cases x <;> rfl

theorem State.restart_halt (s : State) (lines : InputLines) (straps : PerPort Straps) :
    (s.restart lines straps).halt = if lines.haltAsserted then .active else .clear := rfl

theorem State.restart_inForceAt (s : State) (lines : InputLines) (straps : PerPort Straps) (r : HaltReceiver) :
    (s.restart lines straps).inForceAt r = lines.haltAsserted := by
  rw [State.inForceAt_nil rfl, State.restart_halt]
  cases lines.haltAsserted <;> rfl

theorem State.restart_camOf (s : State) (lines : InputLines) (straps : PerPort Straps) (o : OutputId) :
    (s.restart lines straps).camOf o = false := by
  rw [← Bool.not_eq_true, State.camOf_iff]
  rintro ⟨i, drives⟩
  rw [State.restart_slots, Slot.not_drives_of_free rfl] at drives
  cases drives

/-- Cold reset leaves every block lawful (R161). -/
theorem State.restart_lawful (s : State) (lines : InputLines) (straps : PerPort Straps) : (s.restart lines straps).Lawful where
  axes := ⟨fun x => by rw [State.restart_axis]; exact Axis.cold_lawful, by rw [State.restart_axis]; rfl⟩
  channels := fun o => by rw [State.restart_channel, State.restart_inForceAt]; exact Channel.cold_lawful _
  halt := by
    unfold State.HaltLawful
    rw [State.restart_halt]
    change _ ↔ lines.haltAsserted = true
    cases lines.haltAsserted <;> simp
  handOver := ⟨List.nodup_nil, fun k => absurd rfl k, nofun⟩
  cam := fun o => by rw [State.restart_camLevels, State.restart_camOf, State.restart_channel]; exact ⟨rfl, rfl⟩
  slots := fun i => by rw [State.restart_slots]; exact ⟨Slot.free_lawful, fun k => absurd rfl k⟩
  commits := fun p x k => by rw [State.restart_hasCommit] at k; cases k
  pool := by
    have empty (x : AxisId) (e : CompareEntry) (m : e ∈ (s.restart lines straps).compareList x) : False := by
      rw [State.restart_compareList] at m; cases m
    exact ⟨Nat.zero_le 32, fun x => by rw [State.restart_compareList]; exact .nil, List.nodup_nil, fun x e m => (empty x e m).elim,
      ⟨le_refl 1, Nat.le_of_ble_eq_true rfl⟩, fun x e m => (empty x e m).elim⟩
  gens := ⟨fun g => by rw [State.restart_gen, State.restart_inForceAt]; exact Generator.cold_lawful _,
    fun g _ => by rw [State.restart_gen]; cases lines.haltAsserted <;> rfl,
    fun g k => by rw [State.restart_claim] at k; cases k⟩
  claims := ⟨fun r => by rw [State.restart_claim]; exact Claim.free_lawful r, fun r p k => by (rw [State.restart_claim] at k; cases k),
    fun r p k => by rw [State.restart_claim] at k; cases k⟩
  sessions := ⟨fun p => by rw [State.restart_session]; exact Session.closed_lawful,
    fun p q k => by rw [State.restart_session] at k; cases k⟩
  notices := fun p => by rw [State.restart_port]; exact NoticeQueue.fresh_lawful
  links := fun p => by rw [State.restart_port]; exact Port.cold_linkLawful _
  settled := ⟨rfl, rfl, fun g => by rw [State.restart_gen]; rfl⟩

/-- Settles O6: COLD_RESET restarts every block at a lawful record, and the state after reset is such a restart. -/
theorem coldResetIsLawful : Obligations.ColdResetIsLawful := by
  refine ⟨State.restart_lawful State.reset InputLines.quiet Straps.allLow, fun lines straps s t e => ?_⟩
  cases e
  exact s.restart_lawful lines straps

/-! ### One step -/

/-- What a command comes to: the arrival of a request, an event of a field line or a clock, cold reset, or one of the events
of a port's line and transmitter. -/
theorem exec_cases (s : State) {motive : Instr → State → Prop}
    (request : ∀ c p seq r, c.asRequest = some (p, seq, r) → motive c (s.arrival p seq r))
    (field : ∀ c event, fieldEvent c = some event → motive c (event s))
    (reset : ∀ lines straps, motive (.coldReset lines straps) (s.restart lines straps))
    (complete : ∀ p b, motive (.frameComplete p b) (s.completeFrame p b)) (gap : ∀ p, motive (.gapAbort p) (s.gap p))
    (broken : ∀ p, motive (.linkBreak p) (s.breakLink p)) (ends : ∀ p, motive (.frameEnd p) (s.frameEnds p))
    (resend : ∀ p, motive (.resendTimerExpiry p) (s.resendExpires p)) (byte : ∀ p b, motive (.byteTaken p b) (s.takeByte p b))
    (mark : ∀ p, motive (.lineReturnsToMark p) (s.backToMark p)) (c : Instr) : ∃ t, exec c s = .next t ∧ motive c t := by
  cases k : fieldEvent c with
  | some event => exact ⟨_, Instr.exec_fieldEvent k s, field c event k⟩
  | none =>
    cases r : c.asRequest with
    | some request' =>
      obtain ⟨p, seq, r'⟩ := request'
      exact ⟨_, Instr.exec_asRequest r s, request c p seq r' r⟩
    | none =>
      cases c
      case coldReset lines straps => exact ⟨_, rfl, reset lines straps⟩
      case frameComplete p b => exact ⟨_, rfl, complete p b⟩
      case gapAbort p => exact ⟨_, rfl, gap p⟩
      case linkBreak p => exact ⟨_, rfl, broken p⟩
      case frameEnd p => exact ⟨_, rfl, ends p⟩
      case resendTimerExpiry p => exact ⟨_, rfl, resend p⟩
      case byteTaken p b => exact ⟨_, rfl, byte p b⟩
      case lineReturnsToMark p => exact ⟨_, rfl, mark p⟩
      all_goals simp only [fieldEvent, Instr.asRequest, reduceCtorEq] at k r

/-- A command keeps the laws beside the transport and the count events of axis V. -/
theorem State.Sound.exec (h : s.Sound none) {c : Instr} (e : Machine.exec c s = .next t) : t.Sound none := by
  obtain ⟨u, eu, sound⟩ := exec_cases s (motive := fun _ t => t.Sound none) (fun _ p seq r _ => h.arrival p seq r)
    (fun _ _ k => h.fieldEvent k) (fun lines straps => (s.restart_lawful lines straps).sound) h.completeFrame h.gap h.breakLink
    h.frameEnds h.resendExpires h.takeByte (fun p => h.transport p _ (fun _ => rfl) fun _ => rfl) c
  rw [eu] at e
  cases e
  exact sound

theorem State.Sound.step (h : s.Sound none) (e : Machine.step s = .next t) : t.Sound none := by
  unfold Machine.step at e
  split at e
  · cases e; exact h.continueHandOver
  · rename_i c rest _
    exact State.Sound.exec (h.frame s.vEvents s.vTaking s.choices rest s.now s.clearing) e

/-- Settles O7: the axes' laws are among those that every step keeps. -/
theorem everyStepKeepsAxisRanges : Obligations.EveryStepKeepsAxisRanges := fun _ _ h e => (h.sound.step e).axes

/-- Settles O9: the laws of the slots, the pending commits and the cam levels are among those that every step keeps. -/
theorem everyStepKeepsWindowsAndCamLevels : Obligations.EveryStepKeepsWindowsAndCamLevels := fun _ _ h e =>
  have sound := h.sound.step e
  ⟨sound.windows.slots, sound.commits, sound.windows.cam⟩

/-- Settles O10: the law of the compare pool is among those that every step keeps. -/
theorem everyStepKeepsComparePool : Obligations.EveryStepKeepsComparePool := fun _ _ h e => (h.sound.step e).pool

/-- Settles O11: the law of the claim table is among those that every step keeps. -/
theorem everyStepKeepsClaims : Obligations.EveryStepKeepsClaims := fun _ _ h e => (h.sound.step e).claimsLawful

/-- Settles O12: the law of the session records is among those that every step keeps. -/
theorem everyStepKeepsSessions : Obligations.EveryStepKeepsSessions := fun _ _ h e => (h.sound.step e).sessions

/-- Settles O13: the law of the notice queues is among those that every step keeps. -/
theorem everyStepKeepsNoticeQueues : Obligations.EveryStepKeepsNoticeQueues := fun _ _ h e => (h.sound.step e).notices

end Sys2Proof.Machine
end

section
/-! SUPPORT. The law of the ports' transport (R180, R181, R184) under every command, with the Clear Halt that waits for a
hand-over (R129), and the settling of the statements on the links and on the output levels. -/

namespace Sys2Proof.Machine

variable {s t u : State}

/-! ### What leaves a port's transport as it is -/

/-- The fault counters within 16 bits (R178). -/
def Faults.InRange (f : Faults) : Prop :=
  f.gapAbort ≤ 65535 ∧ f.length ≤ 65535 ∧ f.crc ≤ 65535 ∧ f.foreign ≤ 65535 ∧ f.overrun ≤ 65535

theorem Faults.zero_inRange : Faults.zero.InRange := by simp [Faults.InRange, Faults.zero]

/-- A port of which the transport stands: its requests and the response that waits, its faults within 16 bits, and its
transmitter but for a notice that an idle one has started. -/
structure Port.Steady (q r : Port) : Prop where
  intake : r.intake = q.intake
  waiting : r.waiting = q.waiting
  faults : q.faults.InRange → r.faults.InRange
  tx : r.tx = q.tx ∨ q.tx = none ∧ q.waiting = none ∧ ∃ f, r.tx = some f ∧ f.answersHead = false

theorem Port.Steady.refl (q : Port) : q.Steady q := ⟨rfl, rfl, id, .inl rfl⟩

theorem Port.Steady.trans {q r x : Port} (h : q.Steady r) (k : r.Steady x) : q.Steady x := by
  refine ⟨k.intake.trans h.intake, k.waiting.trans h.waiting, k.faults ∘ h.faults, ?_⟩
  · rcases k.tx with e | ⟨idle, wait, f⟩
    · rw [e]; exact h.tx
    · rcases h.tx with e | ⟨idle', wait', -⟩
      · exact .inr ⟨e ▸ idle, h.waiting ▸ wait, f⟩
      · exact .inr ⟨idle', wait', f⟩

theorem Port.Told.steady {K : NoticeKind → Prop} {now : Word} {n : Nat} {q r : Port} (h : Port.Told K now n q r) : q.Steady r :=
  ⟨h.intake, h.waiting, fun k => h.faults.symm ▸ k, h.tx.imp id fun ⟨e, w, _, f⟩ => ⟨e, w, _, f, rfl⟩⟩

/-- Two states between which every transport stands, and the Clear Halt that waits. -/
structure State.Steady (s t : State) : Prop where
  port : ∀ p, (s.port p).Steady (t.port p)
  clearing : t.clearing = s.clearing

/-- The same, with the halt state and its hand-over. -/
structure State.Quiet (s t : State) : Prop extends State.Steady s t where
  halt : t.halt = s.halt
  handing : t.handing = s.handing

theorem State.Steady.refl (s : State) : s.Steady s := ⟨fun _ => .refl _, rfl⟩
theorem State.Steady.trans (h : s.Steady t) (k : t.Steady u) : s.Steady u :=
  ⟨fun p => (h.port p).trans (k.port p), k.clearing.trans h.clearing⟩
theorem State.Quiet.refl (s : State) : s.Quiet s := ⟨.refl s, rfl, rfl⟩
theorem State.Quiet.trans (h : s.Quiet t) (k : t.Quiet u) : s.Quiet u :=
  ⟨h.toSteady.trans k.toSteady, k.halt.trans h.halt, k.handing.trans h.handing⟩

theorem State.Told.steady {K : NoticeKind → Prop} {n : Nat} (h : State.Told K n s t) (c : t.clearing = s.clearing) : s.Steady t :=
  ⟨fun p => (h.port p).steady, c⟩

theorem State.Steady.of_ports (ports : t.ports = s.ports) (c : t.clearing = s.clearing) : s.Steady t :=
  ⟨fun p => by rw [State.port_congr ports]; exact .refl _, c⟩

theorem State.Keeps.quiet (h : s.Keeps t) : s.Quiet t := by
  obtain ⟨n, told⟩ := h.told
  exact ⟨told.steady h.reach.clearing, h.reach.halt, h.reach.handing⟩

theorem GenOnly.quiet {g : GenId} {n : Nat} (h : GenOnly g n s t) : s.Quiet t :=
  ⟨h.told.steady h.move.clearing, h.move.halt, h.move.handing⟩

theorem State.modPort_quiet (s : State) (p : PortId) (f : Port → Port) (h : (s.port p).Steady (f (s.port p))) :
    s.Quiet (s.modPort p f) := by
  refine ⟨⟨fun q => ?_, rfl⟩, rfl, rfl⟩
  rw [State.modPort_port]
  split
  · rename_i e; rw [e]; exact h
  · exact .refl _

theorem Port.offer_steady (q : Port) (now : Word) : q.Steady (q.offer now) := by
  refine ⟨by rw [Port.offer_keeps], by rw [Port.offer_keeps], fun k => by rw [Port.offer_keeps]; exact k, ?_⟩
  exact (Port.offer_tx q now).imp id fun ⟨e, w, m, f⟩ => ⟨e, w, _, f, rfl⟩

theorem State.offer_quiet (s : State) (p : PortId) : s.Quiet (s.offer p) := s.modPort_quiet p _ (Port.offer_steady _ _)

theorem State.handOver_quiet (s : State) (r : Resource) (station : Nat) (cause : ClaimCause) :
    s.Quiet (s.handOver r station cause) := by
  have reach := s.handOver_reach r station cause
  have told := s.handOver_told (K := fun _ => True) r station cause trivial trivial
  exact ⟨told.steady reach.clearing, reach.halt, reach.handing⟩

/-! ### The end of a session -/

theorem State.sessionGone_quiet (s : State) (p : PortId) (cause : SessionCause) : s.Quiet (s.sessionGone p cause) := by
  have eq := s.sessionGone_reach p cause
  have ended := s.modPort_quiet p Port.ended ⟨rfl, rfl, id, .inl rfl⟩
  refine ⟨ended.toSteady.trans ((s.sessionGone_told p cause).steady ?_), by rw [eq], by rw [eq]⟩
  rw [eq]
  rfl

theorem State.loseOwner_quiet (s : State) (g : GenId) (station : Nat) : s.Quiet (s.loseOwner g station) := by
  obtain ⟨n, only⟩ := State.rampStop_only (s.setClaim (.generator g)
    { state := .releasing, owner := none, former := station, waiters := (s.claim (.generator g)).waiters }) g
  unfold State.loseOwner
  exact State.Quiet.trans (t := s.setClaim _ _) ⟨.of_ports rfl rfl, rfl, rfl⟩ only.quiet

theorem State.endClaim_quiet (s : State) (p : PortId) (station : Nat) (r : Resource) : s.Quiet (State.endClaim p station s r) := by
  have passed (r : Resource) : s.Quiet (s.passOn r station) := (s.cleanup_keeps r).quiet.trans (State.handOver_quiet _ _ _ _)
  unfold State.endClaim
  split
  · split
    · exact passed _
    · exact passed _
    · split
      · exact passed _
      · exact State.loseOwner_quiet s _ station
  · exact .refl s

theorem State.endSession_quiet (s : State) (p : PortId) (cause : SessionCause) : s.Quiet (s.endSession p cause) := by
  rw [State.endSession_eq]
  refine (s.sessionGone_quiet p cause).trans ?_
  generalize s.sessionGone p cause = t
  generalize s.station p = station
  induction allResources generalizing t with
  | nil => exact .refl t
  | cons r l ih => exact (t.endClaim_quiet p station r).trans (ih _)

/-! ### The parts of a halt change -/

theorem takeParts_steady (parts : List (Bool × (State → State))) (h : ∀ f ∈ parts, ∀ t, State.Steady t (f.2 t)) (s : State) :
    s.Steady (takeParts parts s) :=
  takeParts_keeps State.Steady .refl (fun _ _ _ h k => h.trans k) (fun _ => .of_ports rfl rfl) parts h s

theorem State.haltParts_steady (u : State) (receivers : List HaltReceiver) (inForce : Bool) :
    ∀ f ∈ u.haltParts receivers inForce, ∀ t, State.Steady t (f.2 t) := by
  intro f hf t
  obtain ⟨g, -, rfl⟩ := List.mem_map.mp hf
  obtain ⟨n, only⟩ := t.haltPart_only g inForce
  exact only.quiet.toSteady

theorem State.handOnTaken_steady (s : State) (late : List HaltReceiver) : s.Steady (s.handOnTaken late) :=
  State.Steady.trans (t := s.handOnChannels late) (.of_ports rfl rfl) (takeParts_steady _ (State.haltParts_steady _ _ _) _)

theorem State.haltChange_steady (s : State) (new : HaltState) (cause : HaltCause) (station : Nat) :
    s.Steady (s.haltChange new cause station) := by
  have posted (u : State) : u.Steady (u.broadcast (fun w => w.haltChanged) (.haltChanged new s.halt cause station)) :=
    (u.broadcast_keeps _ _).quiet.toSteady
  rw [State.haltChange_eq]
  split
  · exact State.Steady.trans (t := { s with halt := new }) (.of_ports rfl rfl) (posted _)
  · refine State.Steady.trans (t := s.changeChannels new) (.of_ports rfl rfl) (takeParts_steady _ (fun f hf t => ?_) _)
    rcases List.mem_cons.mp hf with rfl | hf
    · exact posted t
    · exact State.haltParts_steady _ _ _ f hf t

/-! ### The law of the transports with some heads unanswered -/

/-- A port as it is seen once the frame in transmission is taken as ended in effect, its intake slot freed (R181, log 6). -/
def Port.seen (held : Bool) (q : Port) : Port :=
  if held then { q with tx := q.tx.map fun f => { f with kind := .orphan } } else q

/-- The law of the transports, where the head of a port that `awaits` has no response yet, and the response in transmission on
a port that is `held` is that of a slot already freed. -/
structure State.Wired (awaits held : PortId → Bool) (s : State) : Prop where
  link : ∀ p, ((s.port p).seen (held p)).LinkLawful (awaits p)
  busy : ∀ p, held p = true → (s.port p).tx.isSome = true

variable {awaits held : PortId → Bool}

theorem Port.Steady.linkLawful {b : Bool} {q r : Port} (h : q.Steady r) (l : q.LinkLawful b) : r.LinkLawful b :=
  Port.LinkLawful.of_tx (q := { q with faults := r.faults }) { l with faults_range := h.faults l.faults_range } h.intake h.waiting rfl
    h.tx

theorem Port.Steady.busy {q r : Port} (h : q.Steady r) (b : q.tx.isSome = true) : r.tx = q.tx := by
  rcases h.tx with e | ⟨idle, -⟩
  · exact e
  · rw [idle] at b; cases b

theorem Port.Steady.seen {q r : Port} (h : q.Steady r) (b : Bool) (busy : b = true → q.tx.isSome = true) :
    (q.seen b).Steady (r.seen b) := by
  cases b with
  | false => exact h
  | true => exact ⟨h.intake, h.waiting, h.faults, .inl (by simp [Port.seen, h.busy (busy rfl)])⟩

theorem State.Wired.steady (h : s.Wired awaits held) (k : s.Steady t) : t.Wired awaits held :=
  ⟨fun p => ((k.port p).seen _ (h.busy p)).linkLawful (h.link p), fun p b => by rw [(k.port p).busy (h.busy p b)]; exact h.busy p b⟩

/-- A response handed to the transmitter of a port whose head has none yet (R181, R184). -/
theorem Port.LinkLawful.handed {b : Bool} {q : Port} (h : (q.seen b).LinkLawful true) (head : q.intake ≠ [])
    (busy : b = true → q.tx.isSome = true) (seq : Byte) (body : List Byte) (closes : Bool) :
    ((q.handed seq body closes).seen b).LinkLawful false := by
  obtain ⟨none, quiet⟩ := h.not_yet rfl
  unfold Port.handed
  cases tx : q.tx with
  | none =>
    have free : b = false := by
      cases b
      · rfl
      · have := busy rfl; rw [tx] at this; cases this
    subst free
    have waiting : q.waiting = Option.none := none
    exact ⟨h.intake_places, fun k => by simp [Port.seen, waiting] at k, nofun, fun _ _ => .inr ⟨_, rfl, rfl⟩,
      fun e => absurd e head, h.faults_range⟩
  | some f =>
    cases b
    · exact ⟨h.intake_places, fun _ => ⟨f, rfl, quiet f tx⟩, nofun, fun _ _ => .inl rfl, fun e => absurd e head, h.faults_range⟩
    · exact ⟨h.intake_places, fun _ => ⟨{ f with kind := .orphan }, rfl, rfl⟩, nofun, fun _ _ => .inl rfl, fun e => absurd e head,
        h.faults_range⟩

theorem Port.handed_busy {q : Port} (h : q.tx.isSome = true) (seq : Byte) (body : List Byte) (closes : Bool) :
    (q.handed seq body closes).tx = q.tx := by
  obtain ⟨f, e⟩ := Option.isSome_iff_exists.mp h
  simp [Port.handed, e]

theorem State.Wired.respond (h : s.Wired awaits held) {p : PortId} (unanswered : awaits p = true) (head : (s.port p).intake ≠ [])
    (r : Response) : (s.respond p r).Wired (fun q => if q = p then false else awaits q) held := by
  rw [State.respond_handed]
  refine ⟨fun q => ?_, fun q b => ?_⟩ <;> rw [State.modPort_port] <;> split
  · rename_i e
    subst q
    have l := h.link p
    rw [unanswered] at l
    exact l.handed head (h.busy p) _ _ _
  · exact h.link q
  · rename_i e
    subst q
    rw [Port.handed_busy (h.busy p b)]
    exact h.busy p b
  · exact h.busy q b

/-! ### The Clear Halt that waits -/

/-- The law of the transports with the Clear Halt that waits; a request in hand at `served` has no response yet. -/
structure State.Linked (served : PortId → Bool) (held : PortId → Bool) (s : State) : Prop where
  wired : s.Wired (fun p => decide (s.clearing = some p) || served p) held
  head : ∀ p, s.clearing = some p → served p = false ∧ ∃ h rest, (s.port p).intake = h :: rest ∧ h.request = .clearHalt

/-- A Clear Halt waits for a hand-over of the halt state CLEAR (R129). -/
def State.Waits (s : State) : Prop := ∀ p, s.clearing = some p → s.halt = .clear ∧ s.handing ≠ []

variable {served : PortId → Bool}

theorem State.Linked.steady (h : s.Linked served held) (k : s.Steady t) : t.Linked served held :=
  ⟨by rw [k.clearing]; exact h.wired.steady k, fun p c => by
    rw [k.clearing] at c
    rw [(k.port p).intake]
    exact h.head p c⟩

theorem State.Waits.quiet (h : s.Waits) (k : s.Quiet t) : t.Waits := fun p c => by
  rw [k.halt, k.handing]
  exact h p (k.clearing ▸ c)

theorem State.Waits.no_clearing (h : s.Waits) (e : s.handing = []) : s.clearing = none := by
  cases c : s.clearing with
  | none => rfl
  | some p => exact absurd e (h p c).2

/-- The two together, between the parts of a command. -/
structure State.Served (served held : PortId → Bool) (s : State) : Prop where
  linked : s.Linked served held
  waits : s.Waits

theorem State.Served.quiet (h : s.Served served held) (k : s.Quiet t) : t.Served served held :=
  ⟨h.linked.steady k.toSteady, h.waits.quiet k⟩

/-- No head is unanswered but that of a Clear Halt that waits, and no slot is freed ahead of its frame. -/
def State.LinkSound (s : State) : Prop := s.Served (fun _ => false) (fun _ => false)

theorem State.Lawful.linkSound (h : s.Lawful) : s.LinkSound := by
  refine ⟨⟨⟨fun p => ?_, nofun⟩, fun p c => ⟨rfl, (h.handOver.clear_waits p c).2.2⟩⟩,
    fun p c => ⟨(h.handOver.clear_waits p c).1, (h.handOver.clear_waits p c).2.1⟩⟩
  rw [Bool.or_false]
  exact h.links p

theorem State.LinkSound.linksLawful (h : s.LinkSound) : s.LinksLawful := fun p => by
  have l := h.linked.wired.link p
  rw [Bool.or_false] at l
  exact l

/-! ### The hand-over of a halt change -/

theorem State.Linked.answerClear (h : s.Linked served held) : s.answerClear.Linked served held := by
  unfold State.answerClear
  split <;> rename_i c
  · exact h
  · rename_i p
    obtain ⟨unserved, k, rest, intake, -⟩ := h.head p c
    split
    · rename_i i; rw [i] at intake; cases intake
    · rename_i first _ i
      have wired : ({ s with clearing := none } : State).Wired (fun q => decide (s.clearing = some q) || served q) held :=
        ⟨h.wired.link, h.wired.busy⟩
      have head : (State.port { s with clearing := none } p).intake ≠ [] := by
        change (s.port p).intake ≠ []
        rw [i]
        exact List.cons_ne_nil _ _
      have answered := wired.respond (by simp [c]) head
        { seq := first.seq, body := [0x71, Status.done.code, HaltState.code .clear], closes := false }
      refine ⟨?_, nofun⟩
      have same : (fun q => if q = p then false else decide (s.clearing = some q) || served q) =
          fun q => decide ((none : Option PortId) = some q) || served q := by
        funext q
        by_cases e : q = p
        · subst q; simp [unserved]
        · have other : s.clearing ≠ some q := fun k => e (by rw [c] at k; cases k; rfl)
          simp [e, other]
      rw [same] at answered
      exact answered

theorem State.handOn_clearing (s : State) (late : List HaltReceiver) :
    (s.handOn late).clearing = if s.laterOf late = [] then none else s.clearing := by
  rw [State.handOn_eq, State.handOnTaken_handing]
  split
  · exact State.answerClear_clearing _
  · exact State.handOnTaken_clearing _ _

theorem State.answerClear_halt (s : State) : s.answerClear.halt = s.halt := by
  have e := congrArg State.halt s.answerClear_reach.eq
  exact e

theorem State.Served.handOn (h : s.Served served held) (late : List HaltReceiver) : (s.handOn late).Served served held := by
  have taken := h.linked.steady (s.handOnTaken_steady late)
  refine ⟨?_, fun p c => ?_⟩
  · rw [State.handOn_eq]
    split
    · exact taken.answerClear
    · exact taken
  · rw [State.handOn_clearing] at c
    split at c <;> rename_i left
    · cases c
    · rw [State.handOn_handing]
      refine ⟨?_, left⟩
      have halt := congrArg State.halt (s.handOn_reach late).eq
      exact halt.trans (h.waits p c).1

theorem State.Served.completeHandOver (h : s.Served served held) : s.completeHandOver.Served served held := by
  unfold State.completeHandOver
  split
  · exact h
  · exact h.handOn []

theorem State.Served.continueHandOver (h : s.Served served held) : s.continueHandOver.Served served held := by
  unfold State.continueHandOver
  split
  · exact h
  · exact State.Served.handOn (h.quiet (t := s.choose) ⟨.of_ports rfl rfl, rfl, rfl⟩) _

theorem State.Served.haltChange (h : s.Served served held) (empty : s.handing = []) (new : HaltState) (cause : HaltCause) (station : Nat) :
    (s.haltChange new cause station).Served served held := by
  have k := s.haltChange_steady new cause station
  refine ⟨h.linked.steady k, fun p c => ?_⟩
  rw [k.clearing, h.waits.no_clearing empty] at c
  cases c

theorem State.Served.lines (h : s.Served served held) (l : InputLines) : ({ s with lines := l } : State).Served served held :=
  h.quiet ⟨.of_ports rfl rfl, rfl, rfl⟩

theorem State.Served.haltAsserted (h : s.Served served held) : s.haltAsserted.Served served held := by
  have changed := (h.completeHandOver.lines { s.completeHandOver.lines with haltAsserted := true }).haltChange
    s.completeHandOver_handing .active .lineAsserted 0
  unfold State.haltAsserted
  split
  · exact changed
  · exact changed
  · exact h

theorem State.Served.haltReleased (h : s.Served served held) : s.haltReleased.Served served held := by
  have changed := (h.completeHandOver.lines { s.completeHandOver.lines with haltAsserted := false }).haltChange
    s.completeHandOver_handing .latched .lineReleased 0
  unfold State.haltReleased
  split
  · exact changed
  · exact h
  · exact h

theorem clearHaltRequest_served (h : s.Served served held) (p : PortId) : (clearHaltRequest p s).1.Served served held := by
  unfold clearHaltRequest
  dsimp only
  split
  · exact h.completeHandOver
  · exact h.completeHandOver.haltChange s.completeHandOver_handing _ _ _
  · exact h.completeHandOver

/-- After a Clear Halt no earlier one waits, and where its own change is being handed on the halt state is CLEAR. -/
theorem clearHaltRequest_clearing (h : s.Waits) (p : PortId) :
    (clearHaltRequest p s).1.clearing = none ∧ ((clearHaltRequest p s).1.handing ≠ [] → (clearHaltRequest p s).1.halt = .clear) := by
  have none : s.completeHandOver.clearing = none := by
    unfold State.completeHandOver
    split <;> rename_i e
    · exact h.no_clearing e
    · rw [State.handOn_clearing, State.laterOf_nil]; rfl
  unfold clearHaltRequest
  dsimp only
  split
  · exact ⟨none, fun k => absurd s.completeHandOver_handing k⟩
  · refine ⟨(s.completeHandOver.haltChange_steady _ _ _).clearing.trans none, fun _ => ?_⟩
    have e := congrArg State.halt (s.completeHandOver.haltChange_reach .clear .cleared (s.completeHandOver.station p)).eq
    exact e
  · exact ⟨none, fun k => absurd s.completeHandOver_handing k⟩

end Sys2Proof.Machine
end

section
/-! SUPPORT. The ports' transport under requests, frames and breaks, and the settling of the statements on the links and on
the output levels. -/

namespace Sys2Proof.Machine

variable {s t u : State} {served held : PortId → Bool}

/-! ### The requests leave the transports as they are -/

theorem State.Quiet.of_ports (ports : t.ports = s.ports) (clearing : t.clearing = s.clearing) (halt : t.halt = s.halt)
    (handing : t.handing = s.handing) : s.Quiet t := ⟨.of_ports ports clearing, halt, handing⟩

theorem State.modSession_quiet (s : State) (p : PortId) (f : Session → Session) : s.Quiet (s.modSession p f) :=
  s.modPort_quiet p _ ⟨rfl, rfl, id, .inl rfl⟩

theorem openSessionRequest_quiet (p : PortId) (station : Byte) (lease : Half) (subs : Byte) (s : State) :
    s.Quiet (openSessionRequest p station lease subs s).1 := by
  unfold openSessionRequest
  split
  · split
    · exact .refl s
    · exact s.modPort_quiet p (fun q => q.opened _ _ _) ⟨rfl, rfl, id, .inl rfl⟩
  · exact .refl s

theorem setSubscriptionsRequest_quiet (p : PortId) (subs : Byte) (s : State) : s.Quiet (setSubscriptionsRequest p subs s).1 := by
  unfold setSubscriptionsRequest
  split
  · exact .refl s
  · exact s.modSession_quiet p fun x => { x with subs := _ }

theorem readPortStatusRequest_quiet (p : PortId) (s : State) : s.Quiet (readPortStatusRequest p s).1 :=
  s.modPort_quiet p (fun q => { q with faults := Faults.zero }) ⟨rfl, rfl, fun _ => Faults.zero_inRange, .inl rfl⟩

theorem acknowledgeNoticesRequest_quiet (p : PortId) (number : Half) (s : State) :
    s.Quiet (acknowledgeNoticesRequest p number s).1 := by
  unfold acknowledgeNoticesRequest
  dsimp only
  split
  · split
    · exact (s.modPort_quiet p _ ⟨rfl, rfl, id, .inl rfl⟩).trans (State.offer_quiet _ p)
    · exact .refl s
  · split
    · exact .refl s
    · split <;> exact .refl s

theorem claimRequest_quiet (p : PortId) (resource wait : Byte) (s : State) : s.Quiet (claimRequest p resource wait s).1 := by
  have set (r : Resource) (c : Claim) : s.Quiet (s.setClaim r c) := .of_ports rfl rfl rfl rfl
  unfold claimRequest
  split
  · dsimp only
    split
    · exact .refl s
    split
    · exact .refl s
    split
    · exact set _ _
    split
    · exact .refl s
    split
    · exact .refl s
    · exact set _ _
  · exact .refl s

theorem releaseRequest_quiet (p : PortId) (resource : Byte) (s : State) : s.Quiet (releaseRequest p resource s).1 := by
  unfold releaseRequest
  split
  · exact .refl s
  · split
    · split
      · exact ((s.withdrawFor_keeps p _).trans (State.cleanup_keeps _ _)).quiet.trans (State.handOver_quiet _ _ _ _)
      · exact .refl s
    · exact .refl s

theorem cancelWaitRequest_quiet (p : PortId) (resource : Byte) (s : State) : s.Quiet (cancelWaitRequest p resource s).1 := by
  unfold cancelWaitRequest
  split
  · exact .refl s
  · dsimp only
    split
    · exact .of_ports rfl rfl rfl rfl
    · exact .refl s

theorem State.axisRequest_quiet (p : PortId) (axis : Byte) (k : AxisId → State × Reply) (part : ∀ x, s.Quiet (k x).1) :
    s.Quiet (s.axisRequest p axis k).1 := by
  unfold State.axisRequest
  split
  · exact .refl s
  · split
    · exact part _
    · exact .refl s

theorem configureAxisRequest_quiet (p : PortId) (axis mode : Byte) (cycle : Word) (sense : Byte) (gate : Half) (s : State) :
    s.Quiet (configureAxisRequest p axis mode cycle sense gate s).1 := by
  refine State.axisRequest_quiet p axis _ fun x => ?_
  split
  · split
    · exact .refl s
    · exact .of_ports rfl rfl rfl rfl
  · exact .refl s

theorem presetAxisRequest_quiet (p : PortId) (axis : Byte) (turn : Half) (position : Word) (s : State) :
    s.Quiet (presetAxisRequest p axis turn position s).1 := by
  refine State.axisRequest_quiet p axis _ fun x => ?_
  split
  · exact State.Quiet.trans (t := s.modAxis x _) (.of_ports rfl rfl rfl rfl) (State.evaluateAxis_keeps _ x).quiet
  · exact .refl s

theorem armCaptureRequest_quiet (p : PortId) (axis source edge count : Byte) (s : State) :
    s.Quiet (armCaptureRequest p axis source edge count s).1 := by
  refine State.axisRequest_quiet p axis _ fun x => ?_
  split
  · exact .of_ports rfl rfl rfl rfl
  · exact .refl s

theorem readCapturesRequest_quiet (p : PortId) (axis : Byte) (s : State) : s.Quiet (readCapturesRequest p axis s).1 :=
  State.axisRequest_quiet p axis _ fun _ => .of_ports rfl rfl rfl rfl

theorem defineWindowRequest_quiet (p : PortId) (axis output : Byte) (raw : RawWindow) (s : State) :
    s.Quiet (defineWindowRequest p axis output raw s).1 := by
  unfold defineWindowRequest
  split
  · split
    · split
      · exact .refl s
      · split
        · exact .refl s
        · split
          · exact .refl s
          · exact .of_ports rfl rfl rfl rfl
    · exact .refl s
  · exact .refl s

theorem editWindowRequest_quiet (p : PortId) (slot : Byte) (raw : RawWindow) (s : State) :
    s.Quiet (editWindowRequest p slot raw s).1 := by
  unfold editWindowRequest
  split
  · exact .refl s
  · split
    · split
      · exact .refl s
      · split
        · exact .refl s
        · exact .of_ports rfl rfl rfl rfl
    · exact .refl s

theorem deleteWindowRequest_quiet (p : PortId) (slot : Byte) (s : State) : s.Quiet (deleteWindowRequest p slot s).1 := by
  unfold deleteWindowRequest
  split
  · exact .refl s
  · split
    · split
      · exact .refl s
      · exact .of_ports rfl rfl rfl rfl
    · exact .refl s

theorem commitWindowsRequest_quiet (p : PortId) (axis timing : Byte) (s : State) :
    s.Quiet (commitWindowsRequest p axis timing s).1 := by
  unfold commitWindowsRequest
  split
  · split
    · exact .refl s
    split
    · exact .refl s
    split
    · exact (s.applyCommit_keeps p _ _).quiet
    · exact .of_ports rfl rfl rfl rfl
  · exact .refl s

theorem cancelCommitRequest_quiet (p : PortId) (axis : Byte) (s : State) : s.Quiet (cancelCommitRequest p axis s).1 := by
  unfold cancelCommitRequest
  split
  · exact .refl s
  · split
    · exact .of_ports rfl rfl rfl rfl
    · exact .refl s

theorem queueCompareRequest_quiet (p : PortId) (raw : RawCompare) (s : State) : s.Quiet (queueCompareRequest p raw s).1 := by
  unfold queueCompareRequest
  split
  · exact .refl s
  · split
    · split
      · split
        · exact .refl s
        · split
          · exact .refl s
          · exact .of_ports rfl rfl rfl rfl
      · exact .refl s
    · exact .refl s

theorem withdrawCompareRequest_quiet (p : PortId) (id : Byte) (s : State) : s.Quiet (withdrawCompareRequest p id s).1 := by
  unfold withdrawCompareRequest
  split
  · exact .of_ports rfl rfl rfl rfl
  · exact .refl s

theorem State.outputRequest_quiet (p : PortId) (output : Byte) (change : Option (Channel → Channel)) :
    s.Quiet (s.outputRequest p output change).1 := by
  unfold State.outputRequest
  split
  · exact .refl s
  · split
    · split
      · exact .refl s
      · exact .of_ports rfl rfl rfl rfl
    · exact .refl s

theorem readOutputsRequest_quiet (s : State) : s.Quiet (readOutputsRequest s).1 := by
  rcases readOutputsRequest_cases s with ⟨-, -, e⟩ | ⟨later, -, e⟩ <;> rw [e]
  · exact .refl s
  · exact .of_ports rfl rfl rfl rfl

theorem State.genRequest_quiet (p : PortId) (gen : Byte) (k : GenId → State × Reply) (part : ∀ g, s.Quiet (k g).1) :
    s.Quiet (s.genRequest p gen k).1 := by
  unfold State.genRequest
  split
  · exact .refl s
  · split
    · exact part _
    · exact .refl s

theorem configureGeneratorRequest_quiet (p : PortId) (gen : Byte) (maxRate : Word) (stopDecel haltDecel : Half) (sense : Byte)
    (s : State) : s.Quiet (configureGeneratorRequest p gen maxRate stopDecel haltDecel sense s).1 := by
  refine State.genRequest_quiet p gen _ fun g => ?_
  split
  · split
    · exact .of_ports rfl rfl rfl rfl
    · exact .refl s
  · exact .refl s

theorem setGeneratorPositionRequest_quiet (p : PortId) (gen : Byte) (value : Word) (s : State) :
    s.Quiet (setGeneratorPositionRequest p gen value s).1 := by
  refine State.genRequest_quiet p gen _ fun g => ?_
  split
  · exact .refl s
  · split
    · exact .of_ports rfl rfl rfl rfl
    · exact .refl s

theorem appendMoveRequest_quiet (p : PortId) (gen : Byte) (raw : RawMove) (s : State) : s.Quiet (appendMoveRequest p gen raw s).1 := by
  refine State.genRequest_quiet p gen _ fun g => ?_
  split
  · exact .refl s
  split
  · exact .refl s
  split
  · exact .refl s
  split
  · exact .refl s
  · obtain ⟨n, only⟩ := s.append_only g ‹MoveRecord›
    exact only.quiet

theorem stopGeneratorRequest_quiet (p : PortId) (gen mode : Byte) (s : State) : s.Quiet (stopGeneratorRequest p gen mode s).1 := by
  refine State.genRequest_quiet p gen _ fun g => ?_
  split
  · exact (s.rampStop_keeps g).quiet
  · exact (s.flush_keeps g).quiet
  · exact .refl s

theorem triggerGeneratorRequest_quiet (p : PortId) (gen : Byte) (s : State) : s.Quiet (triggerGeneratorRequest p gen s).1 := by
  refine State.genRequest_quiet p gen _ fun g => ?_
  split
  · exact (s.trigger_keeps g .request).quiet
  · exact .refl s

/-- The owning block's part of every request but Clear Halt. -/
theorem State.perform_quiet (s : State) (p : PortId) {r : Request} (k : r ≠ .clearHalt) : s.Quiet (s.perform p r).1 := by
  cases r <;> unfold State.perform <;> dsimp only
  case unknown | badLength | renew | readHalt | readClaims => exact .refl s
  case openSession a b c => exact openSessionRequest_quiet p a b c s
  case closeSession => exact s.modSession_quiet p fun x => { x with leaseLeft := none, closing := true }
  case readPortStatus => exact readPortStatusRequest_quiet p s
  case setSubscriptions u => exact setSubscriptionsRequest_quiet p u s
  case acknowledgeNotices n => exact acknowledgeNoticesRequest_quiet p n s
  case claim r w => exact claimRequest_quiet p r w s
  case release r => exact releaseRequest_quiet p r s
  case cancelWait r => exact cancelWaitRequest_quiet p r s
  case configureAxis x m l d g => exact configureAxisRequest_quiet p x m l d g s
  case presetAxis x t pos => exact presetAxisRequest_quiet p x t pos s
  case readAxis x => rw [readAxisRequest_state]; exact .refl s
  case armCapture x source edge count => exact armCaptureRequest_quiet p x source edge count s
  case readCaptures x => exact readCapturesRequest_quiet p x s
  case defineWindow x o w => exact defineWindowRequest_quiet p x o w s
  case editWindow i w => exact editWindowRequest_quiet p i w s
  case deleteWindow i => exact deleteWindowRequest_quiet p i s
  case commitWindows x t => exact commitWindowsRequest_quiet p x t s
  case cancelCommit x => exact cancelCommitRequest_quiet p x s
  case readWindow i => rw [readWindowRequest_state]; exact .refl s
  case queueCompare f => exact queueCompareRequest_quiet p f s
  case withdrawCompare id => exact withdrawCompareRequest_quiet p id s
  case readCompares x i => rw [readComparesRequest_state]; exact .refl s
  case setOutputMode | setOutputLevel | setFallback | pulseOutput | clearOverlay => exact State.outputRequest_quiet _ _ _
  case readOutputs => exact readOutputsRequest_quiet s
  case configureGenerator g m sd hd d => exact configureGeneratorRequest_quiet p g m sd hd d s
  case appendMove g m => exact appendMoveRequest_quiet p g m s
  case stopGenerator g m => exact stopGeneratorRequest_quiet p g m s
  case triggerGenerator g => exact triggerGeneratorRequest_quiet p g s
  case setGeneratorPosition g v => exact setGeneratorPositionRequest_quiet p g v s
  case readGenerator g => rw [readGeneratorRequest_state]; exact .refl s
  case clearHalt => exact absurd rfl k

/-! ### A request taken (R181) -/

theorem State.answer_failed {p : PortId} {r : Request} {st : Status} (check : s.commonCheck p r = some st) :
    s.answer p r = (s, .only st) := by
  unfold State.answer
  rw [check]

theorem State.answer_passed {p : PortId} {r : Request} (check : s.commonCheck p r = none) :
    s.answer p r = ((s.perform p r).1.drain, (s.perform p r).2) := by
  unfold State.answer
  rw [check]

theorem State.drain_quiet (s : State) : s.Quiet s.drain := s.drain_keeps.quiet

theorem State.Served.answer (h : s.Served served held) (p : PortId) (r : Request) : (s.answer p r).1.Served served held := by
  unfold State.answer
  split
  · exact h
  · by_cases k : r = .clearHalt
    · subst k
      exact (clearHaltRequest_served h p).quiet (State.drain_quiet _)
    · exact h.quiet ((s.perform_quiet p k).trans (State.drain_quiet _))

/-- An answer leaves the head of every intake queue. -/
theorem State.answer_intake (s : State) (p q : PortId) (r : Request) : ((s.answer p r).1.port q).intake = (s.port q).intake := by
  have completed (s : State) : (s.completeHandOver.port q).intake = (s.port q).intake := by
    have respond (u : State) (p : PortId) (x : Response) : ((u.respond p x).port q).intake = (u.port q).intake := by
      rw [State.respond_handed, State.modPort_port]
      split
      · rename_i e; subst e
        unfold Port.handed
        split <;> rfl
      · rfl
    unfold State.completeHandOver
    split
    · rfl
    · rw [State.handOn_eq]
      have taken := ((s.handOnTaken_steady []).port q).intake
      split
      · refine Eq.trans ?_ taken
        unfold State.answerClear
        split
        · rfl
        · split
          · rfl
          · exact respond _ _ _
      · exact taken
  unfold State.answer
  split
  · rfl
  · by_cases k : r = .clearHalt
    · subst k
      refine (((State.drain_quiet _).port q).intake).trans ?_
      change ((clearHaltRequest p s).1.port q).intake = _
      unfold clearHaltRequest
      dsimp only
      split
      · exact completed s
      · exact (((State.haltChange_steady _ _ _ _).port q).intake).trans (completed s)
      · exact completed s
    · exact (((s.perform_quiet p k).trans (State.drain_quiet _)).port q).intake

/-- Where a response waits for a hand-over, the request is a Clear Halt, no earlier one waits, and the halt state is CLEAR
(R129). -/
theorem State.answer_awaits (h : s.Waits) {p : PortId} {r : Request}
    (k : (s.answer p r).1.awaitsHandOver r (s.answer p r).2.status = true) :
    r = .clearHalt ∧ (s.answer p r).1.clearing = none ∧ (s.answer p r).1.halt = .clear ∧ (s.answer p r).1.handing ≠ [] := by
  simp only [State.awaitsHandOver, Bool.and_eq_true, decide_eq_true_eq, Bool.not_eq_true', List.isEmpty_eq_false_iff] at k
  obtain ⟨⟨rfl, done⟩, handing⟩ := k
  refine ⟨rfl, ?_⟩
  cases check : s.commonCheck p .clearHalt with
  | some st =>
    have st : ∀ st, s.commonCheck p .clearHalt = some st → st ≠ .done := fun st e => by
      unfold State.commonCheck at e
      dsimp only at e
      split at e
      · split at e
        · cases e; exact nofun
        · cases e
      · split at e
        · cases e; exact nofun
        · cases e
    rw [State.answer_failed check] at done
    exact absurd done (st _ check)
  | none =>
    rw [State.answer_passed check] at handing ⊢
    obtain ⟨clearing, halt⟩ := clearHaltRequest_clearing h p
    have q := State.drain_quiet (s.perform p .clearHalt).1
    exact ⟨q.clearing.trans clearing, q.halt.trans (halt (q.handing ▸ handing)), handing⟩

theorem State.remember_quiet (s : State) (p : PortId) (seq : Byte) (body : List Byte) (closes : Bool) :
    s.Quiet (s.remember p seq body closes) := by
  unfold State.remember
  split
  · exact .refl s
  · exact s.modPort_quiet p _ ⟨rfl, rfl, id, .inl rfl⟩

/-- The ports with a request in hand, but for one. -/
def without (served : PortId → Bool) (p : PortId) : PortId → Bool := fun q => if q = p then false else served q

/-- A response handed over at a port whose request is in hand: the request is answered. -/
theorem State.Served.respond (h : s.Served served held) {p : PortId} (mine : served p = true) (head : (s.port p).intake ≠ [])
    (r : Response) : (s.respond p r).Served (without served p) held := by
  have clearing : (s.respond p r).clearing = s.clearing := rfl
  have not_mine : s.clearing ≠ some p := fun c => by rw [(h.linked.head p c).1] at mine; cases mine
  refine ⟨⟨?_, fun q c => ?_⟩, h.waits⟩
  · have answered := h.linked.wired.respond (p := p) (by simp [mine]) head r
    have same : (fun q => if q = p then false else decide (s.clearing = some q) || served q) =
        fun q => decide (s.clearing = some q) || without served p q := by
      funext q
      unfold without
      split
      · rename_i e; subst q; simp [not_mine]
      · rfl
    rw [same] at answered
    exact answered
  · have ne : q ≠ p := fun e => not_mine (e ▸ c)
    obtain ⟨unserved, heads⟩ := h.linked.head q c
    refine ⟨by unfold without; rw [if_neg ne]; exact unserved, ?_⟩
    rw [State.respond_handed, State.modPort_port, if_neg ne]
    exact heads

/-- A Clear Halt in hand whose response waits for its hand-over (R129). -/
theorem State.Served.await (h : s.Served served held) {p : PortId} (mine : served p = true) (none : s.clearing = none)
    (halt : s.halt = .clear) (handing : s.handing ≠ [])
    (head : ∃ k rest, (s.port p).intake = k :: rest ∧ k.request = .clearHalt) :
    ({ s with clearing := some p } : State).Served (without served p) held := by
  have wired := h.linked.wired
  refine ⟨⟨⟨fun q => ?_, wired.busy⟩, fun q c => ?_⟩, fun q _ => ⟨halt, handing⟩⟩
  · have link := wired.link q
    rw [none] at link
    have same : (decide ((Option.none : Option PortId) = some q) || served q) = (decide (some p = some q) || without served p q) := by
      unfold without
      by_cases e : q = p
      · subst q; simp [mine]
      · simp [e, Ne.symm e]
    rw [same] at link
    exact link
  · cases c
    exact ⟨if_pos rfl, head⟩

theorem State.Served.takeRequest (h : s.Served served held) {p : PortId} (mine : served p = true) {k : Intake} {rest : List Intake}
    (intake : (s.port p).intake = k :: rest) : (s.takeRequest p k.seq k.request).Served (without served p) held := by
  have heads := s.answer_intake p p k.request
  have awaits := State.answer_awaits h.waits (p := p) (r := k.request)
  have done := h.answer p k.request
  unfold State.takeRequest
  dsimp only
  generalize s.answer p k.request = a at heads awaits done
  have kept := a.1.remember_quiet p k.seq (responseBody k.request a.2) (closesWith k.request a.2.status)
  have head : ((a.1.remember p k.seq (responseBody k.request a.2) (closesWith k.request a.2.status)).port p).intake = k :: rest :=
    ((kept.port p).intake.trans heads).trans intake
  split <;> rename_i c
  · obtain ⟨request, clearing, halt, handing⟩ := awaits c
    exact (done.quiet kept).await mine (kept.clearing.trans clearing) (kept.halt.trans halt) (by rw [kept.handing]; exact handing)
      ⟨k, rest, head, request⟩
  · exact (done.quiet kept).respond mine (by rw [head]; exact List.cons_ne_nil _ _) _

/-- A port without a request in hand, where its intake queue is empty. -/
theorem State.Served.nothing (h : s.Served served held) {p : PortId} (empty : (s.port p).intake = []) :
    s.Served (without served p) held := by
  have free : s.clearing ≠ some p := fun c => by
    obtain ⟨-, k, rest, e, -⟩ := h.linked.head p c
    rw [e] at empty; cases empty
  refine ⟨⟨⟨fun q => ?_, h.linked.wired.busy⟩, fun q c => ?_⟩, h.waits⟩
  · have link := h.linked.wired.link q
    unfold without
    split
    · rename_i e
      subst q
      have seen : ((s.port p).seen (held p)).intake = [] := by cases held p <;> exact empty
      obtain ⟨waiting, quiet⟩ := link.no_head_no_response seen
      rw [Bool.or_false, decide_eq_false free]
      exact ⟨link.intake_places, link.waiting_behind, nofun, fun _ k => absurd seen k, link.no_head_no_response, link.faults_range⟩
    · exact link
  · obtain ⟨unserved, heads⟩ := h.linked.head q c
    exact ⟨by unfold without; split <;> [rfl; exact unserved], heads⟩

theorem State.Served.serveHead (h : s.Served served held) {p : PortId} (mine : served p = true) :
    (s.serveHead p).Served (without served p) held := by
  unfold State.serveHead
  split <;> rename_i intake
  · exact h.nothing intake
  · split
    · exact h.respond mine (by rw [intake]; exact List.cons_ne_nil _ _) _
    · exact h.takeRequest mine intake

end Sys2Proof.Machine
end

section
/-! SUPPORT. The ports' transport under frames, bytes, breaks and the other events, and the settling of the statements on the
links and on the output levels. -/

namespace Sys2Proof.Machine

variable {s t : State}

/-- The port alone. -/
def onlyAt (p : PortId) : PortId → Bool := fun q => decide (q = p)

theorem onlyAt_self (p : PortId) : onlyAt p p = true := decide_eq_true rfl

theorem onlyAt_other {p q : PortId} (h : q ≠ p) : onlyAt p q = false := decide_eq_false h

theorem without_onlyAt (p : PortId) : without (onlyAt p) p = fun _ => false := by
  funext q
  unfold without onlyAt
  split
  · rfl
  · exact decide_eq_false ‹_›

theorem State.Served.serveOnly {held : PortId → Bool} {p : PortId} (h : s.Served (onlyAt p) held) :
    (s.serveHead p).Served (fun _ => false) held := by
  rw [← without_onlyAt p]
  exact h.serveHead (decide_eq_true rfl)

/-- A port changed, its head then without a response: the rule for the transports of all. -/
theorem State.LinkSound.put (h : s.LinkSound) (p : PortId) (f : Port → Port) (awaits held : Bool)
    (link : ((f (s.port p)).seen held).LinkLawful (decide (s.clearing = some p) || awaits)) (busy : held = true → (f (s.port p)).tx.isSome = true)
    (head : s.clearing = some p → awaits = false ∧ ∃ h rest, (f (s.port p)).intake = h :: rest ∧ h.request = .clearHalt) :
    (s.modPort p f).Served (fun q => onlyAt p q && awaits) (fun q => onlyAt p q && held) := by
  have at_p (q : PortId) : (s.modPort p f).port q = if q = p then f (s.port p) else s.port q := State.modPort_port s p q f
  refine ⟨⟨⟨fun q => ?_, fun q b => ?_⟩, fun q c => ?_⟩, h.waits⟩ <;> by_cases e : q = p
  · subst q
    rw [at_p, if_pos rfl, onlyAt_self, Bool.true_and, Bool.true_and]
    exact link
  · have l := h.linked.wired.link q
    rw [at_p, if_neg e, onlyAt_other e, Bool.false_and, Bool.false_and]
    exact l
  · subst q
    rw [onlyAt_self, Bool.true_and] at b
    rw [at_p, if_pos rfl]
    exact busy b
  · rw [onlyAt_other e] at b
    cases b
  · subst q
    rw [at_p, if_pos rfl, onlyAt_self, Bool.true_and]
    exact head c
  · rw [at_p, if_neg e, onlyAt_other e]
    exact ⟨rfl, (h.linked.head q c).2⟩

theorem State.Served.plain {p : PortId} (h : s.Served (fun q => onlyAt p q && false) (fun q => onlyAt p q && false)) :
    s.LinkSound := by
  have none : (fun q => onlyAt p q && false) = fun _ => false := funext fun _ => Bool.and_false _
  rw [none] at h
  exact h

theorem State.LinkSound.link (h : s.LinkSound) (p : PortId) : (s.port p).LinkLawful (decide (s.clearing = some p)) := h.linksLawful p

/-- No Clear Halt waits at a port whose head has its response, or which has no head. -/
theorem State.LinkSound.not_clearing (h : s.LinkSound) {p : PortId}
    (k : (s.port p).intake = [] ∨ ∃ f, (s.port p).tx = some f ∧ f.answersHead = true) : s.clearing ≠ some p := fun c => by
  rcases k with e | ⟨f, tx, answers⟩
  · obtain ⟨-, x, rest, i, -⟩ := h.linked.head p c
    rw [i] at e; cases e
  · have quiet := ((h.link p).not_yet (decide_eq_true c)).2 f tx
    rw [answers] at quiet; cases quiet

/-! ### Request frames (R180) -/

theorem State.LinkSound.deliver (h : s.LinkSound) (p : PortId) (seq : Byte) (r : Request) : (s.deliver p seq r).LinkSound := by
  have t : (s.modSession p Session.restartLease).LinkSound := h.quiet (s.modSession_quiet p _)
  have port : (s.modSession p Session.restartLease).port p = { s.port p with session := (s.port p).session.restartLease } := by
    unfold State.modSession; rw [State.modPort_port, if_pos rfl]
  have link := t.link p
  unfold State.deliver
  dsimp only
  split <;> rename_i intake
  · have none := t.not_clearing (p := p) (.inl (by rw [port]; exact intake))
    refine State.Served.serveOnly ?_
    have put := t.put p (fun q => { q with intake := [{ seq := seq, request := r }] }) true false ?_ nofun fun c => absurd c none
    · simpa only [Bool.and_true, Bool.and_false] using put
    · obtain ⟨waiting, quiet⟩ := link.no_head_no_response (by rw [port]; exact intake)
      rw [Bool.or_true]
      exact ⟨by simp [Port.seen], link.waiting_behind, fun _ => ⟨waiting, quiet⟩, nofun, nofun, link.faults_range⟩
  · rename_i first
    refine (t.put p (fun q => { q with intake := [first, { seq := seq, request := r }] }) false false ?_ nofun fun c => ⟨rfl, ?_⟩).plain
    · rw [Bool.or_false]
      exact ⟨by simp [Port.seen], link.waiting_behind, link.not_yet, fun a _ => link.head_answered a (by rw [port]; simp [intake]),
        nofun, link.faults_range⟩
    · obtain ⟨-, x, rest, i, clear⟩ := t.linked.head p c
      rw [port] at i
      have same : (s.port p).intake = x :: rest := i
      rw [intake] at same
      cases same
      exact ⟨first, _, rfl, clear⟩
  · exact t.quiet (State.modPort_quiet _ p _ ⟨rfl, rfl, fun k => ⟨k.1, k.2.1, k.2.2.1, k.2.2.2.1, count16_le _⟩, .inl rfl⟩)

theorem State.LinkSound.arrival (h : s.LinkSound) (p : PortId) (seq : Byte) (r : Request) : (s.arrival p seq r).LinkSound := by
  unfold State.arrival
  split
  · exact h
  · exact h.deliver p seq r

/-! ### Bytes and gaps (R177, R178) -/

theorem State.LinkSound.receiving (h : s.LinkSound) (p : PortId) (rx : Receiver) :
    (s.modPort p fun q => q.receiving rx).LinkSound := h.quiet (s.modPort_quiet p _ ⟨rfl, rfl, id, .inl rfl⟩)

theorem State.LinkSound.discard (h : s.LinkSound) (p : PortId) (count : Faults → Faults) (range : ∀ f, f.InRange → (count f).InRange) :
    (s.modPort p fun q => q.discard count).LinkSound := h.quiet (s.modPort_quiet p _ ⟨rfl, rfl, range _, .inl rfl⟩)

theorem Faults.InRange.countGap (f : Faults) (h : f.InRange) : f.countGap.InRange :=
  ⟨count16_le _, h.2.1, h.2.2.1, h.2.2.2.1, h.2.2.2.2⟩
theorem Faults.InRange.countLength (f : Faults) (h : f.InRange) : f.countLength.InRange :=
  ⟨h.1, count16_le _, h.2.2.1, h.2.2.2.1, h.2.2.2.2⟩
theorem Faults.InRange.countCrc (f : Faults) (h : f.InRange) : f.countCrc.InRange :=
  ⟨h.1, h.2.1, count16_le _, h.2.2.2.1, h.2.2.2.2⟩
theorem Faults.InRange.countForeign (f : Faults) (h : f.InRange) : f.countForeign.InRange :=
  ⟨h.1, h.2.1, h.2.2.1, count16_le _, h.2.2.2.2⟩

theorem State.LinkSound.judge (h : s.LinkSound) (p : PortId) (type seq len : Byte) (body : List Byte) (crc : Half) :
    (s.judge p type seq len body crc).LinkSound := by
  unfold State.judge
  split
  · exact h.discard p _ Faults.InRange.countCrc
  · split
    · exact h.discard p _ Faults.InRange.countForeign
    · exact (h.receiving p .hunt).deliver p _ _

theorem State.LinkSound.takeByte (h : s.LinkSound) (p : PortId) (b : Byte) : (s.takeByte p b).LinkSound := by
  unfold State.takeByte
  split
  · exact h
  · split
    · split
      · exact h.receiving p _
      · exact h
    · exact h.receiving p _
    · exact h.receiving p _
    · split
      · exact h.discard p _ Faults.InRange.countLength
      · exact h.receiving p _
    · exact h.receiving p _
    · exact h.receiving p _
    · exact h.judge p _ _ _ _ _

theorem State.LinkSound.completeFrame (h : s.LinkSound) (p : PortId) (b : Byte) : (s.completeFrame p b).LinkSound := by
  unfold State.completeFrame
  split
  · exact h
  · split
    · exact h.judge p _ _ _ _ _
    all_goals exact h

theorem State.LinkSound.gap (h : s.LinkSound) (p : PortId) : (s.gap p).LinkSound := by
  unfold State.gap
  split
  · exact h
  · exact h.discard p _ Faults.InRange.countGap

/-! ### The link break (R179) -/

theorem TxFrame.cut_answersHead (f : TxFrame) : f.cut.answersHead = false := by
  obtain ⟨kind, bytes⟩ := f
  cases kind <;> rfl

theorem State.LinkSound.unclear (h : s.LinkSound) (p : PortId) (tx : ∀ q : Port, q = s.port p → (Port.broken q).LinkLawful false) :
    (State.modPort { s with clearing := if s.clearing = some p then none else s.clearing } p Port.broken).LinkSound := by
  have clear (q : PortId) : (if s.clearing = some p then none else s.clearing) = some q ↔ q ≠ p ∧ s.clearing = some q := by
    split
    · rename_i e; simp [e, eq_comm]
    · rename_i e; exact ⟨fun k => ⟨fun c => e (c ▸ k), k⟩, And.right⟩
  refine ⟨⟨⟨fun q => ?_, nofun⟩, fun q c => ?_⟩, fun q c => h.waits q ((clear q).mp c).2⟩
  · rw [Bool.or_false, State.modPort_port]
    change Port.LinkLawful (decide ((if s.clearing = some p then none else s.clearing) = some q)) _
    by_cases e : q = p
    · rw [if_pos e, decide_eq_false fun k => ((clear q).mp k).1 e]
      exact tx _ rfl
    · rw [if_neg e]
      have same : decide ((if s.clearing = some p then none else s.clearing) = some q) = decide (s.clearing = some q) :=
        decide_eq_decide.mpr ⟨fun k => ((clear q).mp k).2, fun k => (clear q).mpr ⟨e, k⟩⟩
      rw [same]
      exact h.link q
  · obtain ⟨ne, c⟩ := (clear q).mp c
    rw [State.modPort_port, if_neg ne]
    exact h.linked.head q c

theorem State.LinkSound.breakLink (h : s.LinkSound) (p : PortId) : (s.breakLink p).LinkSound := by
  have quiet (q : Port) (f : TxFrame) (e : q.broken.tx = some f) : f.answersHead = false := by
    obtain ⟨x, -, rfl⟩ := Option.map_eq_some_iff.mp e
    exact x.cut_answersHead
  have broken := h.unclear p fun q e => ⟨by simp [Port.broken], nofun, nofun, fun _ k => absurd rfl k, fun _ => ⟨rfl, quiet q⟩,
    e ▸ (h.link p).faults_range⟩
  unfold State.breakLink
  split
  · exact h
  · dsimp only
    split
    · exact broken.quiet (State.endSession_quiet _ p _)
    · exact broken

/-! ### The end of a frame (R184) -/

/-- The transmitter idle, and what waits started (R184): the law stands, where the frame that ended answered no head. -/
theorem Port.LinkLawful.next {b : Bool} {q : Port} (h : q.LinkLawful b) (r : Response)
    (waiting : q.waiting = some r) : ({ q with tx := some r.frame, waiting := none } : Port).LinkLawful b := by
  have some : q.waiting.isSome = true := by rw [waiting]; rfl
  have head : q.intake ≠ [] := fun e => by rw [(h.no_head_no_response e).1] at waiting; cases waiting
  have free : b = false := by
    cases b
    · rfl
    · rw [(h.not_yet rfl).1] at waiting; cases waiting
  subst free
  exact ⟨h.intake_places, nofun, nofun, fun _ _ => .inr ⟨_, rfl, rfl⟩, fun e => absurd e head, h.faults_range⟩

theorem Port.LinkLawful.idle {b : Bool} {q : Port} (h : q.LinkLawful b) (quiet : ∀ f, q.tx = some f → f.answersHead = false)
    (waiting : q.waiting = none) : ({ q with tx := none } : Port).LinkLawful b := by
  refine ⟨h.intake_places, fun k => ?_, fun _ => ⟨waiting, nofun⟩, fun free head => ?_, fun _ => ⟨waiting, nofun⟩, h.faults_range⟩
  · have k' : q.waiting.isSome = true := k
    rw [waiting] at k'; cases k'
  · rcases h.head_answered free head with k | ⟨f, e, a⟩
    · rw [waiting] at k; cases k
    · rw [quiet f e] at a; cases a

theorem State.startNext_quiet (s : State) (p : PortId) (waiting : (s.port p).waiting = none) : s.Quiet (s.startNext p) := by
  unfold State.startNext
  rw [waiting]
  exact s.offer_quiet p

/-- A frame that answers no head, or whose slot has been freed already, ends. -/
theorem State.Served.frameOver {p : PortId} {held : Bool} (h : s.Served (fun _ => false) fun q => onlyAt p q && held)
    (quiet : held = true ∨ ∀ f, (s.port p).tx = some f → f.answersHead = false) : ((s.idleTx p).startNext p).LinkSound := by
  have link := h.linked.wired.link p
  rw [Bool.or_false] at link
  have self : (onlyAt p p && held) = held := by simp [onlyAt]
  rw [self] at link
  have ended : ∀ f, ((s.port p).seen held).tx = some f → f.answersHead = false := fun f e => by
    cases held
    · exact (quiet.resolve_left nofun) f e
    · obtain ⟨x, -, rfl⟩ := Option.map_eq_some_iff.mp e
      rfl
  have others (f : Port → Port) (lawful : (f (s.port p)).LinkLawful (decide (s.clearing = some p)))
      (intake : (f (s.port p)).intake = (s.port p).intake) : (s.modPort p f).LinkSound := by
    refine ⟨⟨⟨fun q => ?_, nofun⟩, fun q c => ?_⟩, h.waits⟩ <;> rw [State.modPort_port]
    · rw [Bool.or_false]
      split
      · rename_i e; rw [e]; exact lawful
      · rename_i e
        have l := h.linked.wired.link q
        have free : (onlyAt p q && held) = false := by simp [onlyAt, e]
        rw [free, Bool.or_false] at l
        exact l
    · obtain ⟨-, heads⟩ := h.linked.head q c
      refine ⟨rfl, ?_⟩
      split
      · rename_i e; subst e; rw [intake]; exact heads
      · exact heads
  cases waiting : (s.port p).waiting with
  | none =>
    have idle : (s.idleTx p).LinkSound := others _ (by
      have l := link.idle ended (by cases held <;> exact waiting)
      cases held <;> exact l) rfl
    refine idle.quiet (State.startNext_quiet _ p ?_)
    unfold State.idleTx
    rw [State.port_modPort_same]
    exact waiting
  | some r =>
    have eq : (s.idleTx p).startNext p = s.modPort p fun q => { q with tx := some r.frame, waiting := none } := by
      unfold State.startNext State.idleTx
      rw [State.port_modPort_same]
      dsimp only
      rw [waiting]
      dsimp only
      rw [State.modPort_modPort]
    rw [eq]
    refine others _ ?_ rfl
    have l := link.next r (by cases held <;> exact waiting)
    cases held <;> exact l

theorem State.LinkSound.responseEnds (h : s.LinkSound) {p : PortId} {f : TxFrame} (tx : (s.port p).tx = some f)
    (answers : f.answersHead = true) (closes : Bool) : (s.responseEnds p closes).LinkSound := by
  have link := h.link p
  have free := h.not_clearing (p := p) (.inr ⟨f, tx, answers⟩)
  have waiting : (s.port p).waiting = none := by
    cases w : (s.port p).waiting with
    | none => rfl
    | some r =>
      obtain ⟨g, e, k⟩ := link.waiting_behind (by rw [w]; rfl)
      rw [tx] at e; cases e
      rw [answers] at k; cases k
  have shorter : (s.port p).intake.tail.length ≤ 2 := by
    have := link.intake_places
    rw [List.length_tail]; omega
  -- the slot freed with the transmitter idle, and with the frame still there
  have freed : (s.modPort p fun q => { q with intake := q.intake.tail, tx := none }).Served (onlyAt p) fun _ => false := by
    have put := h.put p (fun q => { q with intake := q.intake.tail, tx := none }) true false (by
      rw [Bool.or_true]
      exact ⟨shorter, fun k => by simp [Port.seen, waiting] at k, fun _ => ⟨waiting, nofun⟩, nofun, fun _ => ⟨waiting, nofun⟩, link.faults_range⟩)
      nofun fun c => absurd c free
    simpa only [Bool.and_true, Bool.and_false] using put
  have freedBehind : (s.modPort p fun q => { q with intake := q.intake.tail }).Served (onlyAt p) (onlyAt p) := by
    have quiet (g : TxFrame) (e : (({ s.port p with intake := (s.port p).intake.tail } : Port).seen true).tx = some g) :
        g.answersHead = false := by
      obtain ⟨x, -, rfl⟩ := Option.map_eq_some_iff.mp e
      rfl
    have put := h.put p (fun q => { q with intake := q.intake.tail }) true true (by
      rw [Bool.or_true]
      exact ⟨shorter, fun k => by simp [Port.seen, waiting] at k, fun _ => ⟨waiting, quiet⟩, nofun, fun _ => ⟨waiting, quiet⟩, link.faults_range⟩)
      (fun _ => by rw [tx]; rfl) fun c => absurd c free
    simpa only [Bool.and_true] using put
  have idle : (s.modPort p fun q => { q with intake := q.intake.tail }).idleTx p =
      s.modPort p fun q => { q with intake := q.intake.tail, tx := none } := State.modPort_modPort _ _ _ _
  have still : ((s.modPort p fun q => { q with intake := q.intake.tail, tx := none }).port p).waiting = none := by
    rw [State.port_modPort_same]; exact waiting
  unfold State.responseEnds
  dsimp only
  split
  · rw [idle]
    refine State.Served.serveOnly ?_
    split
    · exact freed.quiet (State.endSession_quiet _ p _)
    · exact freed
  · split <;> rename_i intake
    · rw [idle]
      rw [State.port_modPort_same] at intake
      refine State.Served.quiet (s := s.modPort p fun q => { q with intake := q.intake.tail, tx := none }) ?_ (State.startNext_quiet _ p still)
      have none := freed.nothing (p := p) (by rw [State.port_modPort_same]; exact intake)
      rwa [without_onlyAt] at none
    · have first (t : State) (k : t.Served (onlyAt p) (fun _ => false)) (w : (t.port p).waiting = none) :
          ((t.startNext p).serveHead p).LinkSound := (k.quiet (State.startNext_quiet t p w)).serveOnly
      have last (t : State) (k : t.Served (onlyAt p) (onlyAt p)) : (((t.serveHead p).idleTx p).startNext p).LinkSound := by
        have served := k.serveOnly
        refine State.Served.frameOver (held := true) ?_ (.inl rfl)
        simpa only [Bool.and_true] using served
      unfold State.serveHeld
      rcases State.eitherWay_cases (s.modPort p fun q => { q with intake := q.intake.tail })
        (fun t => ((t.idleTx p).startNext p).serveHead p) (fun t => ((t.serveHead p).idleTx p).startNext p) with ⟨-, e⟩ | e | e <;> rw [e]
      · rw [idle]; exact first _ freed still
      · have chosen := freed.quiet (t := (s.modPort p fun q => { q with intake := q.intake.tail, tx := none }).choose)
          (.of_ports rfl rfl rfl rfl)
        have same : (s.modPort p fun q => { q with intake := q.intake.tail, tx := none }).choose =
            (s.modPort p fun q => { q with intake := q.intake.tail }).choose.idleTx p := by rw [← idle]; rfl
        have wait : (((s.modPort p fun q => { q with intake := q.intake.tail }).choose.idleTx p).port p).waiting = none := by
          rw [← same]; exact still
        exact first _ (same ▸ chosen) wait
      · exact last (State.choose _) (freedBehind.quiet (.of_ports rfl rfl rfl rfl))

theorem State.LinkSound.frameEnds (h : s.LinkSound) (p : PortId) : (s.frameEnds p).LinkSound := by
  have ended (quiet : ∀ f, (s.port p).tx = some f → f.answersHead = false) : ((s.idleTx p).startNext p).LinkSound := by
    refine State.Served.frameOver (held := false) ?_ (.inr quiet)
    simp only [Bool.and_false]
    exact h
  unfold State.frameEnds
  split
  · exact h
  · rename_i f tx
    split <;> rename_i kind
    · exact h.responseEnds tx (by unfold TxFrame.answersHead; rw [kind]) _
    all_goals
      refine ended fun g e => ?_
      rw [tx] at e
      cases e
      unfold TxFrame.answersHead
      rw [kind]

theorem State.LinkSound.resendExpires (h : s.LinkSound) (p : PortId) : (s.resendExpires p).LinkSound := by
  unfold State.resendExpires
  split
  · exact h
  · split
    · exact h.quiet ((s.modPort_quiet p _ ⟨rfl, rfl, id, .inl rfl⟩).trans (State.offer_quiet _ p))
    · exact h

/-! ### The events of the field lines and the clocks -/

theorem State.tick_quiet (s : State) : s.Quiet s.tick :=
  ⟨⟨fun p => by rw [State.tick_port]; exact ⟨rfl, rfl, id, .inl rfl⟩, rfl⟩, rfl, rfl⟩

theorem State.encoderLevels_quiet (s : State) (e : Encoder) (new : EncoderLines) : s.Quiet (s.encoderLevels e new) := by
  have lines : s.Quiet { s with lines := s.lines.setPair e new } := .of_ports rfl rfl rfl rfl
  unfold State.encoderLevels
  dsimp only
  split
  · exact lines
  · exact lines.trans ((State.countEvent_keeps _ _ _).trans (State.drain_keeps _)).quiet

theorem takeParts_quiet (parts : List (Bool × (State → State))) (h : ∀ f ∈ parts, ∀ t, State.Keeps t (f.2 t)) (s : State) :
    s.Quiet (takeParts parts s).drain := ((State.Keeps.takeParts parts h s).trans (State.drain_keeps _)).quiet

theorem State.markerLevel_quiet (s : State) (e : Encoder) (active : Bool) : s.Quiet (s.markerLevel e active) := by
  unfold State.markerLevel
  split
  · exact .refl s
  · refine State.Quiet.trans (t := { s with lines := s.lines.setMarker e active }) (.of_ports rfl rfl rfl rfl)
      (takeParts_quiet _ (fun f hf t => ?_) _)
    rcases List.mem_cons.mp hf with rfl | hf
    · exact t.captureEdge_keeps _ _ _
    · split at hf
      · obtain ⟨g, -, rfl⟩ := List.mem_map.mp hf
        exact t.markerEdgeAt_keeps e g
      · cases hf

theorem State.refLevel_quiet (s : State) (r : RefLine) (high : Bool) : s.Quiet (s.refLevel r high) := by
  unfold State.refLevel
  split
  · exact .refl s
  · refine State.Quiet.trans (t := { s with lines := s.lines.setRef r high }) (.of_ports rfl rfl rfl rfl)
      (takeParts_quiet _ (fun f hf t => ?_) _)
    rcases List.mem_append.mp hf with hf | hf
    · obtain ⟨x, -, rfl⟩ := List.mem_map.mp hf
      exact t.captureEdge_keeps _ _ _
    · obtain ⟨g, -, rfl⟩ := List.mem_map.mp hf
      exact t.refEdgeAt_keeps r high g

theorem State.LinkSound.fieldEvent (h : s.LinkSound) {c : Instr} {event : State → State} (e : fieldEvent c = some event) :
    (event s).LinkSound := by
  cases c <;> simp only [Machine.fieldEvent, Option.some.injEq, reduceCtorEq] at e <;> subst e
  case encoderTransition e a b => exact h.quiet (s.encoderLevels_quiet e _)
  case gateExpiry x => exact h.quiet (s.gateExpires_keeps x).quiet
  case markerEdge e a => exact h.quiet (s.markerLevel_quiet e a)
  case referenceLineEdge l a => exact h.quiet (s.refLevel_quiet l a)
  case generatorStep g => exact h.quiet (s.stepNow_keeps g).quiet
  case followBacklogStep g => exact h.quiet (s.backlogStep_keeps g).quiet
  case rampTimerExpiry g => exact h.quiet (s.rampExpires_keeps g).quiet
  case dwellTimerExpiry g => exact h.quiet (s.dwellExpires_keeps g).quiet
  case pulseTimerExpiry o => exact h.quiet (s.pulseExpires_keeps o).quiet
  case haltAssertion => exact h.haltAsserted
  case haltRelease => exact h.haltReleased
  case leaseExpiry p =>
    dsimp only
    unfold State.leaseExpires
    split
    · exact h.quiet (s.endSession_quiet p _)
    · exact h
  case deviceMillisecondIncrement => exact h.continueHandOver.quiet (State.tick_quiet _)

/-! ### One step -/

theorem State.LinkSound.exec (h : s.LinkSound) {c : Instr} (e : Machine.exec c s = .next t) : t.LinkSound := by
  obtain ⟨u, eu, sound⟩ := exec_cases s (motive := fun _ t => t.LinkSound) (fun _ p seq r _ => h.arrival p seq r)
    (fun _ _ k => h.fieldEvent k) (fun lines straps => (s.restart_lawful lines straps).linkSound) h.completeFrame h.gap h.breakLink
    h.frameEnds h.resendExpires h.takeByte (fun p => h.quiet (s.modPort_quiet p _ ⟨rfl, rfl, id, .inl rfl⟩)) c
  rw [eu] at e
  cases e
  exact sound

theorem State.LinkSound.step (h : s.LinkSound) (e : Machine.step s = .next t) : t.LinkSound := by
  unfold Machine.step at e
  split at e
  · cases e; exact h.continueHandOver
  · rename_i rest _
    exact State.LinkSound.exec (h.quiet (t := { s with pending := rest }) (.of_ports rfl rfl rfl rfl)) e

/-- Settles O14: every step keeps the law of the transports with that of the Clear Halt that waits. -/
theorem everyStepKeepsLinks : Obligations.EveryStepKeepsLinks := fun _ _ h e => (h.linkSound.step e).linksLawful

/-- Settles O8: the channels and the halt state are among the laws that every step keeps, and the Clear Halt that waits is among
those of the transports. -/
theorem everyStepKeepsOutputLevels : Obligations.EveryStepKeepsOutputLevels := fun s t h e => by
  have sound := h.sound.step e
  have links := h.linkSound.step e
  refine ⟨sound.windows.channels, sound.halt, sound.once, sound.not_latched, fun p c => ?_⟩
  obtain ⟨halt, handing⟩ := links.waits p c
  exact ⟨halt, handing, (links.linked.head p c).2⟩

end Sys2Proof.Machine
end

section
/-! SUPPORT. The count events of axis V that a generator brings about (R4, R93): what an operation at it hands over at most, and
when a first step is put off (R56, log 7). -/

namespace Sys2Proof.Machine

variable {g : GenId} {j k : Nat} {s t u : State}

/-- The count events a generator record may still bring about: one for each record that waits, for a move that is ARMED, and
for a first step put off. -/
def Generator.work (n : Generator) : Nat :=
  n.queue.length + (if n.state = .armed then 1 else 0) + if n.firstStepDue = true then 1 else 0

/-- The count events of axis V still to be taken, with those a generator may still bring about. -/
def State.load (s : State) (g : GenId) : Nat := s.vEvents.length + (s.gen g).work

/-- What an operation at a generator does to that number: `k` more at most; a first step is put off only at GV while axis V takes
an event, and only with a move. -/
structure State.Paces (g : GenId) (k : Nat) (s t : State) : Prop where
  taking : t.vTaking = s.vTaking
  load : t.load g ≤ s.load g + k
  due : (t.gen g).firstStepDue = true → (s.gen g).firstStepDue = true ∨ g = .gv ∧ s.vTaking = true
  moves :
    ((s.gen g).firstStepDue = true → (s.gen g).current.isSome = true) →
      (t.gen g).firstStepDue = true → (t.gen g).current.isSome = true

namespace State.Paces

theorem refl (g : GenId) (k : Nat) (s : State) : State.Paces g k s s := ⟨rfl, by omega, .inl, id⟩

theorem trans (h : State.Paces g j s t) (i : State.Paces g k t u) : State.Paces g (j + k) s u := by
  refine ⟨i.taking.trans h.taking, by have := h.load; have := i.load; omega, fun d => ?_, fun m => i.moves (h.moves m)⟩
  exact (i.due d).elim h.due fun e => .inr ⟨e.1, h.taking ▸ e.2⟩

theorem mono (h : State.Paces g j s t) (l : j ≤ k) : State.Paces g k s t := ⟨h.taking, by have := h.load; omega, h.due, h.moves⟩

/-- A change of the record that leaves the queue no longer, arms no move and puts off no first step. -/
theorem of_gen (taking : t.vTaking = s.vTaking) (events : t.vEvents = s.vEvents)
    (queue : (t.gen g).queue.length ≤ (s.gen g).queue.length) (armed : (t.gen g).state = .armed → (s.gen g).state = .armed)
    (due : (t.gen g).firstStepDue = true → (s.gen g).firstStepDue = true ∧ ((s.gen g).current.isSome = true → (t.gen g).current.isSome = true)) :
    State.Paces g 0 s t := by
  refine ⟨taking, ?_, fun d => .inl (due d).1, fun m d => (due d).2 (m (due d).1)⟩
  have a : (if (t.gen g).state = .armed then 1 else 0) ≤ if (s.gen g).state = .armed then 1 else 0 := by
    split
    · rw [if_pos (armed ‹_›)]
    · exact Nat.zero_le _
  have d : (if (t.gen g).firstStepDue = true then 1 else 0) ≤ if (s.gen g).firstStepDue = true then 1 else 0 := by
    split
    · rw [if_pos (due ‹_›).1]
    · exact Nat.zero_le _
  unfold State.load Generator.work
  rw [events]
  omega

theorem modGen (s : State) (g : GenId) (f : Generator → Generator) (queue : (f (s.gen g)).queue.length ≤ (s.gen g).queue.length)
    (armed : (f (s.gen g)).state = .armed → (s.gen g).state = .armed)
    (due : (f (s.gen g)).firstStepDue = true → (s.gen g).firstStepDue = true ∧
      ((s.gen g).current.isSome = true → (f (s.gen g)).current.isSome = true)) : State.Paces g 0 s (s.modGen g f) := by
  refine of_gen rfl rfl ?_ ?_ ?_ <;> rw [State.modGen_gen_same]
  · exact queue
  · exact armed
  · exact due

/-- A change that leaves the queue, the state, the first step and whether there is a move. -/
theorem quiet (taking : t.vTaking = s.vTaking) (events : t.vEvents = s.vEvents) (queue : (t.gen g).queue = (s.gen g).queue)
    (state : (t.gen g).state = (s.gen g).state) (due : (t.gen g).firstStepDue = (s.gen g).firstStepDue)
    (current : (t.gen g).current.isSome = (s.gen g).current.isSome) : State.Paces g 0 s t :=
  of_gen taking events (by rw [queue]) (by rw [state]; exact id) (by rw [due, current]; exact fun d => ⟨d, id⟩)

end State.Paces

theorem PortsOnly.paces (h : PortsOnly s t) (g : GenId) : State.Paces g 0 s t := by
  have gen := h.gen g
  exact .quiet h.vTaking h.vEvents (by rw [gen]) (by rw [gen]) (by rw [gen]) (by rw [gen])

theorem State.postGen_paces (s : State) (g : GenId) (k : NoticeKind) : State.Paces g 0 s (s.postGen g k) :=
  (State.postHolder_reach s _ k).paces g

theorem State.postGen_vEvents (s : State) (g : GenId) (k : NoticeKind) : (s.postGen g k).vEvents = s.vEvents :=
  (State.postHolder_reach s _ k).vEvents

theorem State.flush_paces (s : State) (g : GenId) : State.Paces g 0 s (s.flush g) := by
  have pre := State.Paces.modGen s g (fun n => { n with queue := [] }) (Nat.zero_le _) id fun d => ⟨d, id⟩
  unfold State.flush
  dsimp only
  split
  · exact pre
  · exact pre.trans (State.postGen_paces _ g _)

theorem State.flushAll_paces (s : State) (g : GenId) : State.Paces g 0 s (s.flushAll g) :=
  (s.flush_paces g).trans (.modGen _ g (fun n => { n with pendingTrigger := false }) (le_refl _) id fun d => ⟨d, id⟩)

theorem State.closeMove_paces (s : State) (g : GenId) (cause : EndCause) : State.Paces g 0 s (s.closeMove g cause) := by
  unfold State.closeMove
  split
  · exact .refl _ _ _
  · exact (State.Paces.modGen s g Generator.withoutMove (le_refl _) id nofun).trans (State.postGen_paces _ g _)

theorem State.closeMove_due (s : State) (g : GenId) (cause : EndCause) (h : (s.gen g).current.isSome = true) :
    ((s.closeMove g cause).gen g).firstStepDue = false := by
  obtain ⟨m, hm⟩ := Option.isSome_iff_exists.mp h
  rw [State.closeMove_gen s g cause hm]
  rfl

theorem State.reportIdle_vEvents (s : State) (g : GenId) : (s.reportIdle g).vEvents = s.vEvents := by
  unfold State.reportIdle
  split
  · exact (State.handOver_reach _ _ _ _).vEvents
  · rfl
  · rfl

theorem State.reportIdle_paces (s : State) (g : GenId) : State.Paces g 0 s (s.reportIdle g) := by
  have gen := s.reportIdle_gen g
  refine .quiet (s.reportIdle_only g).move.vTaking (s.reportIdle_vEvents g) ?_ ?_ ?_ ?_ <;> rw [gen] <;> split <;> rfl

theorem State.settle_vEvents (s : State) (g : GenId) : (s.settle g).vEvents = s.vEvents := by
  unfold State.settle
  split
  · rfl
  · exact State.reportIdle_vEvents _ g

theorem State.settle_paces (s : State) (g : GenId) : State.Paces g 0 s (s.settle g) := by
  unfold State.settle
  split
  · exact .modGen s g (fun n => { n with state := .halted }) (le_refl _) nofun fun d => ⟨d, id⟩
  · exact (State.Paces.modGen s g (fun n => { n with state := .idle }) (le_refl _) nofun fun d => ⟨d, id⟩).trans
      (State.reportIdle_paces _ g)

theorem State.closeStopped_paces (s : State) (g : GenId) : State.Paces g 0 s (s.closeStopped g) := by
  unfold State.closeStopped
  split
  · exact .refl _ _ _
  · exact s.closeMove_paces g _

theorem State.brake_paces (s : State) (g : GenId) (rate : StopRate) : State.Paces g 0 s (s.brake g rate).1 := by
  have pre : State.Paces g 0 s (s.modGen g fun n => n.braking rate) := .modGen s g _ (le_refl _) nofun fun d => ⟨d, id⟩
  rw [State.brake_eq]
  split
  · exact pre.trans (State.closeStopped_paces _ g)
  · exact pre

theorem Generator.stepped_paced (n : Generator) (g : GenId) (m : CurrentMove) :
    (n.stepped g m).queue = n.queue ∧ (n.stepped g m).state = n.state ∧ (n.stepped g m).firstStepDue = false := by
  cases g <;> exact ⟨rfl, rfl, rfl⟩

/-- A step that is issued hands over one count event at most, and is no first step put off any more (R4, R56). -/
theorem State.issueStep_load (s : State) (g : GenId) {m : CurrentMove} (h : (s.gen g).current = some m)
    (into : inCountRange (((s.gen g).motion m).move (s.gen g).counter) = true) :
    (s.issueStep g).1.load g + (if (s.gen g).firstStepDue = true then 1 else 0) ≤ s.load g + 1 := by
  obtain ⟨queue, state, due⟩ := (s.gen g).stepped_paced g m
  have events : (s.issueStep g).1.vEvents.length ≤ s.vEvents.length + 1 := by
    rw [State.issueStep_in s g h into]
    dsimp only
    split <;> simp
  unfold State.load Generator.work
  rw [State.issueStep_gen s g h into, queue, state, due, if_neg Bool.false_ne_true]
  omega

theorem State.issueStep_paces (s : State) (g : GenId) : State.Paces g 1 s (s.issueStep g).1 := by
  cases hm : (s.gen g).current with
  | none => rw [State.issueStep_none s g hm]; exact .refl _ _ _
  | some m =>
    cases into : inCountRange (((s.gen g).motion m).move (s.gen g).counter) with
    | false => rw [State.issueStep_out s g hm into]; exact .refl _ _ _
    | true =>
      have due : ((s.issueStep g).1.gen g).firstStepDue ≠ true := by
        rw [State.issueStep_gen s g hm into, ((s.gen g).stepped_paced g m).2.2]
        exact Bool.false_ne_true
      exact ⟨(s.issueStep_only g).move.vTaking, by have := s.issueStep_load g hm into; omega, fun d => absurd d due,
        fun _ d => absurd d due⟩

theorem State.failSearch_paces (s : State) (g : GenId) (k : NotFound) : State.Paces g 0 s (s.failSearch g k).1 :=
  (State.Paces.modGen s g (fun n => n.markSearch k) (le_refl _) id fun d => ⟨d, fun m => by
    simpa [Generator.markSearch, Generator.modMove] using m⟩).trans
    ((State.flushAll_paces _ g).trans (State.brake_paces _ g _))

theorem State.afterStep_paces (s : State) (g : GenId) (e : StepEnd) : State.Paces g 0 s (s.afterStep g e).1 := by
  unfold State.afterStep
  split
  · exact .refl _ _ _
  · split
    · exact s.closeStopped_paces g
    · exact s.closeMove_paces g _
  · exact (s.flushAll_paces g).trans (State.closeMove_paces _ g _)
  · exact s.failSearch_paces g _

/-- A move's first step is handed over, or put off while axis V takes an event. -/
theorem State.firstStep_paces (s : State) (g : GenId) (h : (s.gen g).current.isSome = true) :
    State.Paces g 1 s (s.firstStep g).1 := by
  unfold State.firstStep
  split <;> rename_i e
  · have gen : (s.modGen g fun n => { n with firstStepDue := true }).gen g = { s.gen g with firstStepDue := true } :=
      State.modGen_gen_same _ _ _
    refine ⟨rfl, ?_, fun _ => .inr e, fun _ _ => ?_⟩ <;> dsimp only
    · unfold State.load Generator.work
      rw [gen, State.modGen_vEvents]
      change s.vEvents.length + ((s.gen g).queue.length + (if (s.gen g).state = .armed then 1 else 0) + 1) ≤ _
      omega
    · rw [gen]; exact h
  · exact ((s.issueStep_paces g).trans (State.afterStep_paces _ g _))

theorem Generator.started_paced (n : Generator) (r : MoveRecord) (lines : InputLines) :
    (n.started r lines).state ≠ .armed ∧ (n.started r lines).current.isSome = true ∧
      (n.started r lines).firstStepDue = n.firstStepDue := by
  unfold Generator.started
  split <;> exact ⟨nofun, rfl, rfl⟩

/-- The start of a move hands over one count event at most, and an ARMED move is ARMED no more (R90, R93). -/
theorem State.startMove_paces (s : State) (g : GenId) (r : MoveRecord) (b : Bool) :
    State.Paces g 1 s (s.startMove g r b).1 ∧
      (s.startMove g r b).1.load g + (if (s.gen g).state = .armed then 1 else 0) ≤ s.load g + 1 := by
  obtain ⟨state, current, due⟩ := (s.gen g).started_paced r s.lines
  have queue := ((s.gen g).started_keeps r s.lines).1
  have gen := s.startedAt_gen g r b
  have started : State.Paces g 0 s (s.startedAt g r b) :=
    .of_gen ((State.postHolder_reach _ _ _).vTaking) (State.postGen_vEvents _ g _) (by rw [gen, queue])
      (fun k => absurd (gen ▸ k) state) (fun d => ⟨by rw [gen, due] at d; exact d, fun _ => by rw [gen]; exact current⟩)
  have less : (s.startedAt g r b).load g + (if (s.gen g).state = .armed then 1 else 0) = s.load g := by
    have events : (s.startedAt g r b).vEvents = s.vEvents := State.postGen_vEvents _ g _
    unfold State.load Generator.work
    rw [gen, queue, due, events, if_neg state]
    omega
  have then_ (p : State × Bool) (h : State.Paces g 1 (s.startedAt g r b) p.1) :
      State.Paces g 1 s p.1 ∧ p.1.load g + (if (s.gen g).state = .armed then 1 else 0) ≤ s.load g + 1 :=
    ⟨(started.trans h).mono (by omega), by have := h.load; omega⟩
  rcases s.startMove_cases g r b with e | e | ⟨cause, e⟩ <;> rw [e]
  · exact then_ (_, false) (.refl _ _ _)
  · exact then_ _ (State.firstStep_paces _ g (by rw [gen]; exact current))
  · exact then_ (_, true) ((State.closeMove_paces _ g cause).mono (by omega))

theorem State.consumeTrigger_paces (s : State) (g : GenId) (r : MoveRecord) : State.Paces g 0 s (s.consumeTrigger g r) := by
  have gen := s.consumeTrigger_gen g r
  refine .quiet (s.consumeTrigger_only g r).move.vTaking ?_ ?_ ?_ ?_ ?_
  · unfold State.consumeTrigger; split <;> rfl
  all_goals rw [gen]

/-- A record taken from the queue is one count event at most. -/
theorem State.takeQueue_paces (g : GenId) (i : Nat) (s : State) : State.Paces g 0 s (State.takeQueue g i s) := by
  induction i generalizing s with
  | zero => exact s.settle_paces g
  | succ i ih =>
    unfold State.takeQueue
    split <;> rename_i queue
    · exact s.settle_paces g
    · rename_i r rest
      dsimp only
      have gen : (s.modGen g fun n => { n with queue := rest }).gen g = { s.gen g with queue := rest } := State.modGen_gen_same _ _ _
      have taken : State.Paces g 0 s (s.modGen g fun n => { n with queue := rest }) :=
        .modGen s g _ (by rw [queue]; simp) id fun d => ⟨d, id⟩
      have less : (s.modGen g fun n => { n with queue := rest }).load g + 1 = s.load g := by
        unfold State.load Generator.work
        rw [gen, queue, List.length_cons]
        dsimp only [State.modGen_vEvents]
        omega
      generalize s.modGen g (fun n => { n with queue := rest }) = t at taken less
      split
      · have armed : ∀ m : CurrentMove, State.Paces g 1 t (t.modGen g fun n => { n with state := .armed, current := some m }) := fun m => by
          have gen' : (t.modGen g fun n => { n with state := .armed, current := some m }).gen g =
              { t.gen g with state := .armed, current := some m } := State.modGen_gen_same _ _ _
          refine ⟨rfl, ?_, fun d => .inl (by rw [gen'] at d; exact d), fun _ _ => by rw [gen']; rfl⟩
          unfold State.load Generator.work
          rw [gen']
          rw [State.modGen_vEvents]
          change t.vEvents.length + ((t.gen g).queue.length + 1 + if (t.gen g).firstStepDue = true then 1 else 0) ≤ _
          omega
        have a := armed { record := r, started := false, issued := 0, remaining := r.kind.limit, dir := .up, search := none }
        have both := taken.trans a
        exact ⟨both.taking, by have := a.load; omega, both.due, both.moves⟩
      · have start := ((t.consumeTrigger_paces g r).trans (State.startMove_paces _ g r (decide (r.start = .onTrigger))).1)
        have both := taken.trans start
        have all : State.Paces g 0 s ((t.consumeTrigger g r).startMove g r (decide (r.start = .onTrigger))).1 :=
          ⟨both.taking, by have := start.load; omega, both.due, both.moves⟩
        split
        · exact all.trans (ih _)
        · exact all

theorem State.nextMove_paces (s : State) (g : GenId) : State.Paces g 0 s (s.nextMove g) := State.takeQueue_paces g _ s

theorem State.endMove_paces (s : State) (g : GenId) (cause : EndCause) : State.Paces g 0 s (s.endMove g cause) :=
  (s.closeMove_paces g cause).trans (State.nextMove_paces _ g)

theorem State.thenNext_paces (r : State × Bool) (g : GenId) : State.Paces g 0 r.1 (State.thenNext r g) := by
  unfold State.thenNext
  split
  · exact State.nextMove_paces _ g
  · exact .refl _ _ _

theorem State.takeStep_paces (s : State) (g : GenId) : State.Paces g 1 s (s.takeStep g) :=
  ((s.issueStep_paces g).trans (State.afterStep_paces _ g _)).trans (State.thenNext_paces _ g)

theorem State.trigger_paces (s : State) (g : GenId) (source : TriggerSource) : State.Paces g 0 s (s.trigger g source) := by
  have lost := s.postGen_paces g (.triggerLost g source (s.gen g).state)
  have held : State.Paces g 0 s
      (if (s.gen g).pendingTrigger then s.postGen g (.triggerLost g source (s.gen g).state)
      else s.modGen g fun n => { n with pendingTrigger := true }) := by
    split
    · exact lost
    · exact .modGen s g (fun n => { n with pendingTrigger := true }) (le_refl _) id fun d => ⟨d, id⟩
  unfold State.trigger
  dsimp only
  split <;> rename_i state
  · split
    · rename_i m _
      obtain ⟨paces, less⟩ := s.startMove_paces g m.record true
      rw [if_pos state] at less
      have next := State.thenNext_paces (s.startMove g m.record true) g
      have both := paces.trans next
      exact ⟨both.taking, by have := next.load; omega, both.due, both.moves⟩
    · exact .refl _ _ _
  all_goals first | exact held | exact lost

theorem State.rampStop_paces (s : State) (g : GenId) : State.Paces g 0 s (s.rampStop g) := by
  have ended := (s.flushAll_paces g).trans (State.endMove_paces _ g .stopped)
  have slow := ((s.flushAll_paces g).trans (State.brake_paces _ g .stop)).trans (State.thenNext_paces _ g)
  unfold State.rampStop
  split <;> first | exact .refl _ _ _ | exact ended | exact slow

theorem State.haltEntry_paces (s : State) (g : GenId) : State.Paces g 0 s (s.haltEntry g) := by
  have pre := (State.Paces.modGen s g (fun n => { n with halt := true }) (le_refl _) id fun d => ⟨d, id⟩).trans
    (State.flushAll_paces _ g)
  have ended := pre.trans (State.endMove_paces _ g .halted)
  have slow := (pre.trans (State.brake_paces _ g .halt)).trans (State.thenNext_paces _ g)
  unfold State.haltEntry
  dsimp only
  split
  · exact pre.trans (.modGen _ g (fun n => { n with state := .halted }) (le_refl _) nofun fun d => ⟨d, id⟩)
  · exact ended
  · exact ended
  · exact ended
  · exact slow
  · exact slow
  · exact pre.trans (.modGen _ g (fun n => { n with stopRate := some .halt }) (le_refl _) id fun d => ⟨d, id⟩)
  · exact pre

theorem State.haltClear_paces (s : State) (g : GenId) : State.Paces g 0 s (s.haltClear g) := by
  have pre := State.Paces.modGen s g (fun n => { n with halt := false }) (le_refl _) id fun d => ⟨d, id⟩
  unfold State.haltClear
  dsimp only
  split
  · exact (pre.trans (.modGen _ g (fun n => { n with state := .idle }) (le_refl _) nofun fun d => ⟨d, id⟩)).trans
      (State.reportIdle_paces _ g)
  · exact pre

theorem Generator.searchRamp_paced (n : Generator) :
    n.searchRamp.queue = n.queue ∧ n.searchRamp.firstStepDue = n.firstStepDue ∧ n.searchRamp.current.isSome = n.current.isSome := by
  unfold Generator.searchRamp
  split <;> rename_i hm
  · rw [hm]; exact ⟨rfl, rfl, rfl⟩
  · split
    · split
      · split
        · split
          · rw [hm]; exact ⟨rfl, rfl, rfl⟩
          · exact ⟨rfl, rfl, rfl⟩
        · exact ⟨rfl, rfl, rfl⟩
      · exact ⟨rfl, rfl, rfl⟩
    · exact ⟨rfl, rfl, rfl⟩

theorem State.rampTick_paces (s : State) (g : GenId) : State.Paces g 0 s (s.rampTick g) := by
  have pre := State.Paces.modGen s g (fun n => { n with rampLeft := some 1 }) (le_refl _) id fun d => ⟨d, id⟩
  have stopped (t : State) : State.Paces g 0 t ((t.closeStopped g).nextMove g) :=
    (t.closeStopped_paces g).trans (State.nextMove_paces _ g)
  unfold State.rampTick
  dsimp only
  generalize s.modGen g (fun n => { n with rampLeft := some 1 }) = t at pre ⊢
  split
  · split
    · exact pre
    · split
      · rename_i v ph _
        exact pre.trans (.modGen t g (fun n => { n with speed := v, phase := some ph }) (le_refl _) id fun d => ⟨d, id⟩)
      · exact pre.trans (State.endMove_paces _ g _)
  · obtain ⟨queue, due, current⟩ := (t.gen g).searchRamp_paced
    exact pre.trans (.modGen t g Generator.searchRamp (by rw [queue]) (by rw [Generator.searchRamp_state]; exact id)
      (by rw [due, current]; exact fun d => ⟨d, id⟩))
  · split
    · exact pre.trans (stopped _)
    · have slower := pre.trans (.modGen t g (fun n => { n with speed := n.speed - n.stopDecelNow }) (le_refl _) id fun d => ⟨d, id⟩)
      split
      · exact slower.trans (stopped _)
      · exact slower
  all_goals exact .refl _ _ _

theorem State.followEvent_paces (s : State) (x : AxisId) (d : AxisDir) (g : GenId) : State.Paces g 0 s (s.followEvent x d g) := by
  cases now : (s.gen g).followsNow x with
  | false => rw [s.followEvent_of_not d now]; exact .refl _ _ _
  | true =>
    obtain ⟨state, m, num, den, limit, hm, kind⟩ := (Generator.followsNow_iff _ x).mp now
    rw [s.followEvent_of_follows d state hm kind]
    split
    · exact .modGen s g (fun n => { n with accumulator := _, backlog := _, backlogDir := _ }) (le_refl _) id fun d => ⟨d, id⟩
    · exact (s.flush_paces g).trans (State.endMove_paces _ g _)

theorem State.setSearch_paces (s : State) (g : GenId) (r : Generator → SearchRecord) :
    State.Paces g 0 s (s.modGen g fun n => n.setSearch (r n)) :=
  .modGen s g _ (le_refl _) id fun d => ⟨d, fun m => by simpa [Generator.setSearch, Generator.modMove] using m⟩

theorem State.searchDone_paces (s : State) (g : GenId) (f : HomeFields) : State.Paces g 0 s (s.searchDone g f) :=
  (State.Paces.modGen s g (fun n => { n with counter := f.home }) (le_refl _) id fun d => ⟨d, id⟩).trans (State.endMove_paces _ g _)

theorem State.refEdgeAt_paces (s : State) (line : RefLine) (rising : Bool) (g : GenId) :
    State.Paces g 0 s (s.refEdgeAt line rising g) := by
  unfold State.refEdgeAt
  split
  · exact .refl _ _ _
  · split
    · split
      · exact s.setSearch_paces g _
      · split
        · exact .refl _ _ _
        · exact s.setSearch_paces g _
      · split
        · exact (s.failSearch_paces g _).trans (State.thenNext_paces _ g)
        · exact .refl _ _ _
      · split
        · exact s.searchDone_paces g _
        · exact .refl _ _ _
      all_goals exact .refl _ _ _
    · exact .refl _ _ _

theorem State.markerEdgeAt_paces (s : State) (e : Encoder) (g : GenId) : State.Paces g 0 s (s.markerEdgeAt e g) := by
  unfold State.markerEdgeAt
  split
  · exact .refl _ _ _
  · split
    · dsimp only
      split
      · exact (s.setSearch_paces g _).trans (State.searchDone_paces _ g _)
      · exact s.setSearch_paces g _
    · exact .refl _ _ _

/-- A record appended is one count event more at most. -/
theorem State.append_paces (s : State) (g : GenId) (r : MoveRecord) : State.Paces g 1 s (s.append g r) := by
  have gen : (s.modGen g fun n => { n with queue := n.queue ++ [r] }).gen g = { s.gen g with queue := (s.gen g).queue ++ [r] } :=
    State.modGen_gen_same _ _ _
  have pre : State.Paces g 1 s (s.modGen g fun n => { n with queue := n.queue ++ [r] }) := by
    refine ⟨rfl, ?_, fun d => .inl (by rw [gen] at d; exact d), fun m d => ?_⟩
    · unfold State.load Generator.work
      rw [gen, List.length_append]
      dsimp only [State.modGen_vEvents]
      simp
      omega
    · rw [gen] at d ⊢; exact m d
  unfold State.append
  dsimp only
  split
  · exact pre.trans (State.nextMove_paces _ g)
  · split
    · exact pre
    · split
      · split
        · exact pre.trans (.modGen _ g (fun n => { n with endByNext := true }) (le_refl _) id fun d => ⟨d, id⟩)
        · exact pre
      · exact pre.trans (State.endMove_paces _ g _)
      all_goals exact pre

end Sys2Proof.Machine
end

section
/-! SUPPORT. The count events of axis V within a command (R4, R9; log 7): how each part leaves their number and the first steps
put off, and that taking them in turn comes to an end with none left. -/

namespace Sys2Proof.Machine

variable {s t u : State}

/-- The generators stand between events of axis V: none is being taken and no first step is put off. -/
structure State.Undue (s : State) : Prop where
  not_taking : s.vTaking = false
  no_first_step : ∀ g, (s.gen g).firstStepDue = false

/-- No first step is put off, but at GV while axis V takes an event. -/
structure State.Steps (s t : State) : Prop where
  taking : t.vTaking = s.vTaking
  due : ∀ g, (t.gen g).firstStepDue = true → (s.gen g).firstStepDue = true ∨ g = .gv ∧ s.vTaking = true

/-- The same, and no count event of axis V is handed over. -/
structure State.Hushed (s t : State) : Prop extends State.Steps s t where
  events : t.vEvents = s.vEvents

/-- The same, and the count events of axis V still to be taken, with those that GV may still bring about, are no more. -/
structure State.Flows (s t : State) : Prop extends State.Steps s t where
  load : t.load .gv ≤ s.load .gv
  moves :
    ((s.gen .gv).firstStepDue = true → (s.gen .gv).current.isSome = true) →
      (t.gen .gv).firstStepDue = true → (t.gen .gv).current.isSome = true

theorem State.settled_iff : s.Settled ↔ s.Undue ∧ s.vEvents = [] :=
  ⟨fun h => ⟨⟨h.not_taking, h.no_first_step⟩, h.no_events⟩, fun ⟨h, e⟩ => ⟨e, h.not_taking, h.no_first_step⟩⟩

theorem State.Undue.steps (h : s.Undue) (k : s.Steps t) : t.Undue := by
  refine ⟨k.taking.trans h.not_taking, fun g => Bool.eq_false_iff.mpr fun d => ?_⟩
  rcases k.due g d with e | ⟨-, e⟩
  · rw [h.no_first_step] at e; cases e
  · rw [h.not_taking] at e; cases e

theorem State.Settled.hushed (h : s.Settled) (k : s.Hushed t) : t.Settled :=
  have ⟨undue, events⟩ := State.settled_iff.mp h
  State.settled_iff.mpr ⟨undue.steps k.toSteps, k.events.trans events⟩

namespace State.Steps

theorem of_gens (taking : t.vTaking = s.vTaking) (gens : t.gens = s.gens) : s.Steps t :=
  ⟨taking, fun g d => .inl (by rw [State.gen_congr gens] at d; exact d)⟩

theorem refl (s : State) : s.Steps s := .of_gens rfl rfl

theorem trans (h : s.Steps t) (k : t.Steps u) : s.Steps u :=
  ⟨k.taking.trans h.taking, fun g d => (k.due g d).elim (h.due g) fun e => .inr ⟨e.1, h.taking ▸ e.2⟩⟩

theorem of_paces {g : GenId} {k : Nat} (only : ∃ n, GenOnly g n s t) (p : State.Paces g k s t) : s.Steps t := by
  obtain ⟨n, only⟩ := only
  refine ⟨p.taking, fun i d => ?_⟩
  by_cases e : i = g
  · subst i; exact p.due d
  · rw [only.others i e] at d; exact .inl d

end State.Steps

namespace State.Hushed

theorem of_gens (taking : t.vTaking = s.vTaking) (events : t.vEvents = s.vEvents) (gens : t.gens = s.gens) : s.Hushed t :=
  ⟨.of_gens taking gens, events⟩

theorem refl (s : State) : s.Hushed s := .of_gens rfl rfl rfl

theorem trans (h : s.Hushed t) (k : t.Hushed u) : s.Hushed u := ⟨h.toSteps.trans k.toSteps, k.events.trans h.events⟩

end State.Hushed

namespace State.Flows

theorem of_gens (taking : t.vTaking = s.vTaking) (events : t.vEvents = s.vEvents) (gens : t.gens = s.gens) : s.Flows t := by
  have gen := State.gen_congr gens .gv
  refine ⟨.of_gens taking gens, ?_, fun m => by rw [gen]; exact m⟩
  unfold State.load
  rw [events, gen]

theorem refl (s : State) : s.Flows s := .of_gens rfl rfl rfl

theorem trans (h : s.Flows t) (k : t.Flows u) : s.Flows u :=
  ⟨h.toSteps.trans k.toSteps, k.load.trans h.load, fun m => k.moves (h.moves m)⟩

/-- An operation at a generator that brings about no count event more. -/
theorem of_paces {g : GenId} (only : ∃ n, GenOnly g n s t) (p : State.Paces g 0 s t) : s.Flows t := by
  refine ⟨.of_paces only p, ?_, ?_⟩ <;> by_cases e : g = .gv
  · subst e; exact p.load
  · obtain ⟨n, only⟩ := only
    obtain ⟨l, events, none⟩ := only.events
    unfold State.load
    rw [events, none e, List.append_nil, only.others .gv (Ne.symm e)]
  · subst e; exact p.moves
  · obtain ⟨n, only⟩ := only
    rw [only.others .gv (Ne.symm e)]
    exact id

theorem takeParts (parts : List (Bool × (State → State))) (h : ∀ f ∈ parts, ∀ t, State.Flows t (f.2 t)) (s : State) :
    s.Flows (takeParts parts s) :=
  takeParts_keeps State.Flows .refl (fun _ _ _ h k => h.trans k) (fun _ => .of_gens rfl rfl rfl) parts h s

end State.Flows

theorem PortsOnly.flows (h : PortsOnly s t) : s.Flows t := .of_gens h.vTaking h.vEvents h.gens
theorem PortsOnly.hushed (h : PortsOnly s t) : s.Hushed t := .of_gens h.vTaking h.vEvents h.gens
theorem CamOnly.flows (h : CamOnly s t) : s.Flows t := .of_gens h.vTaking h.vEvents h.gens
theorem CommitOnly.flows (h : CommitOnly s t) : s.Flows t := .of_gens h.vTaking h.vEvents h.gens
theorem CommitOnly.hushed (h : CommitOnly s t) : s.Hushed t := .of_gens h.vTaking h.vEvents h.gens
theorem CaptureOnly.flows (h : CaptureOnly s t) : s.Flows t := .of_gens h.vTaking h.vEvents h.gens

variable (s)

/-! ### A count event -/

theorem State.fireAction_flows (x : AxisId) (e : CompareEntry) : s.Flows (s.fireAction x e).1 := by
  have out (p : PortId) (o : OutputId) (f : Channel → Channel) : s.Flows (s.outAction p o f).1 :=
    have reach := s.outAction_reach p o f
    .of_gens reach.vTaking reach.vEvents reach.gens
  unfold State.fireAction
  split
  · exact .refl s
  · exact out _ _ _
  · exact out _ _ _
  · exact out _ _ _
  · exact out _ _ _
  · split
    · exact .of_paces (s.trigger_only _ .compare) (s.trigger_paces _ .compare)
    · exact .refl s
  · exact (s.logCapture_reach x .compare e.target).flows

theorem State.fire_flows (x : AxisId) (d : AxisDir) (e : CompareEntry) : s.Flows (s.fire x d e) :=
  ((s.fireAction_flows x e).trans (.of_gens (t := (s.fireAction x e).1.setCompareList x _) rfl rfl rfl)).trans
    (State.post_reach _ e.owner _).flows

theorem State.compareEvent_flows (x : AxisId) (d : AxisDir) : s.Flows (s.compareEvent x d) := by
  unfold State.compareEvent
  induction s.dueEntries x d generalizing s with
  | nil => exact .refl s
  | cons e l ih => exact (s.fire_flows x d e).trans (ih _)

/-- A count event brings about no count event of axis V that was not already owing. -/
theorem State.countEvent_flows (x : AxisId) (d : AxisDir) : s.Flows (s.countEvent x d) := by
  have follow (u v : State) : ∀ f ∈ u.followParts x d, State.Flows v (f.2 v) := fun f hf => by
    obtain ⟨g, -, rfl⟩ := List.mem_map.mp hf
    exact .of_paces (v.followEvent_only x d g) (v.followEvent_paces x d g)
  have counted (parts : List (Bool × (State → State))) (h : ∀ f ∈ parts, ∀ v, State.Flows v (f.2 v)) (f : Axis → Axis) :
      s.Flows (takeParts parts ((s.modAxis x fun a => a.counted d).modAxis x f)) :=
    State.Flows.trans (t := (s.modAxis x fun a => a.counted d).modAxis x f) (.of_gens rfl rfl rfl) (.takeParts parts h _)
  unfold State.countEvent
  dsimp only
  split
  · exact State.Flows.trans (t := s.modAxis x fun a => a.counted d) (.of_gens rfl rfl rfl) (.takeParts _ (fun f hf v => follow _ v f hf) _)
  · refine counted _ (fun f hf v => ?_) _
    rcases List.mem_cons.mp hf with rfl | hf
    · exact (v.camEvent_reach x _).flows
    · rcases List.mem_cons.mp hf with rfl | hf
      · exact v.compareEvent_flows x d
      · exact follow _ v f hf
  · refine counted _ (fun f hf v => ?_) _
    rcases List.mem_cons.mp hf with rfl | hf
    · exact (v.evaluateAxis_reach x).flows
    · rcases List.mem_cons.mp hf with rfl | hf
      · exact (v.broadcast_reach _ _).flows
      · exact follow _ v f hf

/-! ### The events of axis V taken in turn -/

/-- The first step put off is issued: its count event is handed over in its place (R56). -/
theorem State.takeStep_deferred (due : (s.gen .gv).firstStepDue = true) (move : (s.gen .gv).current.isSome = true)
    (idle : s.vTaking = false) : (s.takeStep .gv).load .gv ≤ s.load .gv ∧ ((s.takeStep .gv).gen .gv).firstStepDue = false := by
  obtain ⟨m, hm⟩ := Option.isSome_iff_exists.mp move
  have rest (u : State) (e : StepEnd) (taking : u.vTaking = false) (le : u.load .gv ≤ s.load .gv)
      (none : ((u.afterStep .gv e).1.gen .gv).firstStepDue = false) :
      (State.thenNext (u.afterStep .gv e) .gv).load .gv ≤ s.load .gv ∧
        ((State.thenNext (u.afterStep .gv e) .gv).gen .gv).firstStepDue = false := by
    have after := u.afterStep_paces .gv e
    have next := State.thenNext_paces (u.afterStep .gv e) .gv
    refine ⟨by have := next.load; have := after.load; omega, Bool.eq_false_iff.mpr fun d => ?_⟩
    rcases next.due d with e | ⟨-, e⟩
    · rw [none] at e; cases e
    · rw [after.taking, taking] at e; cases e
  change (State.thenNext ((s.issueStep .gv).1.afterStep .gv (s.issueStep .gv).2) .gv).load .gv ≤ _ ∧
    ((State.thenNext ((s.issueStep .gv).1.afterStep .gv (s.issueStep .gv).2) .gv).gen .gv).firstStepDue = false
  cases into : inCountRange (((s.gen .gv).motion m).move (s.gen .gv).counter) with
  | false =>
    rw [State.issueStep_out s .gv hm into]
    refine rest s _ idle (le_refl _) ?_
    exact State.closeMove_due (s.flushAll .gv) .gv .outOfRange (by
      have only := s.flushAll_gen .gv
      rw [only]; exact move)
  | true =>
    have none : ((s.issueStep .gv).1.gen .gv).firstStepDue = false := by
      rw [State.issueStep_gen s .gv hm into, ((s.gen .gv).stepped_paced .gv m).2.2]
    refine rest _ _ ((s.issueStep_paces .gv).taking.trans idle) ?_ (Bool.eq_false_iff.mpr fun d => ?_)
    · have := s.issueStep_load .gv hm into
      rw [if_pos due] at this
      omega
    · rcases (State.afterStep_paces _ .gv _).due d with e | ⟨-, e⟩
      · rw [none] at e; cases e
      · rw [(s.issueStep_paces .gv).taking, idle] at e; cases e

theorem State.deferredStep_flows (idle : s.vTaking = false)
    (moves : (s.gen .gv).firstStepDue = true → (s.gen .gv).current.isSome = true)
    (others : ∀ g, g ≠ .gv → (s.gen g).firstStepDue = false) :
    s.deferredStep.load .gv ≤ s.load .gv ∧ s.deferredStep.Undue := by
  unfold State.deferredStep
  split <;> rename_i due
  · obtain ⟨load, none⟩ := s.takeStep_deferred due (moves due) idle
    obtain ⟨n, only⟩ := s.takeStep_only .gv
    refine ⟨load, (s.takeStep_paces .gv).taking.trans idle, fun g => ?_⟩
    by_cases e : g = .gv
    · rw [e]; exact none
    · rw [only.others g e]; exact others g e
  · refine ⟨le_refl _, idle, fun g => ?_⟩
    by_cases e : g = .gv
    · rw [e]; exact Bool.eq_false_iff.mpr due
    · exact others g e

/-- As many turns as there are count events owing take them all (log 7). -/
theorem State.Undue.drainSteps (n : Nat) (h : s.Undue) (enough : s.load .gv ≤ n) : (State.drainSteps n s).Settled := by
  induction n generalizing s with
  | zero =>
    refine State.settled_iff.mpr ⟨h, List.length_eq_zero_iff.mp ?_⟩
    unfold State.load at enough
    exact Nat.le_zero.mp ((Nat.le_add_right _ _).trans enough)
  | succ n ih =>
    unfold State.drainSteps
    split <;> rename_i events
    · exact State.settled_iff.mpr ⟨h, events⟩
    · rename_i d rest
      dsimp only
      have flows := State.countEvent_flows { s with vEvents := rest, vTaking := true } .v d
      generalize State.countEvent { s with vEvents := rest, vTaking := true } .v d = t at flows ⊢
      have owing : State.load { s with vEvents := rest, vTaking := true } .gv + 1 = s.load .gv := by
        unfold State.load
        rw [events, List.length_cons]
        change rest.length + (s.gen .gv).work + 1 = _
        omega
      have step := State.deferredStep_flows { t with vTaking := false } rfl
        (flows.moves fun due => absurd due (Bool.eq_false_iff.mp (h.no_first_step .gv)))
        fun g e => Bool.eq_false_iff.mpr fun due => (flows.due g due).elim (Bool.eq_false_iff.mp (h.no_first_step g)) fun k => e k.1
      have load : State.load { t with vTaking := false } .gv = t.load .gv := rfl
      exact ih _ step.2 (by have := step.1; have := flows.load; omega)

/-- Every count event of axis V that a command has brought about is taken with it (R4, R9). -/
theorem State.Undue.drain (h : s.Undue) : s.drain.Settled := by
  refine State.Undue.drainSteps _ _ h ?_
  unfold State.load Generator.work
  rw [if_neg (Bool.eq_false_iff.mp (h.no_first_step .gv))]
  split <;> omega

end Sys2Proof.Machine
end

section
/-! SUPPORT. The commands and the count events of axis V (R4, R9; log 7): which parts leave the generators as they are, which
bring no count event about, and that every command leaves none outstanding. -/

namespace Sys2Proof.Machine

variable {s t u : State}

/-! ### Operations at a generator whose queue is flushed -/

section flushed

variable (s : State) (g : GenId)

theorem State.flush_vEvents : (s.flush g).vEvents = s.vEvents := by
  unfold State.flush
  dsimp only
  split
  · rfl
  · exact State.postGen_vEvents _ g _

theorem State.flushAll_vEvents : (s.flushAll g).vEvents = s.vEvents := s.flush_vEvents g

theorem State.closeMove_vEvents (cause : EndCause) : (s.closeMove g cause).vEvents = s.vEvents := by
  unfold State.closeMove
  split
  · rfl
  · exact State.postGen_vEvents _ g _

theorem State.nextMove_empty (empty : (s.gen g).queue = []) : s.nextMove g = s.settle g := by
  unfold State.nextMove
  rw [empty]
  rfl

theorem State.endMove_vEvents (cause : EndCause) (empty : (s.gen g).queue = []) : (s.endMove g cause).vEvents = s.vEvents := by
  unfold State.endMove
  rw [State.nextMove_empty _ g (by rw [State.closeMove_queue]; exact empty), State.settle_vEvents, State.closeMove_vEvents]

theorem State.brake_vEvents (rate : StopRate) : (s.brake g rate).1.vEvents = s.vEvents := by
  rw [State.brake_eq]
  split
  · unfold State.closeStopped
    split
    · rfl
    · exact State.closeMove_vEvents _ g _
  · rfl

theorem State.brake_next_vEvents (rate : StopRate) (empty : (s.gen g).queue = []) :
    (State.thenNext (s.brake g rate) g).vEvents = s.vEvents := by
  unfold State.thenNext
  split
  · rw [State.nextMove_empty _ g (by rw [State.brake_queue]; exact empty), State.settle_vEvents, State.brake_vEvents]
  · exact s.brake_vEvents g rate

theorem State.rampStop_vEvents : (s.rampStop g).vEvents = s.vEvents := by
  have ended := ((s.flushAll g).endMove_vEvents g .stopped (s.flushAll_queue g)).trans (s.flushAll_vEvents g)
  have slow := ((s.flushAll g).brake_next_vEvents g .stop (s.flushAll_queue g)).trans (s.flushAll_vEvents g)
  unfold State.rampStop
  split
  · rfl
  · exact ended
  · exact ended
  · exact ended
  · exact slow
  · exact slow
  · rfl
  · rfl

theorem State.rampStop_hushed : s.Hushed (s.rampStop g) :=
  ⟨.of_paces (s.rampStop_only g) (s.rampStop_paces g), s.rampStop_vEvents g⟩

theorem State.haltEntry_hushed : s.Hushed (s.haltEntry g) := by
  refine ⟨.of_paces (s.haltEntry_only g) (s.haltEntry_paces g), ?_⟩
  unfold State.haltEntry
  dsimp only
  have events : ((s.modGen g fun n => { n with halt := true }).flushAll g).vEvents = s.vEvents := State.flushAll_vEvents _ g
  have empty := (s.modGen g fun n => { n with halt := true }).flushAll_queue g
  generalize (s.modGen g fun n => { n with halt := true }).flushAll g = t at events empty
  have ended := (t.endMove_vEvents g .halted empty).trans events
  have slow := (t.brake_next_vEvents g .halt empty).trans events
  split
  · exact events
  · exact ended
  · exact ended
  · exact ended
  · exact slow
  · exact slow
  · exact events
  · exact events

theorem State.haltClear_hushed : s.Hushed (s.haltClear g) := by
  refine ⟨.of_paces ⟨1, s.haltClear_only g⟩ (s.haltClear_paces g), ?_⟩
  unfold State.haltClear
  dsimp only
  split
  · exact State.reportIdle_vEvents _ g
  · rfl

end flushed

/-! ### The halt monitor and the session end -/

theorem takeParts_hushed (parts : List (Bool × (State → State))) (h : ∀ f ∈ parts, ∀ t, State.Hushed t (f.2 t)) (s : State) :
    s.Hushed (takeParts parts s) :=
  takeParts_keeps State.Hushed .refl (fun _ _ _ h k => h.trans k) (fun _ => .of_gens rfl rfl rfl) parts h s

theorem State.haltParts_hushed (u : State) (receivers : List HaltReceiver) (inForce : Bool) :
    ∀ f ∈ u.haltParts receivers inForce, ∀ t, State.Hushed t (f.2 t) := fun f hf t => by
  obtain ⟨g, -, rfl⟩ := List.mem_map.mp hf
  dsimp only
  split
  · exact t.haltEntry_hushed g
  · exact t.haltClear_hushed g

theorem State.answerClear_hushed (s : State) : s.Hushed s.answerClear := by
  unfold State.answerClear
  split
  · exact .refl s
  · split
    · exact .of_gens rfl rfl rfl
    · exact .of_gens rfl rfl rfl

theorem State.handOn_hushed (s : State) (late : List HaltReceiver) : s.Hushed (s.handOn late) := by
  have taken : s.Hushed (s.handOnTaken late) :=
    State.Hushed.trans (t := s.handOnChannels late) (.of_gens rfl rfl rfl) (takeParts_hushed _ (State.haltParts_hushed _ _ _) _)
  rw [State.handOn_eq]
  split
  · exact taken.trans (State.answerClear_hushed _)
  · exact taken

theorem State.completeHandOver_hushed (s : State) : s.Hushed s.completeHandOver := by
  unfold State.completeHandOver
  split
  · exact .refl s
  · exact s.handOn_hushed []

theorem State.continueHandOver_hushed (s : State) : s.Hushed s.continueHandOver := by
  unfold State.continueHandOver
  split
  · exact .refl s
  · exact State.Hushed.trans (t := s.choose) (.of_gens rfl rfl rfl) (State.handOn_hushed _ _)

theorem State.haltChange_hushed (s : State) (new : HaltState) (cause : HaltCause) (station : Nat) :
    s.Hushed (s.haltChange new cause station) := by
  unfold State.haltChange
  dsimp only
  split
  · exact State.Hushed.trans (t := { s with halt := new }) (.of_gens rfl rfl rfl) (State.broadcast_reach _ _ _).hushed
  · refine State.Hushed.trans (t := s.changeChannels new) (.of_gens rfl rfl rfl) (takeParts_hushed _ (fun f hf t => ?_) _)
    rcases List.mem_cons.mp hf with rfl | hf
    · exact (t.broadcast_reach _ _).hushed
    · exact State.haltParts_hushed _ _ _ f hf t

theorem State.haltAsserted_hushed (s : State) : s.Hushed s.haltAsserted := by
  have changed := (s.completeHandOver_hushed.trans
    (.of_gens (t := { s.completeHandOver with lines := { s.completeHandOver.lines with haltAsserted := true } }) rfl rfl rfl)).trans
    (State.haltChange_hushed _ .active .lineAsserted 0)
  unfold State.haltAsserted
  split
  · exact changed
  · exact changed
  · exact .refl s

theorem State.haltReleased_hushed (s : State) : s.Hushed s.haltReleased := by
  have changed := (s.completeHandOver_hushed.trans
    (.of_gens (t := { s.completeHandOver with lines := { s.completeHandOver.lines with haltAsserted := false } }) rfl rfl rfl)).trans
    (State.haltChange_hushed _ .latched .lineReleased 0)
  unfold State.haltReleased
  split
  · exact changed
  · exact .refl s
  · exact .refl s

theorem clearHaltRequest_hushed (p : PortId) (s : State) : s.Hushed (clearHaltRequest p s).1 := by
  unfold clearHaltRequest
  dsimp only
  split
  · exact s.completeHandOver_hushed
  · exact s.completeHandOver_hushed.trans (State.haltChange_hushed _ _ _ _)
  · exact s.completeHandOver_hushed

theorem State.cleanup_hushed (s : State) (r : Resource) : s.Hushed (s.cleanup r) := by
  cases r with
  | output o =>
    have reach := (s.eraseWindows_reach o).toCommitOnly.trans (State.arrive_reach _ o Channel.cleanup).toCommitOnly
    exact reach.hushed
  | generator g =>
    exact ⟨.of_paces ⟨0, s.modGen_only g fun n => { n with pendingTrigger := false }⟩
      (.modGen s g (fun n => { n with pendingTrigger := false }) (le_refl _) id fun d => ⟨d, id⟩), rfl⟩
  | axis x => exact .of_gens rfl rfl rfl

theorem State.handOver_hushed (s : State) (r : Resource) (station : Nat) (cause : ClaimCause) :
    s.Hushed (s.handOver r station cause) :=
  have reach := s.handOver_reach r station cause
  .of_gens reach.vTaking reach.vEvents reach.gens

theorem State.endClaim_hushed (p : PortId) (station : Nat) (s : State) (r : Resource) : s.Hushed (State.endClaim p station s r) := by
  have pass (r : Resource) : s.Hushed (s.passOn r station) := (s.cleanup_hushed r).trans (State.handOver_hushed _ r _ _)
  unfold State.endClaim
  split
  · split
    · exact pass _
    · exact pass _
    · split
      · exact pass _
      · exact State.Hushed.trans (t := s.setClaim _ _) (.of_gens rfl rfl rfl) (State.rampStop_hushed _ _)
  · exact .refl s

theorem State.endSession_hushed (s : State) (p : PortId) (cause : SessionCause) : s.Hushed (s.endSession p cause) := by
  have claims (l : List Resource) (t : State) : t.Hushed (l.foldl (State.endClaim p (s.station p)) t) := by
    induction l generalizing t with
    | nil => exact .refl t
    | cons r l ih => exact (State.endClaim_hushed p _ t r).trans (ih _)
  rw [State.endSession_eq]
  have gone : s.Hushed (s.sessionGone p cause) := by
    rw [s.sessionGone_reach p cause]
    exact .of_gens rfl rfl rfl
  exact gone.trans (claims _ _)

/-! ### The requests -/

/-- Two states that differ at most in what the requests reach that are not the generators' own. -/
structure OffGens (s t : State) : Prop where
  eq :
    t =
      { s with
        axes := t.axes, slots := t.slots, camLevels := t.camLevels, commits := t.commits, compares := t.compares,
        nextCompareId := t.nextCompareId, channels := t.channels, claims := t.claims, ports := t.ports, choices := t.choices }

theorem OffGens.refl (s : State) : OffGens s s := ⟨rfl⟩

theorem OffGens.gens (h : OffGens s t) : t.gens = s.gens := by rw [h.eq]
theorem OffGens.vEvents (h : OffGens s t) : t.vEvents = s.vEvents := by rw [h.eq]
theorem OffGens.vTaking (h : OffGens s t) : t.vTaking = s.vTaking := by rw [h.eq]
theorem OffGens.hushed (h : OffGens s t) : s.Hushed t := .of_gens h.vTaking h.vEvents h.gens

/-- Whether a request acts on generators: those of a generator's holder, Release and Clear Halt. -/
def actsOnGens : Request → Bool
  | .configureGenerator .. | .setGeneratorPosition .. | .appendMove .. | .stopGenerator .. | .triggerGenerator .. => true
  | .release _ => true
  | .clearHalt => true
  | _ => false

theorem State.axisRequest_offGens (s : State) (p : PortId) (axis : Byte) (k : AxisId → State × Reply)
    (part : ∀ x, OffGens s (k x).1) : OffGens s (s.axisRequest p axis k).1 := by
  unfold State.axisRequest
  split
  · exact .refl s
  · split
    · exact part _
    · exact .refl s

theorem claimRequest_offGens (p : PortId) (resource wait : Byte) (s : State) : OffGens s (claimRequest p resource wait s).1 := by
  unfold claimRequest
  split
  · dsimp only
    repeat' split
    all_goals exact ⟨rfl⟩
  · exact .refl s

theorem acknowledgeNoticesRequest_offGens (p : PortId) (number : Half) (s : State) :
    OffGens s (acknowledgeNoticesRequest p number s).1 := by
  unfold acknowledgeNoticesRequest
  dsimp only
  repeat' split
  all_goals exact ⟨rfl⟩

theorem configureAxisRequest_offGens (p : PortId) (axis mode : Byte) (cycle : Word) (sense : Byte) (gate : Half) (s : State) :
    OffGens s (configureAxisRequest p axis mode cycle sense gate s).1 := by
  refine s.axisRequest_offGens p axis _ fun x => ?_
  repeat' split
  all_goals exact ⟨rfl⟩

theorem presetAxisRequest_offGens (p : PortId) (axis : Byte) (turn : Half) (position : Word) (s : State) :
    OffGens s (presetAxisRequest p axis turn position s).1 := by
  refine s.axisRequest_offGens p axis _ fun x => ?_
  split
  · have reach := (s.modAxis x fun a => a.preset turn.toInt position.toInt).evaluateAxis_reach x
    exact ⟨by dsimp only; rw [reach.eq]; rfl⟩
  · exact .refl s

theorem armCaptureRequest_offGens (p : PortId) (axis source edge count : Byte) (s : State) :
    OffGens s (armCaptureRequest p axis source edge count s).1 := by
  refine s.axisRequest_offGens p axis _ fun x => ?_
  split <;> exact ⟨rfl⟩

theorem defineWindowRequest_offGens (p : PortId) (axis output : Byte) (raw : RawWindow) (s : State) :
    OffGens s (defineWindowRequest p axis output raw s).1 := by
  unfold defineWindowRequest
  repeat' split
  all_goals exact ⟨rfl⟩

theorem editWindowRequest_offGens (p : PortId) (slot : Byte) (raw : RawWindow) (s : State) :
    OffGens s (editWindowRequest p slot raw s).1 := by
  unfold editWindowRequest
  repeat' split
  all_goals exact ⟨rfl⟩

theorem deleteWindowRequest_offGens (p : PortId) (slot : Byte) (s : State) : OffGens s (deleteWindowRequest p slot s).1 := by
  unfold deleteWindowRequest
  repeat' split
  all_goals exact ⟨rfl⟩

theorem commitWindowsRequest_offGens (p : PortId) (axis timing : Byte) (s : State) :
    OffGens s (commitWindowsRequest p axis timing s).1 := by
  have apply (x : AxisId) (timing : CommitTiming) : OffGens s (s.applyCommit p x timing) := by
    constructor
    rw [(s.applyCommit_reach p x timing).eq]
  unfold commitWindowsRequest
  split
  · split
    · exact .refl s
    split
    · exact .refl s
    split
    · exact apply _ _
    · exact ⟨rfl⟩
  · exact .refl s

theorem queueCompareRequest_offGens (p : PortId) (raw : RawCompare) (s : State) : OffGens s (queueCompareRequest p raw s).1 := by
  unfold queueCompareRequest
  repeat' split
  all_goals exact ⟨rfl⟩

theorem State.outputRequest_offGens (s : State) (p : PortId) (output : Byte) (change : Option (Channel → Channel)) :
    OffGens s (s.outputRequest p output change).1 := by
  unfold State.outputRequest
  repeat' split
  all_goals exact ⟨rfl⟩

theorem readOutputsRequest_offGens (s : State) : OffGens s (readOutputsRequest s).1 := by
  rcases readOutputsRequest_cases s with ⟨-, -, e⟩ | ⟨later, -, e⟩ <;> rw [e] <;> exact ⟨rfl⟩

/-- The owning block's part of a request that does not act on generators. -/
theorem State.perform_offGens (s : State) (p : PortId) {r : Request} (k : actsOnGens r = false) : OffGens s (s.perform p r).1 := by
  cases r <;> unfold State.perform <;> dsimp only
  case unknown | badLength | renew | readHalt | readClaims => exact .refl s
  case openSession a b c =>
    unfold openSessionRequest
    repeat' split
    all_goals exact ⟨rfl⟩
  case closeSession | readPortStatus => exact ⟨rfl⟩
  case setSubscriptions u => unfold setSubscriptionsRequest; split <;> exact ⟨rfl⟩
  case acknowledgeNotices n => exact acknowledgeNoticesRequest_offGens p n s
  case claim r w => exact claimRequest_offGens p r w s
  case cancelWait r =>
    unfold cancelWaitRequest
    dsimp only
    repeat' split
    all_goals exact ⟨rfl⟩
  case configureAxis x m l d g => exact configureAxisRequest_offGens p x m l d g s
  case presetAxis x t pos => exact presetAxisRequest_offGens p x t pos s
  case readAxis x => rw [readAxisRequest_state]; exact .refl s
  case armCapture x source edge count => exact armCaptureRequest_offGens p x source edge count s
  case readCaptures x => exact s.axisRequest_offGens p x _ fun _ => ⟨rfl⟩
  case defineWindow x o w => exact defineWindowRequest_offGens p x o w s
  case editWindow i w => exact editWindowRequest_offGens p i w s
  case deleteWindow i => exact deleteWindowRequest_offGens p i s
  case commitWindows x t => exact commitWindowsRequest_offGens p x t s
  case cancelCommit x =>
    unfold cancelCommitRequest
    repeat' split
    all_goals exact ⟨rfl⟩
  case readWindow i => rw [readWindowRequest_state]; exact .refl s
  case queueCompare f => exact queueCompareRequest_offGens p f s
  case withdrawCompare id => unfold withdrawCompareRequest; split <;> exact ⟨rfl⟩
  case readCompares x i => rw [readComparesRequest_state]; exact .refl s
  case setOutputMode | setOutputLevel | setFallback | pulseOutput | clearOverlay => exact State.outputRequest_offGens _ _ _ _
  case readOutputs => exact readOutputsRequest_offGens s
  case readGenerator g => rw [readGeneratorRequest_state]; exact .refl s
  case configureGenerator | setGeneratorPosition | appendMove | stopGenerator | triggerGenerator | release | clearHalt =>
    cases k

theorem State.genRequest_steps (s : State) (p : PortId) (gen : Byte) (k : GenId → State × Reply)
    (part : ∀ g, s.Steps (k g).1) : s.Steps (s.genRequest p gen k).1 := by
  unfold State.genRequest
  split
  · exact .refl s
  · split
    · exact part _
    · exact .refl s

theorem State.modGen_steps (s : State) (g : GenId) (f : Generator → Generator)
    (due : (f (s.gen g)).firstStepDue = (s.gen g).firstStepDue) : s.Steps (s.modGen g f) := by
  refine ⟨rfl, fun i d => .inl ?_⟩
  by_cases e : i = g
  · subst i; rw [State.modGen_gen_same, due] at d; exact d
  · rw [State.modGen_gen_other _ _ _ _ e] at d; exact d

theorem appendMoveRequest_steps (p : PortId) (gen : Byte) (raw : RawMove) (s : State) : s.Steps (appendMoveRequest p gen raw s).1 := by
  refine s.genRequest_steps p gen _ fun g => ?_
  split
  · exact .refl s
  split
  · exact .refl s
  split
  · exact .refl s
  split
  · exact .refl s
  · exact .of_paces (s.append_only g _) (s.append_paces g _)

theorem State.posts_reach (s : State) (p : PortId) (notices : List NoticeKind) :
    PortsOnly s (notices.foldl (fun t n => t.post p n) s) := by
  induction notices generalizing s with
  | nil => exact .refl s
  | cons n l ih => exact (s.post_reach p n).trans (ih _)

theorem State.withdrawFor_hushed (s : State) (p : PortId) (r : Resource) : s.Hushed (s.withdrawFor p r) :=
  State.Hushed.trans (t := s.removeEntries fun e => e.actsFor p r) (.of_gens rfl rfl rfl) (State.posts_reach _ p _).hushed

theorem releaseRequest_steps (p : PortId) (resource : Byte) (s : State) : s.Steps (releaseRequest p resource s).1 := by
  unfold releaseRequest
  split
  · exact .refl s
  · split
    · split
      · exact (((s.withdrawFor_hushed p _).trans (State.cleanup_hushed _ _)).trans (State.handOver_hushed _ _ _ _)).toSteps
      · exact .refl s
    · exact .refl s

/-- The owning block's part of every request puts no first step off. -/
theorem State.perform_steps (s : State) (p : PortId) (r : Request) : s.Steps (s.perform p r).1 := by
  cases r
  case release r => exact releaseRequest_steps p r s
  case configureGenerator g m sd hd d =>
    refine s.genRequest_steps p g _ fun g => ?_
    split
    · split
      · exact s.modGen_steps g (fun n => { n with maxRate := _, stopDecel := _, haltDecel := _, sense := _ }) rfl
      · exact .refl s
    · exact .refl s
  case setGeneratorPosition g v =>
    refine s.genRequest_steps p g _ fun g => ?_
    split
    · exact .refl s
    · split
      · exact s.modGen_steps g (fun n => { n with counter := _ }) rfl
      · exact .refl s
  case appendMove g m => exact appendMoveRequest_steps p g m s
  case stopGenerator g m =>
    refine s.genRequest_steps p g _ fun g => ?_
    split
    · exact .of_paces (s.rampStop_only g) (s.rampStop_paces g)
    · exact .of_paces ⟨1, s.flush_only g⟩ (s.flush_paces g)
    · exact .refl s
  case triggerGenerator g =>
    refine s.genRequest_steps p g _ fun g => ?_
    split
    · exact .of_paces (s.trigger_only g .request) (s.trigger_paces g .request)
    · exact .refl s
  case clearHalt => exact (clearHaltRequest_hushed p s).toSteps
  all_goals exact (s.perform_offGens p rfl).hushed.toSteps

theorem State.Settled.answer (h : s.Settled) (p : PortId) (r : Request) : (s.answer p r).1.Settled := by
  unfold State.answer
  split
  · exact h
  · exact ((State.settled_iff.mp h).1.steps (s.perform_steps p r)).drain

/-! ### What a command keeps -/

/-- What every answer, every session end and every change of a port keeps. -/
structure Stable (P : State → Prop) : Prop where
  modPort : ∀ s p f, P s → P (s.modPort p f)
  frame : ∀ (s : State) (c : Option PortId) (n : Nat), P s → P { s with clearing := c, choices := n }
  answer : ∀ s p r, P s → P (s.answer p r).1
  endSession : ∀ s p cause, P s → P (s.endSession p cause)

namespace Stable

variable {P : State → Prop} (k : Stable P)

include k

theorem startNext (h : P s) (p : PortId) : P (s.startNext p) := by
  unfold State.startNext
  split <;> exact k.modPort _ _ _ h

theorem takeRequest (h : P s) (p : PortId) (seq : Byte) (r : Request) : P (s.takeRequest p seq r) := by
  have remembered : P ((s.answer p r).1.remember p seq (responseBody r (s.answer p r).2) (closesWith r (s.answer p r).2.status)) := by
    unfold State.remember
    split
    · exact k.answer s p r h
    · exact k.modPort _ _ _ (k.answer s p r h)
  unfold State.takeRequest
  dsimp only
  split
  · exact k.frame _ _ _ remembered
  · exact k.modPort _ _ _ remembered

theorem serveHead (h : P s) (p : PortId) : P (s.serveHead p) := by
  unfold State.serveHead
  split
  · exact h
  · split
    · exact k.modPort _ _ _ h
    · exact k.takeRequest h p _ _

theorem deliver (h : P s) (p : PortId) (seq : Byte) (r : Request) : P (s.deliver p seq r) := by
  have t : P (s.modSession p Session.restartLease) := k.modPort _ _ _ h
  unfold State.deliver
  dsimp only
  split
  · exact k.serveHead (k.modPort _ _ _ t) p
  · exact k.modPort _ _ _ t
  · exact k.modPort _ _ _ t

theorem arrival (h : P s) (p : PortId) (seq : Byte) (r : Request) : P (s.arrival p seq r) := by
  unfold State.arrival
  split
  · exact h
  · exact k.deliver h p seq r

theorem judge (h : P s) (p : PortId) (type seq len : Byte) (body : List Byte) (crc : Half) : P (s.judge p type seq len body crc) := by
  unfold State.judge
  split
  · exact k.modPort _ _ _ h
  · split
    · exact k.modPort _ _ _ h
    · exact k.deliver (k.modPort _ _ _ h) p _ _

theorem takeByte (h : P s) (p : PortId) (b : Byte) : P (s.takeByte p b) := by
  have moved (f : Port → Port) : P (s.modPort p f) := k.modPort _ _ _ h
  unfold State.takeByte
  split
  · exact h
  · split
    · split
      · exact moved _
      · exact h
    · exact moved _
    · exact moved _
    · split
      · exact moved _
      · exact moved _
    · exact moved _
    · exact moved _
    · exact k.judge h p _ _ _ _ _

theorem completeFrame (h : P s) (p : PortId) (b : Byte) : P (s.completeFrame p b) := by
  unfold State.completeFrame
  split
  · exact h
  · split
    · exact k.judge h p _ _ _ _ _
    all_goals exact h

theorem gap (h : P s) (p : PortId) : P (s.gap p) := by
  unfold State.gap
  split
  · exact h
  · exact k.modPort _ _ _ h

theorem breakLink (h : P s) (p : PortId) : P (s.breakLink p) := by
  have broken := k.modPort _ p Port.broken (k.frame s (if s.clearing = some p then none else s.clearing) s.choices h)
  unfold State.breakLink
  split
  · exact h
  · dsimp only
    split
    · exact k.endSession _ _ _ broken
    · exact broken

theorem serveHeld (h : P s) (p : PortId) : P (s.serveHeld p) := by
  have first (t : State) (h : P t) : P (((t.idleTx p).startNext p).serveHead p) := k.serveHead (k.startNext (k.modPort _ _ _ h) p) p
  have chosen : P { s with choices := s.choices + 1 } := k.frame s s.clearing _ h
  unfold State.serveHeld
  rcases State.eitherWay_cases s (fun t => ((t.idleTx p).startNext p).serveHead p)
    (fun t => ((t.serveHead p).idleTx p).startNext p) with ⟨-, e⟩ | e | e <;> rw [e]
  · exact first s h
  · exact first _ chosen
  · exact k.startNext (k.modPort _ _ _ (k.serveHead chosen p)) p

theorem responseEnds (h : P s) (p : PortId) (closes : Bool) : P (s.responseEnds p closes) := by
  have t := k.modPort s p (fun q => { q with intake := q.intake.tail }) h
  have idle := k.modPort _ p (fun q => { q with tx := none }) t
  unfold State.responseEnds
  dsimp only
  split
  · refine k.serveHead ?_ p
    split
    · exact k.endSession _ p _ idle
    · exact idle
  · split
    · exact k.startNext idle p
    · exact k.serveHeld t p

theorem frameEnds (h : P s) (p : PortId) : P (s.frameEnds p) := by
  have idle := k.modPort s p (fun q => { q with tx := none }) h
  unfold State.frameEnds
  split
  · exact h
  · split
    · exact k.responseEnds h p _
    · exact k.startNext idle p
    · exact k.startNext idle p

theorem resendExpires (h : P s) (p : PortId) : P (s.resendExpires p) := by
  unfold State.resendExpires
  split
  · exact h
  · split
    · exact k.modPort _ _ _ (k.modPort _ _ _ h)
    · exact h

/-- Every command keeps it that does so at an event of a field line or a clock, and at cold reset. -/
theorem exec (h : P s) (field : ∀ c event, fieldEvent c = some event → P (event s))
    (reset : ∀ lines straps, P (s.restart lines straps)) (c : Instr) : ∃ t, Machine.exec c s = .next t ∧ P t :=
  exec_cases s (motive := fun _ t => P t) (fun _ p seq r _ => k.arrival h p seq r) field reset (k.completeFrame h)
    (k.gap h) (k.breakLink h) (k.frameEnds h) (k.resendExpires h) (k.takeByte h) (fun _ => k.modPort _ _ _ h) c

end Stable

/-! ### No count event of axis V outlives its command (log 7) -/

theorem State.settled_stable : Stable State.Settled where
  modPort _ _ _ h := h.hushed (.of_gens rfl rfl rfl)
  frame _ _ _ h := h.hushed (.of_gens rfl rfl rfl)
  answer _ p r h := h.answer p r
  endSession _ p cause h := h.hushed (State.endSession_hushed _ p cause)

theorem State.Settled.steps_drain (h : s.Settled) (k : s.Steps t) : t.drain.Settled := ((State.settled_iff.mp h).1.steps k).drain

theorem takeParts_steps (parts : List (Bool × (State → State))) (h : ∀ f ∈ parts, ∀ t, State.Steps t (f.2 t)) (s : State) :
    s.Steps (takeParts parts s) :=
  takeParts_keeps State.Steps .refl (fun _ _ _ h k => h.trans k) (fun _ => .of_gens rfl rfl) parts h s

theorem State.captureEdge_steps (s : State) (x : AxisId) (source : CaptureSource) (rising : Bool) :
    s.Steps (s.captureEdge x source rising) :=
  have reach := s.captureEdge_reach x source rising
  .of_gens reach.vTaking reach.gens

theorem State.tick_hushed (s : State) : s.Hushed s.tick :=
  ⟨⟨rfl, fun g d => .inl (by rw [State.tick_gen] at d; exact d)⟩, rfl⟩

theorem State.Settled.fieldEvent (h : s.Settled) {c : Instr} {event : State → State} (e : fieldEvent c = some event) :
    (event s).Settled := by
  have lines (l : InputLines) : s.Steps { s with lines := l } := .of_gens rfl rfl
  cases c <;> simp only [Machine.fieldEvent, Option.some.injEq, reduceCtorEq] at e <;> subst e
  case encoderTransition e a b =>
    dsimp only
    unfold State.encoderLevels
    dsimp only
    split
    · exact h.hushed (.of_gens rfl rfl rfl)
    · exact h.steps_drain ((lines _).trans (State.countEvent_flows _ _ _).toSteps)
  case gateExpiry x =>
    dsimp only
    unfold State.gateExpires
    split
    · exact h.hushed (State.Hushed.trans (t := s.modAxis x Axis.gated) (.of_gens rfl rfl rfl)
        (State.evaluateAxis_reach _ x).toCommitOnly.hushed)
    · exact h
  case markerEdge e a =>
    dsimp only
    unfold State.markerLevel
    split
    · exact h
    · refine h.steps_drain ((lines _).trans (takeParts_steps _ (fun f hf t => ?_) _))
      rcases List.mem_cons.mp hf with rfl | hf
      · exact t.captureEdge_steps _ _ _
      · split at hf
        · obtain ⟨g, -, rfl⟩ := List.mem_map.mp hf
          exact .of_paces (t.markerEdgeAt_only e g) (t.markerEdgeAt_paces e g)
        · cases hf
  case referenceLineEdge l a =>
    dsimp only
    unfold State.refLevel
    split
    · exact h
    · refine h.steps_drain ((lines _).trans (takeParts_steps _ (fun f hf t => ?_) _))
      rcases List.mem_append.mp hf with hf | hf
      · obtain ⟨x, -, rfl⟩ := List.mem_map.mp hf
        exact t.captureEdge_steps _ _ _
      · obtain ⟨g, -, rfl⟩ := List.mem_map.mp hf
        exact .of_paces (t.refEdgeAt_only l a g) (t.refEdgeAt_paces l a g)
  case generatorStep g =>
    dsimp only
    unfold State.stepNow
    split
    · exact h.steps_drain (.of_paces (s.takeStep_only g) (s.takeStep_paces g))
    · exact h
  case followBacklogStep g =>
    dsimp only
    unfold State.backlogStep
    split
    · exact h.steps_drain (.of_paces (s.takeStep_only g) (s.takeStep_paces g))
    · exact h
  case rampTimerExpiry g =>
    dsimp only
    unfold State.rampExpires
    split
    · exact h.steps_drain (.of_paces (s.rampTick_only g) (s.rampTick_paces g))
    · exact h
  case dwellTimerExpiry g =>
    dsimp only
    unfold State.dwellExpires
    split
    · exact h.steps_drain (.of_paces (s.endMove_only g .complete) (s.endMove_paces g .complete))
    · exact h
  case pulseTimerExpiry o =>
    dsimp only
    unfold State.pulseExpires
    split
    · exact h.hushed (.of_gens rfl rfl rfl)
    · exact h
  case haltAssertion => exact h.hushed s.haltAsserted_hushed
  case haltRelease => exact h.hushed s.haltReleased_hushed
  case leaseExpiry p =>
    dsimp only
    unfold State.leaseExpires
    split
    · exact h.hushed (s.endSession_hushed p _)
    · exact h
  case deviceMillisecondIncrement => exact h.hushed (s.continueHandOver_hushed.trans (State.tick_hushed _))

theorem State.Settled.step (h : s.Settled) (e : Machine.step s = .next t) : t.Settled := by
  unfold Machine.step at e
  split at e
  · cases e; exact h.hushed s.continueHandOver_hushed
  · rename_i c rest _
    have front : ({ s with pending := rest } : State).Settled := h.hushed (.of_gens rfl rfl rfl)
    obtain ⟨u, eu, settled⟩ := State.settled_stable.exec front (fun _ _ k => front.fieldEvent k)
      (fun lines straps => (State.restart_lawful _ lines straps).settled) c
    rw [eu] at e
    cases e
    exact settled

/-- Settles O15: the laws of the generators are among those that every step keeps, and a command takes every count event of
axis V that it brings about. -/
theorem everyStepKeepsGenerators : Obligations.EveryStepKeepsGenerators := fun _ _ h e =>
  ⟨(h.sound.step e).gensLawful, h.settled.step e⟩

end Sys2Proof.Machine
end

section
/-! SUPPORT. The queue of waiting commands under a command, and the statements on a step and on cold reset. -/

namespace Sys2Proof.Machine

variable {s t u : State}

/-- Settles O1: the front command runs on the state with the queue's rest. -/
theorem stepRunsFrontCommand : Obligations.StepRunsFrontCommand := fun s c rest h => by
  unfold Machine.step
  rw [h]

theorem HandOverOnly.pending (h : HandOverOnly s t) : t.pending = s.pending := by
  have e := congrArg State.pending h.eq
  exact e

theorem OffGens.pending (h : OffGens s t) : t.pending = s.pending := by rw [h.eq]

theorem State.haltChange_pending (s : State) (new : HaltState) (cause : HaltCause) (station : Nat) :
    (s.haltChange new cause station).pending = s.pending := by
  have e := congrArg State.pending (s.haltChange_reach new cause station).eq
  exact e

theorem clearHaltRequest_pending (p : PortId) (s : State) : (clearHaltRequest p s).1.pending = s.pending := by
  have completed := s.completeHandOver_reach.pending
  unfold clearHaltRequest
  dsimp only
  split
  · exact completed
  · exact (State.haltChange_pending _ _ _ _).trans completed
  · exact completed

theorem releaseRequest_pending (p : PortId) (resource : Byte) (s : State) : (releaseRequest p resource s).1.pending = s.pending := by
  unfold releaseRequest
  split
  · rfl
  · split
    · split
      · exact (State.handOver_reach _ _ _ _).pending.trans
          (((State.cleanup_keeps _ _).reach.pending).trans (s.withdrawFor_keeps p _).reach.pending)
      · rfl
    · rfl

theorem State.genRequest_pending (s : State) (p : PortId) (gen : Byte) (k : GenId → State × Reply)
    (part : ∀ g, (k g).1.pending = s.pending) : (s.genRequest p gen k).1.pending = s.pending := by
  unfold State.genRequest
  split
  · rfl
  · split
    · exact part _
    · rfl

theorem appendMoveRequest_pending (p : PortId) (gen : Byte) (raw : RawMove) (s : State) :
    (appendMoveRequest p gen raw s).1.pending = s.pending := by
  refine s.genRequest_pending p gen _ fun g => ?_
  split
  · rfl
  split
  · rfl
  split
  · rfl
  split
  · rfl
  · exact (s.append_reach g _).toCountOnly.pending

theorem State.perform_pending (s : State) (p : PortId) (r : Request) : (s.perform p r).1.pending = s.pending := by
  cases r
  case release r => exact releaseRequest_pending p r s
  case configureGenerator g m sd hd d =>
    refine s.genRequest_pending p g _ fun g => ?_
    repeat' split
    all_goals rfl
  case setGeneratorPosition g v =>
    refine s.genRequest_pending p g _ fun g => ?_
    repeat' split
    all_goals rfl
  case appendMove g m => exact appendMoveRequest_pending p g m s
  case stopGenerator g m =>
    refine s.genRequest_pending p g _ fun g => ?_
    split
    · exact (s.rampStop_reach g).toCountOnly.pending
    · exact (s.flush_reach g).toCountOnly.pending
    · rfl
  case triggerGenerator g =>
    refine s.genRequest_pending p g _ fun g => ?_
    split
    · exact (s.trigger_reach g .request).toCountOnly.pending
    · rfl
  case clearHalt => exact clearHaltRequest_pending p s
  all_goals exact (s.perform_offGens p rfl).pending

theorem State.answer_pending (s : State) (p : PortId) (r : Request) : (s.answer p r).1.pending = s.pending := by
  unfold State.answer
  split
  · rfl
  · exact (State.drain_reach _).pending.trans (s.perform_pending p r)

theorem State.pending_stable (l : List Instr) : Stable fun t => t.pending = l where
  modPort _ _ _ h := h
  frame _ _ _ h := h
  answer s p r h := (s.answer_pending p r).trans h
  endSession s p cause h := (s.endSession_reach p cause).pending.trans h

theorem State.haltAsserted_pending (s : State) : s.haltAsserted.pending = s.pending := by
  unfold State.haltAsserted
  split
  · exact (State.haltChange_pending _ _ _ _).trans s.completeHandOver_reach.pending
  · exact (State.haltChange_pending _ _ _ _).trans s.completeHandOver_reach.pending
  · rfl

theorem State.haltReleased_pending (s : State) : s.haltReleased.pending = s.pending := by
  unfold State.haltReleased
  split
  · exact (State.haltChange_pending _ _ _ _).trans s.completeHandOver_reach.pending
  · rfl
  · rfl

/-- An event of a field line or a clock leaves the commands still to come. -/
theorem fieldEvent_pending {c : Instr} {event : State → State} (e : fieldEvent c = some event) (s : State) :
    (event s).pending = s.pending := by
  cases c <;> simp only [Machine.fieldEvent, Option.some.injEq, reduceCtorEq] at e <;> subst e
  case encoderTransition e a b =>
    dsimp only
    unfold State.encoderLevels
    dsimp only
    split
    · rfl
    · exact ((State.countEvent_reach _ _ _).trans (State.drain_reach _)).pending
  case gateExpiry x => exact (s.gateExpires_keeps x).reach.pending
  case markerEdge e a =>
    dsimp only
    unfold State.markerLevel
    split
    · rfl
    · refine ((takeParts_reach _ _ fun f hf t => ?_).trans (State.drain_reach _)).pending
      rcases List.mem_cons.mp hf with rfl | hf
      · exact (t.captureEdge_reach _ _ _).toCountOnly
      · split at hf
        · obtain ⟨g, -, rfl⟩ := List.mem_map.mp hf
          exact (t.markerEdgeAt_reach e g).toCountOnly
        · cases hf
  case referenceLineEdge l a =>
    dsimp only
    unfold State.refLevel
    split
    · rfl
    · refine ((takeParts_reach _ _ fun f hf t => ?_).trans (State.drain_reach _)).pending
      rcases List.mem_append.mp hf with hf | hf
      · obtain ⟨x, -, rfl⟩ := List.mem_map.mp hf
        exact (t.captureEdge_reach _ _ _).toCountOnly
      · obtain ⟨g, -, rfl⟩ := List.mem_map.mp hf
        exact (t.refEdgeAt_reach l a g).toCountOnly
  case generatorStep g => exact (s.stepNow_keeps g).reach.pending
  case followBacklogStep g => exact (s.backlogStep_keeps g).reach.pending
  case rampTimerExpiry g => exact (s.rampExpires_keeps g).reach.pending
  case dwellTimerExpiry g => exact (s.dwellExpires_keeps g).reach.pending
  case pulseTimerExpiry o => exact (s.pulseExpires_keeps o).reach.pending
  case haltAssertion => exact s.haltAsserted_pending
  case haltRelease => exact s.haltReleased_pending
  case leaseExpiry p =>
    dsimp only
    unfold State.leaseExpires
    split
    · exact (s.endSession_reach p _).pending
    · rfl
  case deviceMillisecondIncrement => exact s.continueHandOver_reach.pending

/-- Settles O2: every command answers a next state, and no part of one reaches the queue. -/
theorem commandsCompleteAndKeepQueue : Obligations.CommandsCompleteAndKeepQueue := fun c s =>
  (State.pending_stable s.pending).exec rfl (fun _ _ k => fieldEvent_pending k s) (fun _ _ => rfl) c

/-- Settles O5: every block of the restarted state is its cold record. -/
theorem coldResetSetsEveryBlock : Obligations.ColdResetSetsEveryBlock := fun lines straps s => by
  have idle (p : PortId) (k : Nat) : ((s.restart lines straps).port p).transmitLevel k = .mark :=
    Port.transmitLevel_idle _ k (by rw [State.restart_port]; rfl)
  exact ⟨s.restart lines straps, rfl, rfl, rfl, rfl, rfl, rfl, rfl, rfl, rfl, State.restart_axis s lines straps,
    State.restart_slots s lines straps, State.restart_hasCommit s lines straps, State.restart_camLevels s lines straps,
    State.restart_compareList s lines straps, rfl, rfl, State.restart_channel s lines straps, State.restart_gen s lines straps,
    s.restart_halt lines straps, State.restart_claim s lines straps, idle, State.restart_port s lines straps⟩

/-! ### Events that act on one block -/

theorem quadrature_both {old : EncoderLines} {phase1 phase2 : Bool} (h : old.phase1 = phase1 ↔ old.phase2 = phase2) :
    quadrature old { phase1 := phase1, phase2 := phase2 } = none := by
  have all : ∀ a b c d : Bool, (a = c ↔ b = d) → quadrature { phase1 := a, phase2 := b } { phase1 := c, phase2 := d } = none := by
    decide
  exact all _ _ _ _ h

/-- Settles O17: the decoder reads no count event from such a change. -/
theorem bothLinesChangingIsNoEvent : Obligations.BothLinesChangingIsNoEvent := fun s e phase1 phase2 h => by
  rw [Instr.exec_fieldEvent (c := .encoderTransition e phase1 phase2) rfl]
  unfold State.encoderLevels
  rw [quadrature_both h]

/-- The level left to a channel whose overlay is cleared (R69). -/
theorem Channel.outClear_effective (c : Channel) :
    c.outClear.effective =
      if c.halt then c.fallback else if c.mode = .manual then c.manual else if c.cam then .high else .low := by
  unfold Channel.outClear Channel.effective camAsLevel
  cases c.mode <;> rfl

/-- Settles O29: the channel takes the expiry as an arrival. -/
theorem pulseExpiryClearsTheOverlay : Obligations.PulseExpiryClearsTheOverlay := fun s o h => by
  dsimp only
  rw [← Channel.outClear_effective, Instr.exec_fieldEvent (c := .pulseTimerExpiry o) rfl]
  unfold State.pulseExpires
  rw [if_pos h]
  rfl

/-- Settles O32: the clocks' step is that of each record, after the hand-over has gone on (R127). -/
theorem millisecondAdvancesTheClocks : Obligations.MillisecondAdvancesTheClocks := fun s => by
  have reach := s.continueHandOver_reach
  refine ⟨s.continueHandOver_nil, s.continueHandOver.tick, rfl, ?_, State.tick_axis _, State.tick_channel _, State.tick_gen _,
    State.tick_port _, ?_⟩
  · have now : s.continueHandOver.now = s.now := by have e := congrArg State.now reach.eq; exact e
    change (s.continueHandOver.now + 1).toNat = _
    rw [now, BitVec.toNat_add]
    rfl
  · have slots := congrArg State.slots reach.eq
    have compares := congrArg State.compares reach.eq
    have commits := congrArg State.commits reach.eq
    have halt := congrArg State.halt reach.eq
    exact ⟨slots, compares, rfl, commits, halt, rfl, rfl⟩

end Sys2Proof.Machine
end

section
/-! SUPPORT. The link below its requests (chapter 11): characters, the receiver's states, frames and breaks. -/

namespace Sys2Proof.Machine

variable {s t : State} {p : PortId}

/-! ### Characters (R175) -/

theorem characterByte_characterLevels : ∀ b : Byte, characterByte (characterLevels b) = some b := by decide

theorem characterLevels_length (b : Byte) : (characterLevels b).length = 10 := rfl

/-- The characters of a frame one after another: level `k` of character `i`. -/
theorem flatMap_characterLevels {l : List Byte} {i k : Nat} {b : Byte} (h : l[i]? = some b) (small : k < 10) :
    (l.flatMap characterLevels)[10 * i + k]? = (characterLevels b)[k]? := by
  induction l generalizing i with
  | nil => simp at h
  | cons c l ih =>
    rw [List.flatMap_cons]
    cases i with
    | zero =>
      cases h
      rw [List.getElem?_append_left (l₁ := characterLevels b) (show 10 * 0 + k < 10 by omega), Nat.mul_zero, Nat.zero_add]
    | succ i =>
      rw [List.getElem?_append_right (l₁ := characterLevels c) (by rw [characterLevels_length c]; omega), characterLevels_length c,
        show 10 * (i + 1) + k - 10 = 10 * i + k by omega]
      exact ih h

theorem TxFrame.levels_length (f : TxFrame) : f.levels.length = 10 * f.bytes.length := by
  unfold TxFrame.levels
  induction f.bytes with
  | nil => rfl
  | cons b l ih => rw [List.flatMap_cons, List.length_append, ih, characterLevels_length, List.length_cons]; omega

theorem Port.transmitLevel_busy {q : Port} {f : TxFrame} (h : q.tx = some f) (k : Nat) :
    q.transmitLevel k = (f.levels[k]?).getD .mark := by
  unfold Port.transmitLevel
  rw [h]

/-- A transmit line carries the characters of its frame, then mark. -/
theorem Port.transmitLevel_frame {q : Port} {f : TxFrame} (h : q.tx = some f) {k : Nat} :
    (10 * f.bytes.length ≤ k → q.transmitLevel k = .mark) ∧
      ∀ (i : Nat) (b : Byte), f.bytes[i]? = some b → k < 10 →
        (characterLevels b)[k]? = some (q.transmitLevel (10 * i + k)) := by
  refine ⟨fun past => ?_, fun i b at_ small => ?_⟩
  · rw [Port.transmitLevel_busy h, List.getElem?_eq_none (by rw [TxFrame.levels_length]; exact past)]
    rfl
  · have level := flatMap_characterLevels at_ small
    have inside : k < (characterLevels b).length := small
    rw [Port.transmitLevel_busy h, TxFrame.levels, level, List.getElem?_eq_getElem inside]
    rfl

theorem State.takeCharacter_characterLevels (s : State) (p : PortId) (b : Byte) :
    s.takeCharacter p (characterLevels b) = s.takeByte p b := by
  unfold State.takeCharacter
  rw [characterByte_characterLevels]

theorem State.takeCharacter_space (s : State) (p : PortId) {levels : List SerialLevel} (length : levels.length = 10)
    (stop : levels[9]? = some .space) : s.takeCharacter p levels = s := by
  have last : levels.getLast? = some .space := by rw [List.getLast?_eq_getElem?, length]; exact stop
  unfold State.takeCharacter characterByte
  rw [last]
  simp

/-! ### The receiver (R177) -/

/-- A byte on a line at mark is taken in the receiver's state (Table 11.3). -/
theorem State.takeByte_at (mark : (s.port p).atSpace = false) (b : Byte) :
    s.takeByte p b =
      match (s.port p).rx with
      | .hunt => if b = 0xC7 then s.modPort p fun q => q.receiving .headerType else s
      | .headerType => s.modPort p fun q => q.receiving (.headerSeq b)
      | .headerSeq type => s.modPort p fun q => q.receiving (.headerLen type b)
      | .headerLen type seq =>
        if 120 < b.toNat then s.modPort p fun q => q.discard Faults.countLength
        else s.modPort p fun q => q.receiving (afterLen type seq b)
      | .body type seq len got => s.modPort p fun q => q.receiving (afterBody type seq len (got ++ [b]))
      | .checkHigh type seq len body => s.modPort p fun q => q.receiving (.checkLow type seq len body b)
      | .checkLow type seq len body high => s.judge p type seq len body (high ++ b) := by
  unfold State.takeByte
  rw [mark]
  rfl

/-- LEN begins the body, or the CRC where there is none; one above 120 discards the frame (Table 11.3, R178). -/
theorem State.takeByte_len {type seq : Byte} (mark : (s.port p).atSpace = false) (rx : (s.port p).rx = .headerLen type seq)
    (b : Byte) :
    s.takeByte p b =
      if b = 0 then s.modPort p fun q => q.receiving (.checkHigh type seq b [])
      else if b.toNat ≤ 120 then s.modPort p fun q => q.receiving (.body type seq b [])
      else s.modPort p fun q => q.discard Faults.countLength := by
  have zero : b = 0 ↔ b.toNat = 0 := ⟨fun e => by rw [e]; rfl, fun e => BitVec.eq_of_toNat_eq e⟩
  rw [State.takeByte_at mark, rx]
  dsimp only [afterLen]
  by_cases e : b.toNat = 0
  · rw [if_neg (by omega), if_pos e, if_pos (zero.mpr e)]
  · rw [if_neg (mt zero.mp e)]
    split <;> rename_i long
    · rw [if_neg (by omega)]
    · rw [if_pos (by omega)]

/-- Settles O33: characters and their byte, the transmit line, and the receiver in each state. -/
theorem receiverTakesEachByte : Obligations.ReceiverTakesEachByte := by
  refine ⟨fun b => ⟨rfl, rfl, rfl, fun i => by fin_cases i <;> rfl, fun s p => ?_⟩,
    fun levels s p length stop => s.takeCharacter_space p length stop,
    fun q k => ⟨q.transmitLevel_idle k, fun f tx => Port.transmitLevel_frame tx⟩, ?_, fun s p => ?_⟩
  · rw [State.takeCharacter_characterLevels]; rfl
  · intro s p b type seq len got mark
    have taken : exec (.byteTaken p b) s = .next (s.takeByte p b) := rfl
    refine ⟨fun rx => ?_, fun rx => ?_, fun rx => ?_, fun rx => ?_, fun rx => ?_, fun rx => ?_⟩ <;> rw [taken]
    · rw [State.takeByte_at mark, rx]; rfl
    · rw [State.takeByte_at mark, rx]; rfl
    · rw [State.takeByte_at mark, rx]; rfl
    · rw [State.takeByte_len mark rx]; rfl
    · rw [State.takeByte_at mark, rx]
      dsimp only [afterBody]
      rw [List.length_append]
      change Host.Outcome.next (s.modPort p fun q => q.receiving (if len.toNat ≤ got.length + 1 then _ else _)) = _
      split <;> rfl
    · rw [State.takeByte_at mark, rx]; rfl
  · change Host.Outcome.next (s.gap p) = _
    unfold State.gap
    split <;> rfl

/-! ### A complete frame (R178) -/

theorem State.deliver_mark (mark : (s.port p).atSpace = false) (seq : Byte) (r : Request) : s.arrival p seq r = s.deliver p seq r := by
  unfold State.arrival
  rw [mark]
  rfl

theorem State.port_receiving (s : State) (p : PortId) (rx : Receiver) :
    ((s.modPort p fun q => q.receiving rx).port p) = (s.port p).receiving rx := State.port_modPort_same s p _

/-- Settles O34: the judgement's branches in their order. -/
theorem completeFrameIsJudged : Obligations.CompleteFrameIsJudged := by
  intro s p type seq len high low body mark rx
  have complete : exec (.frameComplete p low) s = .next (s.judge p type seq len body (high ++ low)) := by
    change Host.Outcome.next (s.completeFrame p low) = _
    unfold State.completeFrame
    rw [mark, rx]
    rfl
  refine ⟨fun wrong => ?_, fun right foreign => ?_, fun right request c hc => ?_⟩ <;> rw [complete] <;> unfold State.judge
  · exact congrArg _ (if_pos wrong)
  · exact congrArg _ ((if_neg (not_not.mpr right)).trans (if_pos foreign))
  · rw [Instr.exec_asRequest hc, State.deliver_mark (by rw [State.port_modPort_same]; exact mark)]
    exact congrArg _ ((if_neg (not_not.mpr right)).trans (if_neg (not_not.mpr request)))

/-! ### The bytes of a request frame (R176) -/

theorem bytesOf_nat (k n : Nat) : bytesOf (k + 1) n = BitVec.ofNat 8 (n / 256 ^ k) :: bytesOf k n := by
  have fdiv : Int.fdiv (n : Int) (256 ^ k) = ((n / 256 ^ k : Nat) : Int) := by
    rw [Int.fdiv_eq_ediv_of_nonneg _ (by positivity)]
    norm_cast
  rw [bytesOf, fdiv, BitVec.ofInt_natCast]

/-- The two bytes of a CRC (R186). -/
theorem bytesOf_half (w : Half) : ∃ high low : Byte, bytesOf 2 w.toNat = [high, low] ∧ high ++ low = w := by
  refine ⟨BitVec.ofNat 8 (w.toNat / 256), BitVec.ofNat 8 w.toNat, ?_, ?_⟩
  · rw [bytesOf_nat, bytesOf_nat, pow_one, pow_zero, Nat.div_one]
    rfl
  · have := w.isLt
    apply BitVec.eq_of_toNat_eq
    rw [BitVec.toNat_append, ← Nat.shiftLeft_add_eq_or_of_lt (BitVec.isLt _), Nat.shiftLeft_eq, BitVec.toNat_ofNat, BitVec.toNat_ofNat]
    omega

/-- The state of a receiver after a byte that neither ends nor discards a frame (Table 11.3). -/
def Receiver.next (b : Byte) : Receiver → Option Receiver
  | .hunt => if b = 0xC7 then some .headerType else none
  | .headerType => some (.headerSeq b)
  | .headerSeq type => some (.headerLen type b)
  | .headerLen type seq => if 120 < b.toNat then none else some (afterLen type seq b)
  | .body type seq len got => some (afterBody type seq len (got ++ [b]))
  | .checkHigh type seq len got => some (.checkLow type seq len got b)
  | .checkLow _ _ _ _ _ => none

/-- A state with the receiver of a port in a state, and a queue of commands. -/
def State.receivingAt (s : State) (p : PortId) (rx : Receiver) (pending : List Instr) : State :=
  State.modPort { s with pending := pending } p fun q => q.receiving rx

theorem State.receivingAt_port (s : State) (p : PortId) (rx : Receiver) (pending : List Instr) :
    (s.receivingAt p rx pending).port p = (s.port p).receiving rx := State.port_modPort_same _ p _

theorem State.modPort_id (s : State) (p : PortId) {f : Port → Port} (h : f (s.port p) = s.port p) : s.modPort p f = s := by
  unfold State.modPort
  rw [h]
  cases p <;> rfl

theorem State.receivingAt_self (s : State) (p : PortId) {rx : Receiver} (h : (s.port p).rx = rx) (pending : List Instr) :
    s.receivingAt p rx pending = { s with pending := pending } :=
  State.modPort_id _ p (by subst h; rfl)

theorem State.receivingAt_receiving (s : State) (p : PortId) (rx rx' : Receiver) (pending : List Instr) :
    (s.receivingAt p rx pending).modPort p (fun q => q.receiving rx') = s.receivingAt p rx' pending := by
  unfold State.receivingAt
  rw [State.modPort_modPort]
  rfl

section frame

variable (s : State) (p : PortId) (mark : (s.port p).atSpace = false)

include mark

theorem State.receivingAt_mark (rx : Receiver) (pending : List Instr) : ((s.receivingAt p rx pending).port p).atSpace = false := by
  rw [State.receivingAt_port]; exact mark

/-- The receiver goes on by its table. -/
theorem State.receivingAt_takeByte {rx rx' : Receiver} {b : Byte} (h : rx.next b = some rx') (pending : List Instr) :
    (s.receivingAt p rx pending).takeByte p b = s.receivingAt p rx' pending := by
  rw [State.takeByte_at (s.receivingAt_mark p mark rx pending), State.receivingAt_port]
  cases rx <;> simp only [Receiver.next, Option.some.injEq, reduceCtorEq, Option.ite_none_right_eq_some,
    Option.ite_none_left_eq_some] at h <;> dsimp only [Port.receiving]
  case hunt => rw [if_pos h.1, ← h.2]; exact s.receivingAt_receiving p _ _ _
  case headerLen => rw [if_neg h.1, ← h.2]; exact s.receivingAt_receiving p _ _ _
  all_goals
    rw [← h]
    exact s.receivingAt_receiving p _ _ _

/-- Bytes that neither end nor discard a frame, taken one by one. -/
theorem run_bytes (bytes : List Byte) {rx rx' : Receiver} (h : bytes.foldlM (fun rx b => rx.next b) rx = some rx') (n : Nat)
    (rest : List Instr) :
    core.run (n + bytes.length) (s.receivingAt p rx (bytes.map (Instr.byteTaken p) ++ rest)) =
      core.run n (s.receivingAt p rx' rest) := by
  induction bytes generalizing rx with
  | nil => cases h; rfl
  | cons b bytes ih =>
    rw [List.foldlM_cons] at h
    obtain ⟨rx₁, next, more⟩ := Option.bind_eq_some_iff.mp h
    have step := s.receivingAt_takeByte p mark next (bytes.map (Instr.byteTaken p) ++ rest)
    calc core.run (n + (bytes.length + 1)) (s.receivingAt p rx (.byteTaken p b :: (bytes.map (Instr.byteTaken p) ++ rest)))
      _ = core.run (n + bytes.length) ((s.receivingAt p rx (bytes.map (Instr.byteTaken p) ++ rest)).takeByte p b) := rfl
      _ = core.run (n + bytes.length) (s.receivingAt p rx₁ (bytes.map (Instr.byteTaken p) ++ rest)) := by rw [step]
      _ = core.run n (s.receivingAt p rx' rest) := ih more

/-- The second CRC byte of an intact request frame delivers its request (R178). -/
theorem State.receivingAt_delivers {seq len high low : Byte} {body : List Byte}
    (crc : crc16 ([0x51, seq, len] ++ body) = high ++ low) (pending : List Instr) :
    (s.receivingAt p (.checkLow 0x51 seq len body high) pending).takeByte p low =
      (s.receivingAt p .hunt pending).deliver p seq (Request.ofBody body) := by
  rw [State.takeByte_at (s.receivingAt_mark p mark _ pending), State.receivingAt_port]
  dsimp only [Port.receiving]
  unfold State.judge
  rw [if_neg (not_not.mpr crc), if_neg (show ¬(0x51 : Byte) ≠ typeRequest from not_not.mpr rfl)]
  exact congrArg (fun t => State.deliver t p seq (Request.ofBody body)) (s.receivingAt_receiving p _ _ _)

end frame

/-- The body of a frame, byte by byte (Table 11.3). -/
theorem body_next (type seq len : Byte) (body got : List Byte) (h : got.length + body.length = len.toNat) (some' : body ≠ []) :
    body.foldlM (fun rx b => Receiver.next b rx) (.body type seq len got) = some (.checkHigh type seq len (got ++ body)) := by
  induction body generalizing got with
  | nil => exact absurd rfl some'
  | cons b body ih =>
    rw [List.length_cons] at h
    rw [List.foldlM_cons]
    change (some (afterBody type seq len (got ++ [b])) >>= fun rx => body.foldlM (fun rx b => Receiver.next b rx) rx) = _
    rw [Option.bind_eq_bind, Option.bind_some]
    unfold afterBody
    rw [List.length_append, List.length_singleton]
    cases body with
    | nil =>
      rw [if_pos (by rw [List.length_nil] at h; omega)]
      rfl
    | cons c body =>
      rw [if_neg (by rw [List.length_cons] at h; omega), ih (got ++ [b]) (by simp at h ⊢; omega) (List.cons_ne_nil _ _)]
      simp

/-- The bytes of a frame before its second CRC byte (R176, R177). -/
theorem frame_next (seq high : Byte) (body : List Byte) (short : body.length ≤ 120) :
    ([0xC7, 0x51, seq, BitVec.ofNat 8 body.length] ++ body ++ [high]).foldlM (fun rx b => Receiver.next b rx) .hunt =
      some (.checkLow 0x51 seq (BitVec.ofNat 8 body.length) body high) := by
  have len : (BitVec.ofNat 8 body.length).toNat = body.length := by rw [BitVec.toNat_ofNat]; omega
  have taken : body.foldlM (fun rx b => Receiver.next b rx) (afterLen 0x51 seq (BitVec.ofNat 8 body.length)) =
      some (.checkHigh 0x51 seq (BitVec.ofNat 8 body.length) body) := by
    unfold afterLen
    rw [len]
    cases body with
    | nil => rfl
    | cons b body => exact body_next _ _ _ _ [] (by rw [len]; simp) (List.cons_ne_nil _ _)
  rw [List.append_assoc, List.foldlM_append]
  change (((if 120 < (BitVec.ofNat 8 body.length).toNat then none
    else some (afterLen 0x51 seq (BitVec.ofNat 8 body.length))) >>= fun rx => some rx) >>= _) = _
  rw [len, if_neg (by omega)]
  change (body ++ [high]).foldlM (fun rx b => Receiver.next b rx) (afterLen 0x51 seq (BitVec.ofNat 8 body.length)) = _
  rw [List.foldlM_append, taken]
  rfl

/-- Settles O35: the receiver goes through the frame by its table, and the second CRC byte delivers the request. -/
theorem frameBytesDeliverTheirRequest : Obligations.FrameBytesDeliverTheirRequest := by
  intro s p seq body c mark hunt short hc bytes
  obtain ⟨high, low, crcBytes, crc⟩ := bytesOf_half (crc16 ([0x51, seq, BitVec.ofNat 8 body.length] ++ body))
  have cut : bytes = ([0xC7, 0x51, seq, BitVec.ofNat 8 body.length] ++ body ++ [high]) ++ [low] := by
    change [0xC7] ++ ([0x51, seq, BitVec.ofNat 8 body.length] ++ body) ++ bytesOf 2 _ = _
    rw [crcBytes]
    simp
  have length : bytes.length = 1 + ([0xC7, 0x51, seq, BitVec.ofNat 8 body.length] ++ body ++ [high]).length := by
    rw [cut, List.length_append, Nat.add_comm]; rfl
  refine ⟨by rw [length]; simp; omega, ?_⟩
  have start := s.receivingAt_self p hunt (bytes.map (Instr.byteTaken p))
  have rest := s.receivingAt_self p hunt []
  rw [← start, ← rest, length, cut, List.map_append]
  have before := run_bytes s p mark _ (frame_next seq high body short) 1 [.byteTaken p low]
  have last : core.run 1 (s.receivingAt p (.checkLow 0x51 seq (BitVec.ofNat 8 body.length) body high) [.byteTaken p low]) =
      .next ((s.receivingAt p (.checkLow 0x51 seq (BitVec.ofNat 8 body.length) body high) []).takeByte p low) := rfl
  rw [s.receivingAt_delivers p mark crc.symm] at last
  rw [Instr.exec_asRequest hc, State.deliver_mark (s.receivingAt_mark p mark _ _)]
  exact before.trans last

/-! ### The link break (R179) -/

/-- Settles O36: a second break in a spell does nothing, and the first empties the port. -/
theorem linkBreakEmptiesThePort : Obligations.LinkBreakEmptiesThePort := by
  refine fun s p => ⟨fun space => ?_, fun mark closed => ?_, rfl⟩
  · change Host.Outcome.next (s.breakLink p) = _
    unfold State.breakLink
    rw [if_pos space]
  · have broken : s.breakLink p =
        State.modPort { s with clearing := if s.clearing = some p then none else s.clearing } p Port.broken := by
      unfold State.breakLink
      rw [mark, closed]
      rfl
    have port : (s.breakLink p).port p = (s.port p).broken := by rw [broken]; exact State.port_modPort_same _ p _
    have bytes (f : TxFrame) : f.cut.bytes = f.bytes := by unfold TxFrame.cut; split <;> rfl
    refine ⟨s.breakLink p, rfl, ?_⟩
    rw [port]
    refine ⟨rfl, rfl, rfl, rfl, rfl, ?_, rfl, fun q other => ?_, ?_, ?_, ?_⟩
    · change ((s.port p).tx.map TxFrame.cut).map TxFrame.bytes = _
      rw [Option.map_map]
      exact congrArg (fun f => (s.port p).tx.map f) (funext bytes)
    · rw [broken]; exact State.modPort_port_other _ p q _ other
    all_goals
      rw [broken]
      rfl

end Sys2Proof.Machine
end

section
/-! SUPPORT. Requests that are taken: the common checks, what a request that passes them comes to, and the session requests. -/

namespace Sys2Proof.Machine

variable {s t : State} {p : PortId} {seq : Byte} {c : Instr} {r : Request}

/-! ### A request taken -/

/-- A request that fails a common check changes nothing (R148). -/
theorem exec_refused (h : s.Serves p seq) (hc : c.asRequest = some (p, seq, r)) {st : Status} (bad : st ≠ .done)
    (check : s.commonCheck p r = some st) : exec c s = .next ((s.received p seq r).answered p seq [r.code, st.code]) := by
  have check' : (s.received p seq r).commonCheck p r = some st := by
    unfold State.commonCheck at check ⊢
    rw [State.received_isOpen]
    exact check
  have closes : closesWith r st = false := by
    unfold closesWith
    rw [decide_eq_false bad, Bool.and_false]
  have waits : (s.received p seq r).awaitsHandOver r st = false := by
    unfold State.awaitsHandOver
    rw [decide_eq_false bad, Bool.and_false, Bool.false_and]
  rw [Instr.exec_asRequest hc, State.arrival_serves h, State.takeRequest_eq, State.answer_failed check']
  change Host.Outcome.next (if (s.received p seq r).awaitsHandOver r st then _ else if closesWith r st then _ else _) = _
  rw [waits, closes]
  rfl

/-- A request that is not turned away by the common checks on a port with a session. -/
def listed : Request → Bool
  | .unknown _ => false
  | .badLength _ => false
  | .openSession _ _ _ => false
  | _ => true

theorem State.commonCheck_listed (isOpen : (s.session p).isOpen = true) (k : listed r = true) : s.commonCheck p r = none := by
  unfold State.commonCheck
  split
  · cases k
  · cases k
  · have opens : r.opens = false := by
      unfold Request.opens
      split
      · cases k
      · rfl
    rw [isOpen, opens]
    rfl

/-- A request that passes the common checks, but for Close Session and Clear Halt, comes to its owning block's part (R148, R181). -/
theorem exec_passed (h : s.Serves p seq) (hc : c.asRequest = some (p, seq, r)) (check : s.commonCheck p r = none)
    (close : r ≠ .closeSession) (clear : r ≠ .clearHalt) :
    exec c s =
      .next ((((s.received p seq r).perform p r).1.drain).answered p seq
        (r.code :: ((s.received p seq r).perform p r).2.status.code :: ((s.received p seq r).perform p r).2.results)) := by
  have check' : (s.received p seq r).commonCheck p r = none := by
    unfold State.commonCheck at check ⊢
    rw [State.received_isOpen]
    exact check
  rw [Instr.exec_asRequest hc, State.arrival_answered h r close (State.awaitsHandOver_of_ne _ _ clear), State.answer_passed check']
  rfl

/-- The same where the block's part is known and brings no count event about. -/
theorem exec_performed (h : s.Serves p seq) (hc : c.asRequest = some (p, seq, r)) (check : s.commonCheck p r = none)
    (close : r ≠ .closeSession) (clear : r ≠ .clearHalt) {u : State} {reply : Reply}
    (part : (s.received p seq r).perform p r = (u, reply)) (events : u.vEvents = []) :
    exec c s = .next (u.answered p seq (r.code :: reply.status.code :: reply.results)) := by
  rw [exec_passed h hc check close clear, part]
  dsimp only
  rw [State.drain_settled _ events]

/-- The same for a request that does not act on generators. -/
theorem exec_offGens (h : s.ServesSession p seq) (hc : c.asRequest = some (p, seq, r)) (k : listed r = true)
    (close : r ≠ .closeSession) (off : actsOnGens r = false) {u : State} {reply : Reply}
    (part : (s.received p seq r).perform p r = (u, reply)) :
    exec c s = .next (u.answered p seq (r.code :: reply.status.code :: reply.results)) := by
  have reach := (s.received p seq r).perform_offGens p off
  rw [part] at reach
  exact exec_performed h.toServes hc (State.commonCheck_listed h.session_open k) close (fun e => by rw [e] at off; exact absurd off (by decide)) part
    (reach.vEvents.trans ((State.received_vEvents s p seq r).trans h.settled))

/-- A request that its block refuses changes nothing (R148). -/
theorem exec_only (h : s.ServesSession p seq) (hc : c.asRequest = some (p, seq, r)) (k : listed r = true)
    (close : r ≠ .closeSession) (clear : r ≠ .clearHalt) {st : Status}
    (part : (s.received p seq r).perform p r = (s.received p seq r, .only st)) :
    exec c s = .next ((s.received p seq r).answered p seq [r.code, st.code]) := by
  have performed := exec_performed h.toServes hc (State.commonCheck_listed h.session_open k) close clear part ((State.received_vEvents s p seq r).trans h.settled)
  exact performed

/-! ### The common checks (Table 9.2) -/

/-- The requests that need no session are Open Session and Read Port Status (R148). -/
theorem code_of_needsSession_false (h : r.needsSession = false) : r.code = 0x01 ∨ r.code = 0x04 := by
  cases r
  case openSession => exact .inl rfl
  case readPortStatus => exact .inr rfl
  all_goals exact Bool.noConfusion h

theorem State.commonCheck_closed (closed : (s.session p).isOpen = false) (needs : r.needsSession = true)
    (known : ∀ e, r ≠ .unknown e) (sized : ∀ e, r ≠ .badLength e) : s.commonCheck p r = some .noSession := by
  unfold State.commonCheck
  split
  · exact (known _ rfl).elim
  · exact (sized _ rfl).elim
  · rw [closed, needs]
    rfl

/-- Settles O38: each check's outcome, before any block's part. -/
theorem commonChecksComeFirst : Obligations.CommonChecksComeFirst := by
  refine ⟨fun s p seq h => ⟨?_, fun code rest => ⟨fun unlisted => ?_, fun n listed wrong => ?_⟩⟩, fun s p seq h =>
    ⟨fun c r hc closed opens status known sized => ?_, fun isOpen station lease subs => ?_⟩⟩
  · have refused := exec_refused (c := .unknownRequest p seq []) (r := .unknown 0) (st := .unknownRequest) h rfl (by decide) rfl
    exact refused
  · have body : Request.ofBody (code :: rest) = .unknown code := by 
      unfold Request.ofBody
      dsimp only
      rw [unlisted]
    have refused := exec_refused (c := .unknownRequest p seq (code :: rest)) (r := .unknown code) (st := .unknownRequest) h
      (by rw [Instr.asRequest, body]) (by decide) rfl
    exact refused
  · have body : Request.ofBody (code :: rest) = .badLength code := by
      unfold Request.ofBody
      dsimp only
      rw [listed]
      exact if_neg fun e => wrong e.symm
    have refused := exec_refused (c := .unknownRequest p seq (code :: rest)) (r := .badLength code) (st := .badLength) h
      (by rw [Instr.asRequest, body]) (by decide) rfl
    exact refused
  · have needs : r.needsSession = true :=
      Bool.not_eq_false _ ▸ fun e => (code_of_needsSession_false e).elim opens status
    have refused := exec_refused h hc (by decide) (State.commonCheck_closed closed needs known sized)
    exact refused
  · have check : s.commonCheck p (.openSession station lease subs) = some .sessionActive := by
      unfold State.commonCheck
      simp only [isOpen, if_true, Request.opens]
    have refused := exec_refused (c := .openSession p seq station lease subs) h rfl (by decide) check
    exact refused

/-! ### Requests that are not taken (R180, R182) -/

theorem State.modSession_modPort (s : State) (p : PortId) (f : Session → Session) (g : Port → Port) :
    (s.modSession p f).modPort p g = s.modPort p fun q => g { q with session := f q.session } := State.modPort_modPort _ _ _ _

/-- Settles O40: the head is answered first, and a repeated SEQ from the cache. -/
theorem queuedAndRepeatedRequestsAreNotTaken : Obligations.QueuedAndRepeatedRequestsAreNotTaken := by
  refine ⟨fun s c p seq r h hc mark => ⟨fun one => ?_, fun k two => ?_⟩, fun s c p seq r body hc mark empty cache => ?_⟩ <;>
    rw [Instr.exec_asRequest hc, State.deliver_mark mark] <;> unfold State.deliver
  · rw [one]
    exact congrArg _ (State.modSession_modPort _ _ _ _)
  · rw [two]
    exact congrArg _ (State.modSession_modPort _ _ _ _)
  · rw [empty]
    dsimp only
    rw [State.modSession_modPort]
    change Host.Outcome.next ((s.received p seq r).serveHead p) = _
    have cached : ((s.received p seq r).port p).cached seq = some body := by
      unfold Port.cached
      rw [State.received_cache, cache]
      exact if_pos rfl
    unfold State.serveHead
    rw [State.received_intake]
    dsimp only
    rw [cached]
    exact congrArg _ (State.respond_handed _ _ _)

/-! ### The session requests (R151 to R156) -/

theorem stationOf_eq {b : Byte} (h : 1 ≤ b.toNat ∧ b.toNat ≤ 15) : stationOf b = some b.toNat := if_pos h

theorem leaseOf_eq {b : Half} (h : 50 ≤ b.toNat ∧ b.toNat ≤ 5000 ∧ b.toNat % 10 = 0) : leaseOf b = some b.toNat := if_pos h

theorem bytesOf_one (n : Nat) : bytesOf 1 n = [BitVec.ofNat 8 n] := by
  rw [bytesOf_nat, pow_zero, Nat.div_one]
  rfl

@[simp] theorem Session.restartLease_lease (x : Session) : x.restartLease.lease = x.lease := by
  unfold Session.restartLease
  split <;> rfl

theorem State.received_stationInUse (s : State) (p q : PortId) (seq : Byte) (r : Request) (n : Nat) :
    (s.received p seq r).stationInUse q n = s.stationInUse q n := by
  unfold State.stationInUse
  simp only [State.received_isOpen, State.received_station]

theorem State.received_port_same (s : State) (p : PortId) (seq : Byte) (r : Request) :
    (s.received p seq r).port p =
      { s.port p with session := (s.port p).session.restartLease, intake := [{ seq := seq, request := r }] } :=
  State.port_modPort_same s p _

theorem openSessionRequest_eq {station : Byte} {lease : Half} {subs : Byte} {u : Subscriptions} (hs : 1 ≤ station.toNat ∧ station.toNat ≤ 15)
    (hl : 50 ≤ lease.toNat ∧ lease.toNat ≤ 5000 ∧ lease.toNat % 10 = 0) (hu : subscriptionsOf subs = some u) (p : PortId) (s : State) :
    openSessionRequest p station lease subs s =
      if s.stationInUse p station.toNat then (s, .only .stationInUse)
      else (s.modPort p fun q => q.opened station.toNat lease.toNat u,
        .done ([1, 0, 48, 32, 8, 24, 22, station] ++ bytesOf 2 lease.toNat)) := by
  unfold openSessionRequest
  rw [stationOf_eq hs, leaseOf_eq hl, hu]
  dsimp only
  rw [bytesOf_one, BitVec.ofNat_toNat, BitVec.setWidth_eq]
  rfl

/-- Settles O41: Open Session by its table, and Close Session's response goes past the cache. -/
theorem sessionOpensAndCloses : Obligations.SessionOpensAndCloses := by
  refine ⟨fun s p seq station lease subs u h closed s₁ s₂ l₁ l₂ l₃ hu => ?_, fun s p seq h => ?_⟩
  · have check : s.commonCheck p (.openSession station lease subs) = none := by
      unfold State.commonCheck
      rw [closed]
      rfl
    have part : (s.received p seq (.openSession station lease subs)).perform p (.openSession station lease subs) =
        _ := openSessionRequest_eq ⟨s₁, s₂⟩ ⟨l₁, l₂, l₃⟩ hu p _
    rw [State.received_stationInUse] at part
    intro r taken
    refine ⟨fun used => ?_, fun unused => ?_⟩
    · rw [if_pos ((s.stationInUse_iff p _).mpr used)] at part
      have refused := exec_performed (c := .openSession p seq station lease subs) h rfl check nofun nofun part h.settled
      exact refused
    · rw [if_neg (mt (s.stationInUse_iff p _).mp unused)] at part
      have opened := exec_performed (c := .openSession p seq station lease subs) h rfl check nofun nofun part h.settled
      exact opened
  · have check : (s.received p seq .closeSession).commonCheck p .closeSession = none :=
      State.commonCheck_listed (by rw [State.received_isOpen]; exact h.session_open) rfl
    rw [Instr.exec_asRequest (c := .closeSession p seq) rfl, State.arrival_serves h.toServes, State.takeRequest_eq,
      State.answer_passed check]
    have settled : ((s.received p seq .closeSession).perform p .closeSession).1.vEvents = [] := h.settled
    rw [State.drain_settled _ settled, State.awaitsHandOver_of_ne (r := .closeSession) _ _ Request.noConfusion]
    exact congrArg Host.Outcome.next (State.modSession_modPort (s.received p seq .closeSession) p
      (fun x => { x with leaseLeft := none, closing := true }) fun q => q.handed seq [0x02, 0x00] true)

theorem subscriptionsOf_none {b : Byte} (h : 16 ≤ b.toNat) : subscriptionsOf b = none := by
  have small : ∀ b : Byte, b &&& 0xF0 = 0 → b.toNat < 16 := by decide
  exact if_neg fun e => absurd (small b e) (by omega)

theorem Port.statusBytes_received (q : Port) (x : List Intake) :
    ({ q with session := q.session.restartLease, intake := x } : Port).statusBytes = q.statusBytes := by
  unfold Port.statusBytes
  simp only [Session.restartLease_isOpen, Session.restartLease_station, Session.restartLease_lease]

/-- Settles O42: the three requests' parts, none of them beyond the port's own record. -/
theorem sessionUpkeepRequests : Obligations.SessionUpkeepRequests := by
  refine fun s p seq => ⟨fun h => ?_, fun h subs => ⟨fun u hu => ?_, fun bad => ?_⟩, fun h => ?_⟩
  · have done := exec_offGens (c := .renew p seq) h rfl rfl nofun rfl rfl
    exact done
  · have part : (s.received p seq (.setSubscriptions subs)).perform p (.setSubscriptions subs) =
        ((s.received p seq (.setSubscriptions subs)).modSession p fun x => { x with subs := u }, .only .done) := by
      change setSubscriptionsRequest p subs _ = _
      unfold setSubscriptionsRequest
      rw [hu]
    have done := exec_offGens (c := .setSubscriptions p seq subs) h rfl rfl nofun rfl part
    exact done
  · have part : (s.received p seq (.setSubscriptions subs)).perform p (.setSubscriptions subs) =
        (s.received p seq (.setSubscriptions subs), .only .badValue) := by
      change setSubscriptionsRequest p subs _ = _
      unfold setSubscriptionsRequest
      rw [subscriptionsOf_none bad]
    have refused := exec_only (c := .setSubscriptions p seq subs) h rfl rfl nofun nofun part
    exact refused
  · have check : s.commonCheck p .readPortStatus = none := by
      unfold State.commonCheck
      dsimp only
      split <;> rfl
    have part : (s.received p seq .readPortStatus).perform p .readPortStatus =
        ((s.received p seq .readPortStatus).modPort p fun q => { q with faults := Faults.zero },
          .done ((s.port p).faults.bytes ++ (s.port p).statusBytes)) := by
      change readPortStatusRequest p _ = _
      unfold readPortStatusRequest
      rw [State.received_port_same, Port.statusBytes_received]
    have done := exec_performed (c := .readPortStatus p seq) h rfl check nofun nofun part h.settled
    rw [done]
    have status : (s.port p).statusBytes =
        if (s.session p).isOpen then
          [0x01, BitVec.ofNat 8 (s.session p).station] ++ bytesOf 2 (s.session p).lease ++
            [BitVec.ofNat 8 (s.port p).notices.items.length] ++ bytesOf 2 (s.port p).notices.lost
        else [0, 0, 0, 0, 0, 0, 0] := by
      unfold Port.statusBytes
      rw [bytesOf_one, bytesOf_one]
      rfl
    rw [status]
    unfold Faults.bytes
    dsimp only [Reply.done]
    simp only [List.append_assoc, List.cons_append, List.nil_append]
    rfl

/-! ### Answers and refusals (R148, R181) -/

/-- An answer DONE or QUEUED, or one that changes nothing. -/
def Refuses (s : State) (x : State × Reply) : Prop := x.2.status = .done ∨ x.2.status = .queued ∨ x.1 = s

theorem Refuses.only (s : State) (st : Status) : Refuses s (s, .only st) := .inr (.inr rfl)
theorem Refuses.done (s t : State) (results : List Byte) : Refuses s (t, .done results) := .inl rfl
theorem Refuses.onlyDone (s t : State) : Refuses s (t, .only .done) := .inl rfl

theorem Refuses.id (s : State) (reply : Reply) : Refuses s (s, reply) := .inr (.inr rfl)

theorem State.axisRequest_refuses (s : State) (p : PortId) (axis : Byte) (k : AxisId → State × Reply) (part : ∀ x, Refuses s (k x)) :
    Refuses s (s.axisRequest p axis k) := by
  unfold State.axisRequest
  split
  · exact .id _ _
  · split
    · exact part _
    · exact .id _ _

theorem State.outputRequest_refuses (s : State) (p : PortId) (output : Byte) (change : Option (Channel → Channel)) :
    Refuses s (s.outputRequest p output change) := by
  unfold State.outputRequest
  split
  · exact .id _ _
  · split
    · split
      · exact .id _ _
      · exact .onlyDone _ _
    · exact .id _ _

theorem State.genRequest_refuses (s : State) (p : PortId) (gen : Byte) (k : GenId → State × Reply) (part : ∀ g, Refuses s (k g)) :
    Refuses s (s.genRequest p gen k) := by
  unfold State.genRequest
  split
  · exact .id _ _
  · split
    · exact part _
    · exact .id _ _

theorem acknowledgeNoticesRequest_refuses (p : PortId) (number : Half) (s : State) :
    Refuses s (acknowledgeNoticesRequest p number s) := by
  unfold acknowledgeNoticesRequest
  dsimp only
  split
  · split
    · exact .done _ _ _
    · exact .id _ _
  · split
    · exact .id _ _
    · split <;> exact .id _ _

theorem claimRequest_refuses (p : PortId) (resource wait : Byte) (s : State) : Refuses s (claimRequest p resource wait s) := by
  unfold claimRequest
  split
  · dsimp only
    split
    · exact .id _ _
    split
    · exact .id _ _
    split
    · exact .inl rfl
    split
    · exact .id _ _
    split
    · exact .id _ _
    · exact .inr (.inl rfl)
  · exact .id _ _

theorem releaseRequest_refuses (p : PortId) (resource : Byte) (s : State) : Refuses s (releaseRequest p resource s) := by
  unfold releaseRequest
  split
  · exact .id _ _
  · split
    · split
      · exact .onlyDone _ _
      · exact .id _ _
    · exact .id _ _

theorem defineWindowRequest_refuses (p : PortId) (axis output : Byte) (raw : RawWindow) (s : State) :
    Refuses s (defineWindowRequest p axis output raw s) := by
  unfold defineWindowRequest
  split
  · split
    · split
      · exact .id _ _
      split
      · exact .id _ _
      split
      · exact .id _ _
      · exact .done _ _ _
    · exact .id _ _
  · exact .id _ _

theorem editWindowRequest_refuses (p : PortId) (slot : Byte) (raw : RawWindow) (s : State) :
    Refuses s (editWindowRequest p slot raw s) := by
  unfold editWindowRequest
  split
  · exact .id _ _
  · split
    · split
      · exact .id _ _
      split
      · exact .id _ _
      · exact .onlyDone _ _
    · exact .id _ _

theorem deleteWindowRequest_refuses (p : PortId) (slot : Byte) (s : State) : Refuses s (deleteWindowRequest p slot s) := by
  unfold deleteWindowRequest
  split
  · exact .id _ _
  · split
    · split
      · exact .id _ _
      · exact .onlyDone _ _
    · exact .id _ _

theorem commitWindowsRequest_refuses (p : PortId) (axis timing : Byte) (s : State) :
    Refuses s (commitWindowsRequest p axis timing s) := by
  unfold commitWindowsRequest
  split
  · split
    · exact .id _ _
    split
    · exact .id _ _
    split <;> exact .onlyDone _ _
  · exact .id _ _

theorem queueCompareRequest_refuses (p : PortId) (raw : RawCompare) (s : State) : Refuses s (queueCompareRequest p raw s) := by
  unfold queueCompareRequest
  split
  · exact .id _ _
  · split
    · split
      · split
        · exact .id _ _
        · split
          · exact .id _ _
          · exact .done _ _ _
      · exact .id _ _
    · exact .id _ _

theorem appendMoveRequest_refuses (p : PortId) (gen : Byte) (raw : RawMove) (s : State) : Refuses s (appendMoveRequest p gen raw s) := by
  refine s.genRequest_refuses p gen _ fun g => ?_
  split
  · exact .id _ _
  split
  · exact .id _ _
  split
  · exact .id _ _
  split
  · exact .id _ _
  · exact .done _ _ _

/-- The owning block's part of every request but Clear Halt changes nothing where it refuses. -/
theorem State.perform_refuses (s : State) (p : PortId) {r : Request} (k : r ≠ .clearHalt) : Refuses s (s.perform p r) := by
  cases r <;> unfold State.perform <;> dsimp only
  case unknown | badLength | renew | readHalt | readClaims => exact .id _ _
  case openSession a b c =>
    unfold openSessionRequest
    split
    · split
      · exact .id _ _
      · exact .done _ _ _
    · exact .id _ _
  case closeSession => exact .onlyDone _ _
  case readPortStatus => exact .done _ _ _
  case setSubscriptions u =>
    unfold setSubscriptionsRequest
    split
    · exact .id _ _
    · exact .onlyDone _ _
  case acknowledgeNotices n => exact acknowledgeNoticesRequest_refuses p n s
  case claim r w => exact claimRequest_refuses p r w s
  case release r => exact releaseRequest_refuses p r s
  case cancelWait r =>
    unfold cancelWaitRequest
    split
    · exact .id _ _
    · dsimp only
      split
      · exact .onlyDone _ _
      · exact .id _ _
  case configureAxis x m l d g =>
    refine s.axisRequest_refuses p x _ fun x => ?_
    split
    · split
      · exact .id _ _
      · exact .onlyDone _ _
    · exact .id _ _
  case presetAxis x t pos =>
    refine s.axisRequest_refuses p x _ fun x => ?_
    split
    · exact .onlyDone _ _
    · exact .id _ _
  case readAxis x => exact .inr (.inr (readAxisRequest_state x s))
  case armCapture x source edge count =>
    refine s.axisRequest_refuses p x _ fun x => ?_
    split
    · exact .onlyDone _ _
    · exact .id _ _
  case readCaptures x => exact s.axisRequest_refuses p x _ fun _ => .done _ _ _
  case defineWindow x o w => exact defineWindowRequest_refuses p x o w s
  case editWindow i w => exact editWindowRequest_refuses p i w s
  case deleteWindow i => exact deleteWindowRequest_refuses p i s
  case commitWindows x t => exact commitWindowsRequest_refuses p x t s
  case cancelCommit x =>
    unfold cancelCommitRequest
    split
    · exact .id _ _
    · split
      · exact .onlyDone _ _
      · exact .id _ _
  case readWindow i => exact .inr (.inr (readWindowRequest_state i s))
  case queueCompare f => exact queueCompareRequest_refuses p f s
  case withdrawCompare id =>
    unfold withdrawCompareRequest
    split
    · exact .onlyDone _ _
    · exact .id _ _
  case readCompares x i => exact .inr (.inr (readComparesRequest_state x i s))
  case setOutputMode | setOutputLevel | setFallback | pulseOutput | clearOverlay => exact State.outputRequest_refuses _ _ _ _
  case readOutputs =>
    rcases readOutputsRequest_cases s with ⟨-, -, e⟩ | ⟨later, -, e⟩ <;> rw [e] <;> exact .done _ _ _
  case configureGenerator g m sd hd d =>
    refine s.genRequest_refuses p g _ fun g => ?_
    split
    · split
      · exact .onlyDone _ _
      · exact .id _ _
    · exact .id _ _
  case appendMove g m => exact appendMoveRequest_refuses p g m s
  case stopGenerator g m =>
    refine s.genRequest_refuses p g _ fun g => ?_
    split
    · exact .onlyDone _ _
    · exact .onlyDone _ _
    · exact .id _ _
  case triggerGenerator g =>
    refine s.genRequest_refuses p g _ fun g => ?_
    split
    · exact .onlyDone _ _
    · exact .id _ _
  case setGeneratorPosition g v =>
    refine s.genRequest_refuses p g _ fun g => ?_
    split
    · exact .id _ _
    · split
      · exact .onlyDone _ _
      · exact .id _ _
  case readGenerator g => exact .inr (.inr (readGeneratorRequest_state g s))
  case clearHalt => exact absurd rfl k

/-- A Clear Halt is refused in ACTIVE alone (R129). -/
theorem clearHaltRequest_refused (p : PortId) (s : State) (done : (clearHaltRequest p s).2.status ≠ .done) :
    (clearHaltRequest p s).2.status = .halted ∧ (clearHaltRequest p s).1 = s.completeHandOver := by
  unfold clearHaltRequest at done ⊢
  dsimp only at done ⊢
  split at done
  · exact ⟨rfl, rfl⟩
  · exact absurd rfl done
  · exact absurd rfl done

/-- A request answered with another status than DONE and QUEUED changes nothing; a Clear Halt ends an earlier hand-over. -/
theorem State.answer_refused (s : State) (p : PortId) (r : Request) (events : s.vEvents = []) (done : (s.answer p r).2.status ≠ .done)
    (queued : (s.answer p r).2.status ≠ .queued) :
    (s.answer p r).1 = s ∨
      r = .clearHalt ∧ (s.answer p r).2.status = .halted ∧ (s.answer p r).1 = s.completeHandOver := by
  cases check : s.commonCheck p r with
  | some st => rw [State.answer_failed check]; exact .inl rfl
  | none =>
    rw [State.answer_passed check] at done queued ⊢
    dsimp only at done queued ⊢
    by_cases clear : r = .clearHalt
    · subst clear
      obtain ⟨status, state⟩ := clearHaltRequest_refused p s done
      refine .inr ⟨rfl, status, ?_⟩
      change (clearHaltRequest p s).1.drain = _
      rw [state, State.drain_settled _ (s.completeHandOver_hushed.events.trans events)]
    · have same : (s.perform p r).1 = s := ((s.perform_refuses p clear).resolve_left done).resolve_left queued
      rw [same, State.drain_settled _ events]
      exact .inl rfl

/-- Settles O39: the answer of a request that does not close the session, put into the cache and handed over, but for that of a
Clear Halt whose change is still being handed on. -/
theorem refusedRequestsChangeNothing : Obligations.RefusedRequestsChangeNothing := by
  intro s p seq c r h hc close
  have events : (s.received p seq r).vEvents = [] := h.settled
  refine ⟨((s.received p seq r).answer p r).1, ((s.received p seq r).answer p r).2.status,
    ((s.received p seq r).answer p r).2.results, ?_, State.answer_refused _ p r events⟩
  have closes (st : Status) : closesWith r st = false := by
    unfold closesWith
    rw [decide_eq_false close, Bool.false_and]
  rw [Instr.exec_asRequest hc, State.arrival_serves h, State.takeRequest_eq, closes]
  cases waits : ((s.received p seq r).answer p r).1.awaitsHandOver r ((s.received p seq r).answer p r).2.status with
  | false => exact .inl rfl
  | true =>
    unfold State.awaitsHandOver at waits
    simp only [Bool.and_eq_true, decide_eq_true_eq, Bool.not_eq_true', List.isEmpty_eq_false_iff] at waits
    obtain ⟨⟨clear, status⟩, handing⟩ := waits
    exact .inr ⟨clear, status, handing, rfl⟩

end Sys2Proof.Machine
end

section
/-! SUPPORT. The requests of a resource's holder (chapters 1, 2, 4, 5, 8): the checks they share, and the claims. -/

namespace Sys2Proof.Machine

variable {s t : State} {p : PortId} {seq : Byte} {c : Instr} {r : Request}

/-! ### Resource ids (Table 12.3) -/

theorem outputOf_of_resource {b : Byte} {o : OutputId} (h : resourceOf b = some (.output o)) : outputOf b = some o := by
  unfold resourceOf at h
  split at h
  · rename_i k; cases h; exact k
  all_goals cases h

theorem genOf_of_resource {b : Byte} {g : GenId} (h : resourceOf b = some (.generator g)) : genOf b = some g := by
  unfold resourceOf at h
  split at h
  · cases h
  · rename_i k; cases h; exact k
  all_goals cases h

theorem axisOf_of_resource {b : Byte} {x : AxisId} (h : resourceOf b = some (.axis x)) : axisOf b = some x := by
  unfold resourceOf at h
  split at h
  · cases h
  · cases h
  · rename_i k; cases h; exact k
  · cases h

/-! ### The checks of a holder's request (R134) -/

theorem State.axisRequest_held {axis : Byte} {x : AxisId} (hx : axisOf axis = some x) (held : s.holds p (.axis x) = true)
    (k : AxisId → State × Reply) : s.axisRequest p axis k = k x := by
  unfold State.axisRequest
  rw [hx]
  exact if_pos held

theorem State.axisRequest_unheld {axis : Byte} {x : AxisId} (hx : axisOf axis = some x) (free : s.holds p (.axis x) = false)
    (k : AxisId → State × Reply) : s.axisRequest p axis k = (s, .only .notOwner) := by
  unfold State.axisRequest
  rw [hx]
  exact if_neg (Bool.eq_false_iff.mp free)

theorem State.genRequest_held {gen : Byte} {g : GenId} (hg : genOf gen = some g) (held : s.holds p (.generator g) = true)
    (k : GenId → State × Reply) : s.genRequest p gen k = k g := by
  unfold State.genRequest
  rw [hg]
  exact if_pos held

theorem State.genRequest_unheld {gen : Byte} {g : GenId} (hg : genOf gen = some g) (free : s.holds p (.generator g) = false)
    (k : GenId → State × Reply) : s.genRequest p gen k = (s, .only .notOwner) := by
  unfold State.genRequest
  rw [hg]
  exact if_neg (Bool.eq_false_iff.mp free)

theorem State.outputRequest_held {output : Byte} {o : OutputId} (ho : outputOf output = some o)
    (held : s.holds p (.output o) = true) (f : Channel → Channel) :
    s.outputRequest p output (some f) = (s.arrive o f, .only .done) := by
  unfold State.outputRequest
  rw [ho]
  exact if_pos held

theorem State.outputRequest_unheld {output : Byte} {o : OutputId} (ho : outputOf output = some o)
    (free : s.holds p (.output o) = false) (f : Option (Channel → Channel)) :
    s.outputRequest p output f = (s, .only .notOwner) := by
  unfold State.outputRequest
  rw [ho]
  exact if_neg (Bool.eq_false_iff.mp free)

/-! ### Claims (R135, R141) -/

theorem flagOf_bit (w : Bool) : flagOf (if w then 1 else 0) = some w := by cases w <;> rfl

theorem State.received_holderStation (s : State) (p : PortId) (seq : Byte) (r : Request) (q : Resource) :
    (s.received p seq r).holderStation q = s.holderStation q := by
  unfold State.holderStation State.station
  simp only [State.received_station]
  rfl

theorem Claim.place_first {c : Claim} (h : c.waiters.head? = some p) : c.place p = 1 ∧ p ∈ c.waiters := by
  cases w : c.waiters with
  | nil => rw [w] at h; cases h
  | cons q rest =>
    rw [w] at h
    cases h
    refine ⟨?_, .head _⟩
    unfold Claim.place
    rw [w, List.findIdx_cons, decide_eq_true rfl]
    rfl

theorem Claim.place_second {c : Claim} {q : PortId} (other : q ≠ p) (h : c.waiters = [q, p]) :
    c.place p = 2 ∧ p ∈ c.waiters := by
  refine ⟨?_, by rw [h]; exact .tail _ (.head _)⟩
  unfold Claim.place
  rw [h, List.findIdx_cons, decide_eq_false other, List.findIdx_cons, decide_eq_true rfl]
  rfl

/-- Claim by the rows of Table 8.2. -/
theorem claimRequest_eq {resource wait : Byte} {q : Resource} {w : Bool} (hq : resourceOf resource = some q)
    (hw : flagOf wait = some w) (p : PortId) (s : State) :
    claimRequest p resource wait s =
      if s.holds p q then (s, { status := .done, results := [BitVec.ofNat 8 (s.station p), 0] })
      else if p ∈ (s.claim q).waiters then
        (s, { status := .busy, results := [BitVec.ofNat 8 (s.holderStation q), BitVec.ofNat 8 ((s.claim q).place p)] })
      else if (s.claim q).state = .free then
        (s.setClaim q { state := .held, owner := some p, former := 0, waiters := (s.claim q).waiters },
          { status := .done, results := [BitVec.ofNat 8 (s.station p), 0] })
      else if w = false then (s, { status := .heldElsewhere, results := [BitVec.ofNat 8 (s.holderStation q), 0] })
      else if Config.waitPlaces ≤ (s.claim q).waiters.length then
        (s, { status := .queueFull, results := [BitVec.ofNat 8 (s.holderStation q), 0] })
      else
        (s.setClaim q { s.claim q with waiters := (s.claim q).waiters ++ [p] },
          { status := .queued,
            results := [BitVec.ofNat 8 (s.holderStation q), BitVec.ofNat 8 ((s.claim q).waiters.length + 1)] }) := by
  have one (n m : Nat) : bytesOf 1 n ++ bytesOf 1 m = [BitVec.ofNat 8 n, BitVec.ofNat 8 m] := by rw [bytesOf_one, bytesOf_one]; rfl
  unfold claimRequest
  rw [hq, hw]
  dsimp only
  have last : ((s.claim q).waiters.length : Int) + 1 = ((s.claim q).waiters.length + 1 : Nat) := by norm_cast
  have zero : (0 : Int) = ((0 : Nat) : Int) := rfl
  simp only [one]
  rfl

theorem cancelWaitRequest_eq {resource : Byte} {q : Resource} (hq : resourceOf resource = some q) (p : PortId) (s : State) :
    cancelWaitRequest p resource s =
      if p ∈ (s.claim q).waiters then
        (s.setClaim q { s.claim q with waiters := (s.claim q).waiters.filter fun w => decide (w ≠ p) }, .only .done)
      else (s, .only .notFound) := by
  unfold cancelWaitRequest
  rw [hq]

/-- Settles O45: the rows of the table in their order. -/
theorem claimAndCancelWaitFollowTheRecord : Obligations.ClaimAndCancelWaitFollowTheRecord := by
  refine ⟨fun s p seq resource wait q w h hq hw => ?_, fun s p seq resource q h hq => ⟨fun waits => ?_, fun waits => ?_⟩⟩
  · subst hw
    intro c u own other answer
    have row := claimRequest_eq hq (flagOf_bit w) p u
    have done {v : State} {reply : Reply} (part : claimRequest p resource (if w then 1 else 0) u = (v, reply)) :=
      exec_offGens (c := .claim p seq resource (if w then 1 else 0)) h rfl rfl nofun rfl part
    have station : u.station p = (s.session p).station := s.received_station p p seq _
    have holder : u.holderStation q = s.holderStation q := s.received_holderStation p seq _ q
    rw [station, holder, show u.holds p q = s.holds p q from rfl, show u.claim q = s.claim q from rfl] at row
    refine ⟨fun holds => ?_, fun free first => ?_, fun k free ne second => ?_, fun free absent => ⟨fun state => ?_, fun state no => ?_,
      fun state yes full => ?_, fun state yes room => ?_⟩⟩
    · rw [if_pos holds] at row
      exact (done row :)
    · rw [if_neg (Bool.eq_false_iff.mp free), if_pos (Claim.place_first first).2, (Claim.place_first first).1] at row
      exact (done row :)
    · rw [if_neg (Bool.eq_false_iff.mp free), if_pos (Claim.place_second ne second).2, (Claim.place_second ne second).1] at row
      exact (done row :)
    all_goals rw [if_neg (Bool.eq_false_iff.mp free), if_neg absent] at row
    · rw [if_pos state] at row
      exact (done row :)
    · rw [if_neg state, if_pos no] at row
      exact (done row :)
    · rw [if_neg state, if_neg (show ¬w = false from Bool.not_eq_false _ ▸ yes), if_pos (show Config.waitPlaces ≤ _ from full)] at row
      exact (done row :)
    · rw [if_neg state, if_neg (show ¬w = false from Bool.not_eq_false _ ▸ yes), if_neg (show ¬Config.waitPlaces ≤ _ from Nat.not_le.mpr room)] at row
      exact (done row :)
  · have row := cancelWaitRequest_eq hq p (s.received p seq (.cancelWait resource))
    exact (exec_offGens (c := .cancelWait p seq resource) h rfl rfl nofun rfl (row.trans (if_pos waits)) :)
  · have row := cancelWaitRequest_eq hq p (s.received p seq (.cancelWait resource))
    exact (exec_offGens (c := .cancelWait p seq resource) h rfl rfl nofun rfl (row.trans (if_neg waits)) :)

/-! ### Requests of a session that does not hold the resource (R134) -/

theorem exec_notOwner (h : s.ServesSession p seq) (hc : c.asRequest = some (p, seq, r)) (k : listed r = true)
    (close : r ≠ .closeSession) (clear : r ≠ .clearHalt)
    (part : (s.received p seq r).perform p r = (s.received p seq r, .only .notOwner)) :
    exec c s = .next ((s.received p seq r).answered p seq [r.code, 0x20]) := by
  have refused := exec_only h hc k close clear part
  exact refused

theorem exec_notFound (h : s.ServesSession p seq) (hc : c.asRequest = some (p, seq, r)) (k : listed r = true)
    (close : r ≠ .closeSession) (clear : r ≠ .clearHalt)
    (part : (s.received p seq r).perform p r = (s.received p seq r, .only .notFound)) :
    exec c s = .next ((s.received p seq r).answered p seq [r.code, 0x32]) := by
  have refused := exec_only h hc k close clear part
  exact refused

theorem slotOf_eq {b : Byte} {i : Fin 48} (h : b.toNat = i.val) : slotOf b = some i := by
  unfold slotOf
  rw [dif_pos (by rw [h]; exact i.isLt)]
  exact congrArg some (Fin.ext h)

theorem State.namesOwn_false {i : Fin 48} {q : Resource} (free : s.holds p q = false)
    (h : s.slots[i].status = .free ∨ q = .output s.slots[i].output) : s.namesOwn p i = false := by
  unfold State.namesOwn
  rcases h with e | e
  · rw [e]; rfl
  · rw [← e, free, Bool.and_false]

theorem queueCompareRequest_eq {raw : RawCompare} {x : AxisId} {crossing : Crossing} {action : CompareAction} {target : Int}
    {rep : Option CompareRepeat} (hx : axisOf raw.axis = some x) (hc : crossingOf raw.crossing = some crossing)
    (ha : compareActionOf raw.action raw.argument raw.width = some action)
    (ht : compareTargetOf (s.axis x) raw.turn raw.position = some target)
    (hr : compareRepeatOf raw.step raw.remaining = some rep) (p : PortId) :
    queueCompareRequest p raw s =
      if action.resource.all (s.holds p) then
        if (s.axis x).status = .overrange then (s, .only .overrange)
        else if Config.comparePool ≤ s.poolSize then (s, .only .tableFull)
        else
          ({ s.setCompareList x
              (insertEntry
                { id := s.findId 255 s.nextCompareId, owner := p, tag := raw.tag, target := target, crossing := crossing,
                  action := action, rep := rep } (s.compareList x)) with
              nextCompareId := idAfter (s.findId 255 s.nextCompareId) },
            .done (bytesOf 1 (s.findId 255 s.nextCompareId)))
      else (s, .only .notOwner) := by
  unfold queueCompareRequest
  rw [hx]
  dsimp only
  rw [hc, ha, ht, hr]

section unheld

variable {id : Byte} (h : s.ServesSession p seq)

include h

theorem exec_releaseUnheld {q : Resource} (hq : resourceOf id = some q) (free : s.holds p q = false) :
    exec (.release p seq id) s = .next ((s.received p seq (.release id)).answered p seq [0x11, 0x20]) :=
  (exec_notOwner (c := .release p seq id) h rfl rfl nofun nofun (by
    change releaseRequest p id _ = _
    unfold releaseRequest
    rw [hq]
    exact if_neg (Bool.eq_false_iff.mp free)) :)

theorem exec_outputUnheld {o : OutputId} (ho : outputOf id = some o) (free : s.holds p (.output o) = false)
    (hc : c.asRequest = some (p, seq, r)) (k : listed r = true) (close : r ≠ .closeSession) (clear : r ≠ .clearHalt)
    {f : Option (Channel → Channel)} (part : (s.received p seq r).perform p r = (s.received p seq r).outputRequest p id f) :
    exec c s = .next ((s.received p seq r).answered p seq [r.code, 0x20]) :=
  exec_notOwner h hc k close clear (part.trans (State.outputRequest_unheld (s := s.received p seq r) ho free f))

theorem exec_genUnheld {g : GenId} (hg : genOf id = some g) (free : s.holds p (.generator g) = false)
    (hc : c.asRequest = some (p, seq, r)) (k : listed r = true) (close : r ≠ .closeSession) (clear : r ≠ .clearHalt)
    {f : GenId → State × Reply} (part : (s.received p seq r).perform p r = (s.received p seq r).genRequest p id f) :
    exec c s = .next ((s.received p seq r).answered p seq [r.code, 0x20]) :=
  exec_notOwner h hc k close clear (part.trans (State.genRequest_unheld (s := s.received p seq r) hg free f))

theorem exec_axisUnheld {x : AxisId} (hx : axisOf id = some x) (free : s.holds p (.axis x) = false)
    (hc : c.asRequest = some (p, seq, r)) (k : listed r = true) (close : r ≠ .closeSession) (clear : r ≠ .clearHalt)
    {f : AxisId → State × Reply} (part : (s.received p seq r).perform p r = (s.received p seq r).axisRequest p id f) :
    exec c s = .next ((s.received p seq r).answered p seq [r.code, 0x20]) :=
  exec_notOwner h hc k close clear (part.trans (State.axisRequest_unheld (s := s.received p seq r) hx free f))

theorem exec_defineUnheld {axis : Byte} {raw : RawWindow} {x : AxisId} {o : OutputId} (hx : axisOf axis = some x)
    (ho : outputOf id = some o) (free : s.holds p (.output o) = false) :
    exec (.defineWindow p seq axis id raw) s =
      .next ((s.received p seq (.defineWindow axis id raw)).answered p seq [0x30, 0x20]) :=
  (exec_notOwner (c := .defineWindow p seq axis id raw) h rfl rfl nofun nofun (by
    change defineWindowRequest p axis id raw _ = _
    unfold defineWindowRequest
    rw [hx, ho]
    exact if_neg (Bool.eq_false_iff.mp free)) :)

theorem exec_slotUnheld {i : Fin 48} {slot : Byte} (hi : slot.toNat = i.val) (names : s.namesOwn p i = false) :
    (exec (.deleteWindow p seq slot) s = .next ((s.received p seq (.deleteWindow slot)).answered p seq [0x32, 0x32])) ∧
      ∀ raw, exec (.editWindow p seq slot raw) s = .next ((s.received p seq (.editWindow slot raw)).answered p seq [0x31, 0x32]) := by
  refine ⟨(exec_notFound (c := .deleteWindow p seq slot) h rfl rfl nofun nofun ?_ :), fun raw =>
    (exec_notFound (c := .editWindow p seq slot raw) h rfl rfl nofun nofun ?_ :)⟩
  · change deleteWindowRequest p slot _ = _
    unfold deleteWindowRequest
    rw [slotOf_eq hi]
    exact if_neg (Bool.eq_false_iff.mp names)
  · change editWindowRequest p slot raw _ = _
    unfold editWindowRequest
    rw [slotOf_eq hi]
    exact if_neg (Bool.eq_false_iff.mp names)

end unheld

/-- Settles O46: the claim is checked before every other value but the id. -/
theorem holderRequestsNeedTheClaim : Obligations.HolderRequestsNeedTheClaim := by
  intro s p seq id q h hq free refused notFound
  refine ⟨?_, fun axis raw x o e hx => ?_, fun i slot hi names => ⟨?_, fun raw => ?_⟩, ?_, fun o e => ?_, fun g e => ?_, fun x e => ?_⟩
  · intro r hr; cases hr
    exact exec_releaseUnheld h hq free
  · intro r hr; cases hr
    subst e
    exact exec_defineUnheld h hx (outputOf_of_resource hq) free
  · intro r hr; cases hr
    exact (exec_slotUnheld h hi (State.namesOwn_false free names)).1
  · intro r hr; cases hr
    exact (exec_slotUnheld h hi (State.namesOwn_false free names)).2 raw
  · intro raw x crossing action target rep hx hc ha ht hp acts r hr
    cases hr
    refine exec_notOwner (c := .queueCompare p seq raw) h rfl rfl nofun nofun ?_
    have row := queueCompareRequest_eq (s := s.received p seq (.queueCompare raw)) hx hc ha ht hp p
    rw [acts] at row
    exact row.trans (if_neg (by rw [Option.all_some]; exact Bool.eq_false_iff.mp free))
  · subst e
    have ho := outputOf_of_resource hq
    refine ⟨fun v => ⟨?_, ?_, ?_⟩, fun w => ?_, ?_⟩ <;> intro r hr <;> cases hr
    · exact exec_outputUnheld h ho free rfl rfl nofun nofun rfl
    · exact exec_outputUnheld h ho free rfl rfl nofun nofun rfl
    · exact exec_outputUnheld h ho free rfl rfl nofun nofun rfl
    · exact exec_outputUnheld h ho free rfl rfl nofun nofun rfl
    · exact exec_outputUnheld h ho free rfl rfl nofun nofun
        (show _ = (s.received p seq (.clearOverlay id)).outputRequest p id (some Channel.outClear) from rfl)
  · subst e
    have hg := genOf_of_resource hq
    refine ⟨fun m sd hd d => ?_, fun raw => ?_, ?_, ?_, ?_, fun v => ?_⟩ <;> intro r hr <;> cases hr <;>
      exact exec_genUnheld h hg free rfl rfl nofun nofun rfl
  · subst e
    have hx := axisOf_of_resource hq
    refine ⟨fun m l d t => ?_, fun t pos => ?_, fun c e n => ?_, ?_⟩ <;> intro r hr <;> cases hr <;>
      exact exec_axisUnheld h hx free rfl rfl nofun nofun rfl

end Sys2Proof.Machine
end

section
/-! SUPPORT. The requests about axes, windows, commits, compares and outputs (chapters 1 to 4). -/

namespace Sys2Proof.Machine

variable {s t : State} {p : PortId} {seq : Byte} {c : Instr} {r : Request}

/-! ### A state answered -/

theorem Port.handed_notices (q : Port) (seq : Byte) (body : List Byte) (closes : Bool) :
    (q.handed seq body closes).notices = q.notices := by
  unfold Port.handed
  split <;> rfl

theorem Port.handed_session (q : Port) (seq : Byte) (body : List Byte) (closes : Bool) :
    (q.handed seq body closes).session = q.session := by
  unfold Port.handed
  split <;> rfl

theorem State.answered_port_same (s : State) (p : PortId) (seq : Byte) (body : List Byte) :
    (s.answered p seq body).port p = { (s.port p).handed seq body false with cache := some { seq := seq, body := body } } :=
  s.port_modPort_same p _

theorem State.answered_cache (s : State) (p : PortId) (seq : Byte) (body : List Byte) :
    ((s.answered p seq body).port p).cache = some { seq := seq, body := body } := by
  rw [State.answered_port_same]

theorem State.answered_notices (s : State) (p q : PortId) (seq : Byte) (body : List Byte) :
    ((s.answered p seq body).port q).notices = (s.port q).notices := by
  unfold State.answered
  rw [State.modPort_port]
  split
  · subst q; exact Port.handed_notices _ _ _ _
  · rfl

/-! ### Axis requests (R11, R12, R16 to R18) -/

theorem cycleOf_eq {w : Word} (low : 16 ≤ w.toNat) (high : w.toNat ≤ 1048576) : cycleOf w = some w.toNat := if_pos ⟨low, high⟩

theorem gateOf_eq {w : Half} (low : 1 ≤ w.toNat) (high : w.toNat ≤ 1000) : gateOf w = some w.toNat := if_pos ⟨low, high⟩

theorem armCountOf_eq {b : Byte} (low : 1 ≤ b.toNat) (high : b.toNat ≤ 8) : armCountOf b = some b.toNat := if_pos ⟨low, high⟩

theorem configureAxisRequest_eq {axis mode sense : Byte} {cycle : Word} {gate : Half} {x : AxisId} {m : AxisMode} {l g : Nat}
    {d : Sense} (hx : axisOf axis = some x) (held : s.holds p (.axis x) = true) (hm : axisModeOf mode = some m)
    (hl : cycleOf cycle = some l) (hd : axisSenseOf x sense = some d) (hg : gateOf gate = some g) :
    configureAxisRequest p axis mode cycle sense gate s =
      if s.axisReferred x then (s, .only .busy) else (s.modAxis x fun a => a.configured m l d g, .only .done) := by
  unfold configureAxisRequest
  rw [State.axisRequest_held hx held, hm, hl, hd, hg]

theorem armCaptureRequest_eq {axis source edge count : Byte} {x : AxisId} {c : CaptureSource} {e : CaptureEdge} {n : Nat}
    (hx : axisOf axis = some x) (held : s.holds p (.axis x) = true) (hc : axisSourceOf x source = some c)
    (he : edgeOf edge = some e) (hn : armCountOf count = some n) :
    armCaptureRequest p axis source edge count s =
      (s.modAxis x fun a => { a with arming := some { source := c, edge := e, remaining := n } }, .only .done) := by
  unfold armCaptureRequest
  rw [State.axisRequest_held hx held, hc, he, hn]

theorem readCapturesRequest_eq {axis : Byte} {x : AxisId} (hx : axisOf axis = some x) (held : s.holds p (.axis x) = true) :
    readCapturesRequest p axis s =
      (s.modAxis x fun a => { a with log := [], lost := 0, lossReported := false },
        .done (bytesOf 1 (s.axis x).log.length ++ bytesOf 2 (s.axis x).lost ++ (s.axis x).log.flatMap CaptureRecord.bytes)) := by
  unfold readCapturesRequest
  rw [State.axisRequest_held hx held]

/-- Settles O47: the three requests as the axis part answers them. -/
theorem axisRequestsOfTheHolder : Obligations.AxisRequestsOfTheHolder := by
  intro s p seq axis x h hx held a sourceCode
  refine ⟨fun mode cycle sense gate m d hm low high hd glow ghigh => ?_, fun source edge count c e hc he low high => ?_, ?_⟩
  · have row := configureAxisRequest_eq (s := s.received p seq (.configureAxis axis mode cycle sense gate)) hx held hm
      (cycleOf_eq low high) hd (gateOf_eq glow ghigh)
    refine ⟨fun busy => ?_, fun free => ?_⟩
    · exact (exec_offGens (c := .configureAxis p seq axis mode cycle sense gate) h rfl rfl nofun rfl (row.trans (if_pos busy)) :)
    · have done := exec_offGens (c := .configureAxis p seq axis mode cycle sense gate) h rfl rfl nofun rfl
        (row.trans (if_neg (Bool.eq_false_iff.mp free)))
      exact done
  · have row := armCaptureRequest_eq (s := s.received p seq (.armCapture axis source edge count)) hx held hc he
      (armCountOf_eq low high)
    have done := exec_offGens (c := .armCapture p seq axis source edge count) h rfl rfl nofun rfl row
    exact done
  · have bytes : CaptureRecord.bytes = fun c =>
        [sourceCode c.source] ++ bytesOf 5 c.position ++ bytesOf 4 c.velocity ++ bytesOf 4 c.time.toNat := by
      funext c
      obtain ⟨source, position, velocity, time⟩ := c
      cases source with
      | marker => rfl
      | ref l => cases l <;> rfl
      | compare => rfl
    have row := readCapturesRequest_eq (s := s.received p seq (.readCaptures axis)) hx held
    have done := exec_offGens (c := .readCaptures p seq axis) h rfl rfl nofun rfl row
    rw [bytes] at done
    exact done

/-! ### Preset Axis (R18) -/

theorem Axis.validPlace_of {a : Axis} {turn : Half} {position : Word}
    (h : if a.mode = .rotary then 0 ≤ position.toInt ∧ position.toInt < a.cycle
      else -2000000000 ≤ position.toInt ∧ position.toInt ≤ 2000000000 ∧ turn = 0) :
    a.validPlace turn.toInt position.toInt = true := by
  unfold Axis.validPlace
  cases m : a.mode
  all_goals rw [m] at h
  · obtain ⟨low, high, zero⟩ := h
    subst zero
    simp only [inCountRange, Bool.and_eq_true, decide_eq_true_eq]
    exact ⟨⟨low, high⟩, rfl⟩
  · obtain ⟨low, high⟩ := h
    have t := turn.toInt_lt
    have t' := turn.le_toInt
    simp only [Bool.and_eq_true, decide_eq_true_eq]
    omega

/-- A window as an evaluation of all windows on an axis leaves it (R37). -/
theorem State.evaluateAxis_slot (s : State) (x : AxisId) (i : Fin 48) :
    (s.evaluateAxis x).slots[i] = if s.slots[i].axis = x then s.slots[i].evaluated (s.axis x) else s.slots[i] := by
  unfold State.evaluateAxis
  simp only [State.recomposeAll_slots]
  have one := s.evaluateSlots_slot x (fun _ => true) i
  simpa using one

theorem Slot.evaluated_counting {w : Slot} {copy : WindowCopy} (counts : w.status.counts = true) (active : w.active = some copy)
    (a : Axis) : w.evaluated a = { w with inside := copy.insideOn a } := by
  unfold Slot.evaluated
  rw [if_pos counts, active]

theorem Slot.evaluated_still {w : Slot} (counts : w.status.counts = false) (a : Axis) : w.evaluated a = w :=
  if_neg (Bool.eq_false_iff.mp counts)

theorem presetAxisRequest_eq {axis : Byte} {turn : Half} {position : Word} {x : AxisId} (hx : axisOf axis = some x)
    (held : s.holds p (.axis x) = true) (valid : (s.axis x).validPlace turn.toInt position.toInt = true) :
    presetAxisRequest p axis turn position s =
      ((s.modAxis x fun a => a.preset turn.toInt position.toInt).evaluateAxis x, .only .done) := by
  unfold presetAxisRequest
  rw [State.axisRequest_held hx held, valid]
  rfl

/-- Settles O48: the axis is replaced and its windows are evaluated on it. -/
theorem presetMovesTheAxisAlone : Obligations.PresetMovesTheAxisAlone := by
  intro s p seq axis turn position x h hx held a valid b
  have row := presetAxisRequest_eq (s := s.received p seq (.presetAxis axis turn position)) hx held (Axis.validPlace_of valid)
  have done := exec_offGens (c := .presetAxis p seq axis turn position) h rfl rfl nofun rfl row
  let u := (s.received p seq (.presetAxis axis turn position)).modAxis x fun a => a.preset turn.toInt position.toInt
  have reach : CamOnly u (u.evaluateAxis x) := u.evaluateAxis_reach x
  have place : u.axis x = b := State.modAxis_axis_same _ x _
  refine ⟨_, done, ?_, fun i on counts w active => ?_, fun y other => ?_, reach.compares, reach.commits, reach.gens, reach.claims,
    reach.halt, State.answered_cache _ _ _ _⟩
  · exact (State.axis_congr reach.axes x).trans place
  · refine (u.evaluateAxis_slot x i).trans ?_
    rw [place, if_pos (show u.slots[i].axis = x from on)]
    exact Slot.evaluated_counting counts active b
  · exact (State.axis_congr reach.axes y).trans (State.modAxis_axis_other _ x y _ other)

/-! ### Output requests (R74 to R79) -/

/-- The effective level, as it stands in R69. -/
theorem Channel.effective_eq (c : Channel) :
    c.effective =
      if c.halt then c.fallback
      else if c.overlay = .high then .high
      else if c.overlay = .low then .low
      else if c.mode = .manual then c.manual
      else if c.cam then .high else .low := by
  unfold Channel.effective camAsLevel
  cases c.overlay <;> cases c.mode <;> rfl

theorem widthOf_eq {w : Half} (low : 1 ≤ w.toNat) (high : w.toNat ≤ 10000) : widthOf w = some w.toNat := if_pos ⟨low, high⟩

theorem exec_arrives {output : Byte} {o : OutputId} (h : s.ServesSession p seq) (ho : outputOf output = some o)
    (held : s.holds p (.output o) = true) (hc : c.asRequest = some (p, seq, r)) (k : listed r = true) (close : r ≠ .closeSession)
    (off : actsOnGens r = false) {change : Option (Channel → Channel)} {f : Channel → Channel} (valid : change = some f)
    (part : (s.received p seq r).perform p r = (s.received p seq r).outputRequest p output change) :
    exec c s = .next (((s.received p seq r).arrive o f).answered p seq [r.code, 0x00]) := by
  subst valid
  have done := exec_offGens h hc k close off (part.trans (State.outputRequest_held (s := s.received p seq r) ho held f))
  exact done

/-- Settles O55: each request is an arrival at the channel. -/
theorem outputRequestsAreArrivals : Obligations.OutputRequestsAreArrivals := by
  intro s p seq output o h ho held c arrives
  have arrival {i : Instr} {r : Request} {b : Channel} (f : Channel → Channel) (hb : f c = b) (hr : i.asRequest = some (p, seq, r))
      (row : exec i s = .next (((s.received p seq r).arrive o f).answered p seq [r.code, 0x00])) : arrives i b := by
    intro r' hr'
    obtain rfl : r = r' := congrArg (fun x => x.2.2) (Option.some.inj (hr.symm.trans hr'))
    rw [row, ← hb, ← Channel.effective_eq]
    rfl
  refine ⟨fun v m hm => ?_, fun v l hl => ?_, fun v l hl => ?_, fun w low high => ?_, ?_⟩
  · have row := exec_arrives (c := .setOutputMode p seq output v) h ho held rfl rfl nofun rfl
      (congrArg (Option.map fun m (c : Channel) => { c with mode := m }) hm) rfl
    exact arrival _ rfl rfl row
  · have row := exec_arrives (c := .setOutputLevel p seq output v) h ho held rfl rfl nofun rfl
      (congrArg (Option.map fun l (c : Channel) => { c with manual := l }) hl) rfl
    exact arrival _ rfl rfl row
  · have row := exec_arrives (c := .setFallback p seq output v) h ho held rfl rfl nofun rfl
      (congrArg (Option.map fun l (c : Channel) => { c with fallback := l }) hl) rfl
    exact arrival _ rfl rfl row
  · have row := exec_arrives (c := .pulseOutput p seq output w) h ho held rfl rfl nofun rfl
      (congrArg (Option.map Channel.outPulse) (widthOf_eq low high)) rfl
    exact arrival _ rfl rfl row
  · have row := exec_arrives (c := .clearOverlay p seq output) h ho held rfl rfl nofun rfl (f := Channel.outClear) rfl rfl
    exact arrival _ rfl rfl row

/-! ### Commit requests that apply nothing (R30, R31, R33) -/

theorem commitWindowsRequest_eq {axis timing : Byte} {x : AxisId} {when : CommitTiming} (hx : axisOf axis = some x)
    (ht : timingOf timing = some when) :
    commitWindowsRequest p axis timing s =
      if when = .atRollover ∧ (s.axis x).mode = .linear then (s, .only .badValue)
      else if s.hasCommit p x then (s, .only .busy)
      else if when = .now then (s.applyCommit p x .now, .only .done)
      else (s.setCommit p x true, .only .done) := by
  unfold commitWindowsRequest
  rw [hx, ht]
  cases when <;> rfl

theorem cancelCommitRequest_eq {axis : Byte} {x : AxisId} (hx : axisOf axis = some x) :
    cancelCommitRequest p axis s =
      if s.hasCommit p x then (s.setCommit p x false, .only .done) else (s, .only .notFound) := by
  unfold cancelCommitRequest
  rw [hx]

/-- Settles O52: the rows of Commit Windows AT_ROLLOVER and Cancel Commit. -/
theorem pendingCommitsComeAndGo : Obligations.PendingCommitsComeAndGo := by
  intro s p seq axis x h hx u v
  have commit := commitWindowsRequest_eq (s := u) (p := p) (timing := 1) hx rfl
  have cancel := cancelCommitRequest_eq (s := v) (p := p) hx
  have done {w : State} {reply : Reply} (part : commitWindowsRequest p axis 1 u = (w, reply)) :=
    exec_offGens (c := .commitWindowsAtRollover p seq axis) h rfl rfl nofun rfl part
  have gone {w : State} {reply : Reply} (part : cancelCommitRequest p axis v = (w, reply)) :=
    exec_offGens (c := .cancelCommit p seq axis) h rfl rfl nofun rfl part
  have rotary (m : (s.axis x).mode = .rotary) : ¬(CommitTiming.atRollover = .atRollover ∧ (u.axis x).mode = .linear) :=
    fun e => AxisMode.noConfusion (e.2.symm.trans m)
  refine ⟨fun linear => ?_, fun m busy => ?_, fun m free => ?_, fun pending => ?_, fun none => ?_⟩
  · have row := done (commit.trans (if_pos ⟨rfl, linear⟩))
    exact row
  · have row := done (commit.trans ((if_neg (rotary m)).trans (if_pos busy)))
    exact row
  · have row := done (commit.trans ((if_neg (rotary m)).trans ((if_neg (Bool.eq_false_iff.mp free)).trans (if_neg nofun))))
    exact row
  · have row := gone (cancel.trans (if_pos pending))
    exact row
  · have row := gone (cancel.trans (if_neg (Bool.eq_false_iff.mp none)))
    exact row

end Sys2Proof.Machine
end

section
/-! SUPPORT. The requests that stage or apply windows, and those of the compare lists (chapters 2 and 3). -/

namespace Sys2Proof.Machine

variable {s t : State} {p : PortId} {seq : Byte} {c : Instr} {r : Request}

/-! ### Staging (R25 to R28, R34) -/

/-- The lowest FREE slot (R25). -/
theorem State.freeSlot_eq {i : Fin 48} (free : s.slots[i].status = .free) (below : ∀ j : Fin 48, j < i → s.slots[j].status ≠ .free) :
    s.freeSlot = some i := by
  unfold State.freeSlot
  rw [List.find?_eq_some_iff_getElem]
  refine ⟨decide_eq_true free, i.val, by rw [List.length_finRange]; exact i.isLt, List.getElem_finRange _, fun j hj => ?_⟩
  rw [List.getElem_finRange]
  exact congrArg not (decide_eq_false (below ⟨j, hj.trans i.isLt⟩ hj))

theorem defineWindowRequest_eq {axis output : Byte} {x : AxisId} {o : OutputId} {raw : RawWindow} {w : WindowCopy} {i : Fin 48}
    (hx : axisOf axis = some x) (ho : outputOf output = some o) (held : s.holds p (.output o) = true)
    (hw : windowOf (s.axis x) raw = some w) (room : s.freeSlot = some i) :
    defineWindowRequest p axis output raw s =
      if s.hasCommit p x then (s, .only .busy)
      else
        ({ s with slots := (s.slots.set i
            { status := .staged, axis := x, output := o, active := none, staged := some w, inside := false } : Vector Slot 48) },
          .done (bytesOf 1 i.val)) := by
  unfold defineWindowRequest
  rw [hx, ho]
  dsimp only
  rw [if_pos held, hw, room]

theorem State.namesOwn_true {i : Fin 48} (used : s.slots[i].status ≠ .free) (held : s.holds p (.output s.slots[i].output) = true) :
    s.namesOwn p i = true := (s.namesOwn_iff p i).mpr ⟨used, held⟩

theorem editWindowRequest_eq {slot : Byte} {i : Fin 48} {x : AxisId} {raw : RawWindow} {w : WindowCopy} {edited : Slot}
    (hi : slot.toNat = i.val) (names : s.namesOwn p i = true) (on : s.slots[i].axis = x) (hw : windowOf (s.axis x) raw = some w)
    (he : s.slots[i].edited w = edited) :
    editWindowRequest p slot raw s =
      if s.hasCommit p x then (s, .only .busy) else ({ s with slots := s.slots.set i edited }, .only .done) := by
  subst on he
  unfold editWindowRequest
  rw [slotOf_eq hi]
  dsimp only
  rw [if_pos names, hw]

theorem deleteWindowRequest_eq {slot : Byte} {i : Fin 48} {x : AxisId} {deleted : Slot} (hi : slot.toNat = i.val)
    (names : s.namesOwn p i = true) (on : s.slots[i].axis = x) (hd : s.slots[i].deleted = deleted) :
    deleteWindowRequest p slot s =
      if s.hasCommit p x then (s, .only .busy) else ({ s with slots := s.slots.set i deleted }, .only .done) := by
  subst on hd
  unfold deleteWindowRequest
  rw [slotOf_eq hi]
  exact if_pos names

theorem Slot.edited_eq {slot : Slot} (w : WindowCopy) (used : slot.status ≠ .free) :
    slot.edited w = { slot with staged := some w, status := if slot.status = .staged then .staged else .liveEdited } := by
  obtain ⟨status, axis, output, active, staged, inside⟩ := slot
  cases status with
  | free => exact absurd rfl used
  | staged => rfl
  | live => rfl
  | liveEdited => rfl
  | retiring => rfl

theorem Slot.deleted_counting {slot : Slot} (lawful : slot.Lawful) (h : slot.status = .live ∨ slot.status = .liveEdited) :
    slot.deleted = { slot with status := .retiring, staged := none } := by
  obtain ⟨status, axis, output, active, staged, inside⟩ := slot
  rcases h with rfl | rfl
  · obtain ⟨-, rfl⟩ := lawful
    rfl
  · rfl

theorem Slot.deleted_retiring {slot : Slot} (h : slot.status = .retiring) : slot.deleted = slot := by
  unfold Slot.deleted
  rw [h]

theorem Slot.deleted_staged {slot : Slot} (h : slot.status = .staged) : slot.deleted = .free := by
  unfold Slot.deleted
  rw [h]

/-- The two ways a staging request goes: BUSY under a pending commit, else the slot put (R34). -/
theorem exec_stages (h : s.ServesSession p seq) (hc : c.asRequest = some (p, seq, r)) (k : listed r = true)
    (close : r ≠ .closeSession) (off : actsOnGens r = false) {busy : Bool} {u : State} {results : List Byte}
    (part : (s.received p seq r).perform p r = if busy then (s.received p seq r, .only .busy) else (u, .done results)) :
    (busy = false → exec c s = .next (u.answered p seq (r.code :: 0x00 :: results))) ∧
      (busy = true → exec c s = .next ((s.received p seq r).answered p seq [r.code, 0x23])) := by
  refine ⟨fun e => ?_, fun e => ?_⟩ <;> subst e
  · have done := exec_offGens h hc k close off part
    exact done
  · have done := exec_offGens h hc k close off part
    exact done

/-- Settles O50: each request puts its slot, or is BUSY. -/
theorem windowRequestsStage : Obligations.WindowRequestsStage := by
  intro s p seq raw x o w i h lawful hw held old put
  refine ⟨fun axis output hx ho free below => ?_, fun slot hi used on drives => ⟨?_, fun e => ?_, fun e => ?_, fun e => ?_⟩⟩
  · have row := defineWindowRequest_eq (s := s.received p seq (.defineWindow axis output raw)) hx ho held hw
      (State.freeSlot_eq free below)
    rw [bytesOf_one] at row
    have both := exec_stages (c := .defineWindow p seq axis output raw) h rfl rfl nofun rfl row
    exact both
  all_goals
    have names (r : Request) : (s.received p seq r).namesOwn p i = true :=
      State.namesOwn_true used (show s.holds p (.output old.output) = true by rw [drives]; exact held)
  · have row := editWindowRequest_eq hi (names (.editWindow slot raw)) on hw (Slot.edited_eq w used)
    have both := exec_stages (c := .editWindow p seq slot raw) h rfl rfl nofun rfl row
    exact both
  all_goals
    have done {deleted : Slot} (hd : old.deleted = deleted) :=
      exec_stages (c := .deleteWindow p seq slot) h rfl rfl nofun rfl
        (deleteWindowRequest_eq hi (names (.deleteWindow slot)) on hd)
  · exact done (Slot.deleted_staged e)
  · exact done (Slot.deleted_counting (lawful.slots i).1 e)
  · exact done (Slot.deleted_retiring e)

/-! ### Compare requests (R49 to R52, R63) -/

theorem State.poolSize_places (s : State) (full : s.poolSize = 32) : Config.comparePool ≤ s.poolSize := by
  rw [full]
  exact Nat.le_refl 32

theorem State.idInUse_false {id : Nat} (unused : s.idInUse id = false) (x : AxisId) :
    ∀ e ∈ s.compareList x, e.id ≠ id := fun e he same => by
  have used := (s.idInUse_iff id).mpr ⟨x, e, he, same⟩
  rw [unused] at used
  cases used

theorem State.findId_congr (h : t.compares = s.compares) (n id : Nat) : t.findId n id = s.findId n id := by
  have inUse (id : Nat) : t.idInUse id = s.idInUse id := by
    unfold State.idInUse State.compareList
    rw [h]
  induction n generalizing id with
  | zero => rfl
  | succ n ih =>
    unfold State.findId
    rw [inUse, ih]

/-- A list without one of its entries, found by its id (R63). -/
theorem filter_out_one {low high : List CompareEntry} {e : CompareEntry} {drop : CompareEntry → Bool} (drops : drop e = true)
    (others : ∀ f ∈ low ++ high, drop f = false) : ((low ++ [e] ++ high).filter fun f => !drop f) = low ++ high := by
  have keep (l : List CompareEntry) (h : ∀ f ∈ l, drop f = false) : (l.filter fun f => !drop f) = l :=
    List.filter_eq_self.mpr fun f hf => by rw [h f hf]; rfl
  have out : ([e].filter fun f => !drop f) = [] := List.filter_eq_nil_iff.mpr fun f hf => by
    obtain rfl := List.mem_singleton.mp hf
    rw [drops]
    exact Bool.false_ne_true
  rw [List.filter_append, List.filter_append, out, List.append_nil, keep low fun f hf => others f (List.mem_append_left _ hf),
    keep high fun f hf => others f (List.mem_append_right _ hf)]

theorem State.removeEntries_one (h : s.PoolLawful) {x : AxisId} {low high : List CompareEntry} {e : CompareEntry}
    (split : s.compareList x = low ++ [e] ++ high) {drop : CompareEntry → Bool} (drops : drop e = true)
    (byId : ∀ f, drop f = true → f.id = e.id) : s.removeEntries drop = s.setCompareList x (low ++ high) := by
  obtain ⟨each, cross⟩ := s.ids_differ_iff.mp h.ids_differ
  have mem : e ∈ s.compareList x := by rw [split]; simp
  have others : ∀ f ∈ low ++ high, drop f = false := fun f hf => by
    by_contra yes
    have nodup := each x
    rw [split, List.append_assoc, List.map_append, List.nodup_append] at nodup
    obtain ⟨-, tail, apart⟩ := nodup
    have same := byId f (Bool.not_eq_false _ ▸ yes)
    rcases List.mem_append.mp hf with l | r
    · exact apart f.id (List.mem_map_of_mem l) e.id (by simp) same
    · exact (List.nodup_cons.mp tail).1 (same ▸ List.mem_map_of_mem r)
  have still (y : AxisId) (d : y ≠ x) : ((s.compareList y).filter fun f => !drop f) = s.compareList y :=
    List.filter_eq_self.mpr fun f hf => by
      rw [Bool.eq_false_iff.mpr fun yes => cross x y d.symm e mem f hf (byId f yes).symm]
      rfl
  have same : ((s.compareList x).filter fun f => !drop f) = low ++ high := by
    rw [split]
    exact filter_out_one drops others
  have eq : (s.removeEntries drop).compares = s.compares.set x (low ++ high) := by
    have at_a := still .a
    have at_b := still .b
    have at_v := still .v
    change (⟨(s.compareList .a).filter fun f => !drop f, (s.compareList .b).filter fun f => !drop f,
      (s.compareList .v).filter fun f => !drop f⟩ : PerAxis (List CompareEntry)) = _
    cases x with
    | a => rw [same, at_b nofun, at_v nofun]; rfl
    | b => rw [at_a nofun, same, at_v nofun]; rfl
    | v => rw [at_a nofun, at_b nofun, same]; rfl
  unfold State.setCompareList
  rw [← eq]
  rfl

theorem State.ownsEntry_iff (s : State) (p : PortId) (id : Nat) :
    s.ownsEntry p id = true ↔ ∃ x, ∃ e ∈ s.compareList x, e.id = id ∧ e.owner = p := by
  unfold State.ownsEntry
  simp only [List.any_eq_true, Bool.and_eq_true, decide_eq_true_eq]
  exact ⟨fun ⟨x, _, h⟩ => ⟨x, h⟩, fun ⟨x, h⟩ => ⟨x, mem_allAxes x, h⟩⟩

/-- Settles O53: the row of Queue Compare with the id that the search finds, and the row of Withdraw Compare. -/
theorem compareRequestsKeepTheOrder : Obligations.CompareRequestsKeepTheOrder := by
  constructor
  · intro s p seq raw x crossing action target rep h lawful hx hc ha ht hr holds u candidate
    have row := queueCompareRequest_eq (s := u) hx hc ha ht hr p
    have held : action.resource.all (u.holds p) = true := by
      cases e : action.resource with
      | none => rfl
      | some q => exact holds q e
    replace row := row.trans (if_pos held)
    have done {w : State} {reply : Reply} (part : queueCompareRequest p raw u = (w, reply)) :=
      exec_offGens (c := .queueCompare p seq raw) h rfl rfl nofun rfl part
    have counting (st : (s.axis x).status = .counting) : ¬(u.axis x).status = .overrange := fun e =>
      AxisStatus.noConfusion (e.symm.trans st)
    refine ⟨fun gone => ?_, fun st full => ?_, fun st room => ?_⟩
    · exact (done (row.trans (if_pos gone)) :)
    · exact (done (row.trans ((if_neg (counting st)).trans (if_pos (u.poolSize_places full)))) :)
    · obtain ⟨k, id, unused, before⟩ := s.findId_first (by omega) lawful.pool.next_range
      have fresh : u.findId 255 u.nextCompareId = candidate k := (State.findId_congr (s := s) (t := u) rfl 255 s.nextCompareId).trans id
      obtain ⟨low, high, split, joined, below, above⟩ :=
        insertEntry_split { id := candidate k, owner := p, tag := raw.tag, target, crossing, action, rep }
          (lawful.pool.ordered x)
      refine ⟨k, low, high, State.idInUse_false unused, fun j hj => (s.idInUse_iff _).mp (before j hj), split, below, above, ?_⟩
      replace row := row.trans ((if_neg (counting st)).trans (if_neg (Nat.not_le.mpr room)))
      rw [fresh, bytesOf_one, show idAfter (candidate k) = candidate (k + 1) from idAfter_candidate _ k,
        show u.compareList x = s.compareList x from rfl, joined] at row
      exact (done row :)
  · intro s p seq id h lawful u
    refine ⟨fun x low high e split same mine => ?_, fun none => ?_⟩
    · have part : withdrawCompareRequest p id u = (u.setCompareList x (low ++ high), .only .done) := by
        unfold withdrawCompareRequest
        rw [if_pos ((u.ownsEntry_iff p _).mpr ⟨x, e, show e ∈ s.compareList x by rw [split]; simp, same, mine⟩),
          State.removeEntries_one (s := u) ?_ split]
        · rw [decide_eq_true same, decide_eq_true mine]
          rfl
        · intro f hf
          rw [Bool.and_eq_true, decide_eq_true_eq] at hf
          exact hf.1.trans same.symm
        · exact lawful.pool.congr rfl rfl fun y f _ isOpen => (s.received_isOpen p _ seq _).trans isOpen
      exact (exec_offGens (c := .withdrawCompare p seq id) h rfl rfl nofun rfl part :)
    · have part : withdrawCompareRequest p id u = (u, .only .notFound) := by
        unfold withdrawCompareRequest
        refine if_neg fun owns => ?_
        obtain ⟨x, e, he, own⟩ := (u.ownsEntry_iff p _).mp owns
        exact none x e he own
      exact (exec_offGens (c := .withdrawCompare p seq id) h rfl rfl nofun rfl part :)

end Sys2Proof.Machine
end

section
/-! SUPPORT. A commit applied (R29, R30, R36, R42), in the terms that a request and a rollover share. -/

namespace Sys2Proof.Machine

variable {s t : State} {p : PortId} {seq : Byte} {c : Instr} {r : Request}

/-! ### A notice told: where it stands, and what becomes of it in a full queue (R166) -/

theorem Port.tell_lost (q : Port) (k : NoticeKind) (now : Word) (o : q.session.isOpen = true)
    (full : ¬q.notices.items.length < 24) : (q.tell k now).notices.lost = min (q.notices.lost + 1) 65535 := by
  unfold Port.tell
  rw [if_pos o, Port.offer_lost]
  dsimp only
  unfold NoticeQueue.post
  rw [if_neg (show ¬q.notices.items.length < Config.noticePlaces from full)]
  rfl

/-! ### The slots and the notice of a commit -/

theorem SlotStatus.changes_eq (st : SlotStatus) : st.changes = decide (st = .staged ∨ st = .liveEdited ∨ st = .retiring) := by
  cases st <;> rfl

/-- The number of slots that a commit of a session on an axis changes (R36). -/
def State.commitCount (s : State) (p : PortId) (x : AxisId) : Nat :=
  (s.slots.toList.filter fun w => s.ownWindow p x w && w.status.changes).length

theorem State.applyCommit_slot (s : State) (p : PortId) (x : AxisId) (timing : CommitTiming) (i : Fin 48) :
    (s.applyCommit p x timing).slots[i] =
      if s.ownWindow p x s.slots[i] = true then s.slots[i].committed.evaluated (s.axis x) else s.slots[i] := by
  rw [State.applyCommit_eq, (State.post_reach _ p _).slots]
  simp only [State.recomposeAll_slots]
  exact s.commit_evaluated_slot p x i

theorem State.applyCommit_port (s : State) (p q : PortId) (x : AxisId) (timing : CommitTiming) :
    (s.applyCommit p x timing).port q =
      if q = p then (s.port p).tell (.commitDone x timing (s.commitCount p x) (s.axis x).extended) s.now else s.port q := by
  let u := ((s.commitSlots p x).evaluateSlots x fun w => decide (w.status = .live) && s.holds p (.output w.output)).recomposeAll
    ((s.slots.toList.filter (s.ownWindow p x)).map Slot.output)
  have levels := State.recomposeAll_reach ((s.commitSlots p x).evaluateSlots x fun w =>
    decide (w.status = .live) && s.holds p (.output w.output)) ((s.slots.toList.filter (s.ownWindow p x)).map Slot.output)
  have ports (q : PortId) : u.port q = s.port q := State.port_congr levels.ports q
  have now : u.now = s.now := levels.now
  rw [State.applyCommit_eq]
  split
  · subst q
    rw [State.post_port_same]
    exact congr (congrFun (congrArg Port.tell (ports p)) _) now
  · rename_i other
    rw [State.post_port_other _ _ _ _ other]
    exact ports q

theorem State.applyCommit_commits (s : State) (p : PortId) (x : AxisId) (timing : CommitTiming) :
    (s.applyCommit p x timing).commits = s.commits := by
  rw [State.applyCommit_eq, (State.post_reach _ p _).commits, (State.recomposeAll_reach _ _).commits]
  rfl

theorem Slot.committed_retiring {w : Slot} (h : w.status = .retiring) (a : Axis) : w.committed.evaluated a = .free := by
  unfold Slot.committed
  rw [h]
  rfl

theorem Slot.committed_live {w : Slot} {copy : WindowCopy} (h : w.status = .live) (active : w.active = some copy) (a : Axis) :
    w.committed.evaluated a = { w with inside := copy.insideOn a } := by
  have same : w.committed = w := by
    unfold Slot.committed
    rw [h]
  rw [same]
  exact Slot.evaluated_counting (by rw [h]; rfl) active a

theorem Slot.committed_staged {w : Slot} {copy : WindowCopy} (h : w.status = .staged ∨ w.status = .liveEdited)
    (staged : w.staged = some copy) (a : Axis) :
    w.committed.evaluated a =
      { w with status := .live, active := some copy, staged := none, inside := copy.insideOn a } := by
  have same : w.committed = { w with status := .live, active := some copy, staged := none } := by
    unfold Slot.committed
    rcases h with h | h <;> rw [h, staged]
  rw [same]
  exact Slot.evaluated_counting rfl rfl a

/-- Settles O51: the commit applied, with its notice told to the caller. -/
theorem commitNowAppliesOwnWindows : Obligations.CommitNowAppliesOwnWindows := by
  intro s p seq axis x h lawful hx free own changed
  let u := s.received p seq (.commitWindows axis 0)
  have row := commitWindowsRequest_eq (s := u) (p := p) (timing := 0) hx rfl
  have part := row.trans ((if_neg nofun).trans ((if_neg (Bool.eq_false_iff.mp free)).trans (if_pos rfl)))
  have done := exec_offGens (c := .commitWindowsNow p seq axis) h rfl rfl nofun rfl part
  have reach := u.applyCommit_reach p x .now
  have slot := u.applyCommit_slot p x .now
  have count : u.commitCount p x = changed := by
    unfold State.commitCount
    simp only [SlotStatus.changes_eq]
    rfl
  have told : (u.applyCommit p x .now).port p = (u.port p).tell (.commitDone x .now changed (s.axis x).extended) s.now := by
    rw [State.applyCommit_port, if_pos rfl, count]
    rfl
  have notices : (u.port p).notices = (s.port p).notices := by
    rw [show u.port p = _ from State.modPort_port_same s p _]
  refine ⟨_, done, fun i no => ?_, fun i yes => ⟨fun e => ?_, fun w e active => ?_, fun w e staged => ?_⟩, ?_,
    State.answered_cache _ _ _ _, reach.axes, reach.gens, reach.claims, ?_, reach.compares⟩
  · exact (slot i).trans (if_neg (Bool.eq_false_iff.mp no))
  · have freed := (slot i).trans ((if_pos yes).trans (Slot.committed_retiring e _))
    exact ⟨congrArg Slot.status freed, congrArg Slot.inside freed⟩
  · exact (slot i).trans ((if_pos yes).trans (Slot.committed_live e active _))
  · exact (slot i).trans ((if_pos yes).trans (Slot.committed_staged e staged _))
  · have isOpen : (u.port p).session.isOpen = true := (s.received_isOpen p p seq _).trans h.session_open
    simp only [State.answered_notices]
    rw [told, ← notices]
    split <;> rename_i room
    · exact Port.tell_holds _ _ _ isOpen room
    · exact Port.tell_lost _ _ _ isOpen room
  · exact u.applyCommit_commits p x .now

end Sys2Proof.Machine
end

section
/-! SUPPORT. The read requests (R19, R45, R64, R80, R112, R131, R145): the records that they return, byte by byte (Table 12.6). -/

namespace Sys2Proof.Machine

variable {s t : State} {p : PortId} {seq : Byte} {c : Instr} {r : Request}

/-! ### Numbers as bytes (R186) -/

theorem bytesOf_length (n : Nat) (i : Int) : (bytesOf n i).length = n := by
  induction n with
  | zero => rfl
  | succ n ih => exact congrArg (· + 1) ih

theorem bytesOf_value (n : Nat) (i acc : Int) :
    (bytesOf n i).foldl (fun (acc : Int) b => acc * 256 + b.toNat) acc = acc * 256 ^ n + i % 256 ^ n := by
  induction n generalizing acc with
  | zero => simp [bytesOf]
  | succ n ih =>
    have pos : (0 : Int) < 256 ^ n := by positivity
    have byte : ((BitVec.ofInt 8 (Int.fdiv i (256 ^ n))).toNat : Int) = i / 256 ^ n % 256 := by
      rw [Int.fdiv_eq_ediv_of_nonneg _ pos.le, BitVec.toNat_ofInt]
      exact Int.toNat_of_nonneg (Int.emod_nonneg _ (by decide))
    have digit : i % 256 ^ (n + 1) = i % 256 ^ n + 256 ^ n * (i / 256 ^ n % 256) := by
      rw [pow_succ, Int.emod_def, Int.emod_def i, Int.emod_def (i / 256 ^ n), ← Int.ediv_ediv_of_nonneg pos.le]
      ring
    change (bytesOf n i).foldl _ _ = _
    rw [ih, digit]
    dsimp only
    rw [byte]
    ring

theorem exec_reads (h : s.ServesSession p seq) (hc : c.asRequest = some (p, seq, r)) (k : listed r = true)
    (close : r ≠ .closeSession) (off : actsOnGens r = false) {sent results : List Byte}
    (part : (s.received p seq r).perform p r = (s.received p seq r, .done sent)) (same : sent = results) :
    exec c s = .next ((s.received p seq r).answered p seq (r.code :: 0x00 :: results)) := by
  subst same
  have done := exec_offGens h hc k close off part
  exact done

theorem flag_byte (b : Bool) : flagBytes b = [BitVec.ofNat 8 (if b then 1 else 0)] := by cases b <;> rfl

theorem State.received_waiterStation (s : State) (p : PortId) (seq : Byte) (r : Request) (c : Claim) (n : Nat) :
    (s.received p seq r).waiterStation c n = s.waiterStation c n := by
  unfold State.waiterStation
  cases c.waiters[n]? with
  | none => rfl
  | some q => exact s.received_station p q seq r

theorem State.received_claimBytes (s : State) (p : PortId) (seq : Byte) (r : Request) (q : Resource) :
    (s.received p seq r).claimBytes q = s.claimBytes q := by
  unfold State.claimBytes
  dsimp only
  rw [State.received_holderStation, State.received_waiterStation, State.received_waiterStation]
  rfl

theorem Level.code_toNat (l : Level) : l.code.toNat = if l = .high then 1 else 0 := by cases l <;> rfl

theorem Sense.code_eq (d : Sense) : d.code = BitVec.ofNat 8 (if d = .inverted then 1 else 0) := by cases d <;> rfl

theorem StepDir.code_eq (d : StepDir) : d.code = BitVec.ofNat 8 (if d = .down then 1 else 0) := by cases d <;> rfl

theorem AxisMode.code_eq (m : AxisMode) : m.code = BitVec.ofNat 8 (if m = .rotary then 1 else 0) := by cases m <;> rfl

theorem AxisDir.code_eq (d : AxisDir) : d.code = BitVec.ofNat 8 (if d = .reverse then 1 else 0) := by cases d <;> rfl

theorem AxisStatus.code_eq (st : AxisStatus) : st.code = BitVec.ofNat 8 (if st = .overrange then 1 else 0) := by cases st <;> rfl

theorem OutputMode.code_toNat (m : OutputMode) : m.code.toNat = if m = .cam then 1 else 0 := by cases m <;> rfl

theorem Bool.toNat_eq (b : Bool) : b.toNat = if b then 1 else 0 := by cases b <;> rfl

theorem optBytes_eq (n : Nat) (o : Option Nat) : optBytes n o = bytesOf n (o.getD 0 : Nat) := by cases o <;> rfl

theorem issuedBytes_eq {n : Nat} (h : n < 4294967296) : issuedBytes n = bytesOf 4 n := by
  unfold issuedBytes
  rw [if_pos h]

/-- The number of a line, an axis or a marker axis in a move record (Tables 12.3 and 12.4). -/
theorem RefLine.code_eq (l : RefLine) :
    l.code = BitVec.ofNat 8 (match l with | .ref0 => 0 | .ref1 => 1 | .ref2 => 2 | .ref3 => 3) := by cases l <;> rfl

theorem AxisId.code_eq (x : AxisId) : x.code = BitVec.ofNat 8 (match x with | .a => 0x18 | .b => 0x19 | .v => 0x1A) := by
  cases x <;> rfl

theorem markerByte_eq (e : Option Encoder) :
    markerByte e = BitVec.ofNat 8 (match e with | some .ea => 0x18 | some .eb => 0x19 | none => 0xFF) := by
  rcases e with - | e
  · rfl
  · cases e <;> rfl

theorem MoveKind.code_eq (k : MoveKind) :
    k.code = BitVec.ofNat 8 (match k with
      | .position _ _ _ _ _ _ => 0 | .velocity _ _ _ _ _ _ => 1 | .follow _ _ _ _ => 2 | .dwell _ => 3 | .home _ => 4) := by
  cases k <;> rfl

theorem TargetMode.code_eq (m : TargetMode) : m.code = BitVec.ofNat 8 (if m = .relative then 1 else 0) := by cases m <;> rfl

theorem StartCondition.code_eq (c : StartCondition) : c.code = BitVec.ofNat 8 (if c = .onTrigger then 1 else 0) := by
  cases c <;> rfl

theorem GenState.code_eq (st : GenState) :
    st.code = BitVec.ofNat 8 (match st with
      | .idle => 0 | .armed => 1 | .running => 2 | .following => 3
      | .dwelling => 4 | .searching => 5 | .stopping => 6 | .halted => 7) := by
  cases st <;> rfl

theorem Phase.code_eq (ph : Option Phase) :
    (ph.map Phase.code).getD 0 = BitVec.ofNat 8 (match ph with | some .cruise => 1 | some .rampDown => 2 | _ => 0) := by
  rcases ph with - | ph
  · rfl
  · cases ph <;> rfl

theorem StopRate.code_eq (rate : Option StopRate) :
    (rate.map StopRate.code).getD 0 = BitVec.ofNat 8 (match rate with | none => 0 | some .stop => 1 | some .halt => 2) := by
  rcases rate with - | rate
  · rfl
  · cases rate <;> rfl

theorem SearchPhase.code_eq (ph : SearchPhase) :
    ph.code = BitVec.ofNat 8 (match ph with | .clearing => 0 | .seek => 1 | .creep => 2 | .final => 3) := by
  cases ph <;> rfl

theorem NotFound.code_eq (mark : Option NotFound) :
    (mark.map NotFound.code).getD 0 = BitVec.ofNat 8 (match mark with | none => 0 | some .limit => 1 | some .overrun => 2) := by
  rcases mark with - | mark
  · rfl
  · cases mark <;> rfl

theorem SlotStatus.code_eq (st : SlotStatus) :
    st.code = BitVec.ofNat 8 (match st with | .free => 0 | .staged => 1 | .live => 2 | .liveEdited => 3 | .retiring => 4) := by
  cases st <;> rfl

theorem Qualifier.code_eq (q : Qualifier) :
    q.code = BitVec.ofNat 8 (match q with | .forward => 0 | .reverse => 1 | .either => 2) := by cases q <;> rfl

theorem Crossing.code_eq (c : Crossing) :
    c.code.toNat = match c with | .up => 0 | .down => 1 | .either => 2 := by cases c <;> rfl

theorem outputCode_toNat (o : OutputId) : (Resource.output o).code.toNat = o.val :=
  (BitVec.toNat_ofNat _ _).trans (Nat.mod_eq_of_lt (o.isLt.trans (by decide)))

/-- The number, the argument and the pulse width of an action, as Table 12.6 lists them. -/
def CompareAction.fields : CompareAction → Nat × Nat × Nat
  | .notify => (0, 0, 0)
  | .outHigh o => (1, o.val, 0)
  | .outLow o => (2, o.val, 0)
  | .outPulse o width => (3, o.val, width)
  | .outClear o => (4, o.val, 0)
  | .triggerGen g => (5, (match g with | .g1 => 0x10 | .g2 => 0x11 | .gv => 0x12), 0)
  | .capture => (6, 0, 0)

theorem CompareAction.fields_eq (a : CompareAction) :
    a.code.toNat = a.fields.1 ∧ a.argumentCode = a.fields.2.1 ∧ a.width = a.fields.2.2 := by
  cases a with
  | notify => exact ⟨rfl, rfl, rfl⟩
  | outHigh o => exact ⟨rfl, outputCode_toNat o, rfl⟩
  | outLow o => exact ⟨rfl, outputCode_toNat o, rfl⟩
  | outPulse o w => exact ⟨rfl, outputCode_toNat o, rfl⟩
  | outClear o => exact ⟨rfl, outputCode_toNat o, rfl⟩
  | triggerGen g => cases g <;> exact ⟨rfl, rfl, rfl⟩
  | capture => exact ⟨rfl, rfl, rfl⟩

theorem State.received_entryBytes (s : State) (p : PortId) (seq : Byte) (r : Request) (e : CompareEntry) :
    (s.received p seq r).entryBytes e = s.entryBytes e := by
  unfold State.entryBytes
  rw [show (s.received p seq r).station e.owner = s.station e.owner from s.received_station p _ seq r]

theorem readWindowRequest_used {slot : Byte} {i : Fin 48} (hi : slot.toNat = i.val) (used : s.slots[i].status ≠ .free) :
    readWindowRequest slot s =
      (s, .done ([s.slots[i].status.code, s.slots[i].axis.code, BitVec.ofNat 8 s.slots[i].output.val] ++
        bytesOf 1 (s.holderStation (.output s.slots[i].output)) ++ [s.slotFlags s.slots[i]] ++ windowBytes s.slots[i].active ++
          windowBytes s.slots[i].staged)) := by
  unfold readWindowRequest
  rw [slotOf_eq hi]
  exact if_neg used

theorem readWindowRequest_free {slot : Byte} {i : Fin 48} (hi : slot.toNat = i.val) (free : s.slots[i].status = .free) :
    readWindowRequest slot s = (s, .done (List.replicate 27 0)) := by
  unfold readWindowRequest
  rw [slotOf_eq hi]
  exact if_pos free

/-- A channel's record, number by number. -/
theorem State.channelBytes_eq (s : State) (o : OutputId) :
    s.channelBytes o =
      [BitVec.ofNat 8
          (s.holderStation (.output o) * 16 + (match (s.channel o).overlay with | .none => 0 | .high => 1 | .low => 2) * 4 +
            (if (s.channel o).mode = .cam then 1 else 0) * 2 + if (s.channel o).manual = .high then 1 else 0)] ++
        [BitVec.ofNat 8
          ((if (s.channel o).fallback = .high then 1 else 0) * 8 + (if (s.channel o).cam then 1 else 0) * 4 +
            (if (s.channel o).line = .high then 1 else 0) * 2 + if (s.channel o).pulse.isSome then 1 else 0)] ++
        bytesOf 2 (match (s.channel o).pulse with | none => 0 | some ms => max ms 1) := by
  have overlay : (s.channel o).overlay.code.toNat = match (s.channel o).overlay with | .none => 0 | .high => 1 | .low => 2 := by
    cases (s.channel o).overlay <;> rfl
  have pulse : optBytes 2 ((s.channel o).pulse.map fun n => max n 1) =
      bytesOf 2 (match (s.channel o).pulse with | none => 0 | some ms => max ms 1) := by
    cases (s.channel o).pulse with
    | none => rfl
    | some ms => exact congrArg (bytesOf 2) (Nat.cast_max ms 1)
  unfold State.channelBytes
  dsimp only
  rw [overlay, pulse, OutputMode.code_toNat, Level.code_toNat, Level.code_toNat, Level.code_toNat, Bool.toNat_eq, Bool.toNat_eq]
  rfl

theorem State.received_channelBytes (s : State) (p : PortId) (seq : Byte) (r : Request) (o : OutputId) :
    (s.received p seq r).channelBytes o = s.channelBytes o := by
  unfold State.channelBytes
  rw [State.received_holderStation]
  rfl

/-- Read Outputs with neither an event next in the queue nor a hand-over under way: all is of this moment (R80). -/
theorem readOutputsRequest_still (event : s.nextEvent = none) (handing : s.handing = []) :
    readOutputsRequest s = (s, .done (s.outputsBytes s 0)) := by
  unfold readOutputsRequest
  rw [event, handing]

/-- Read Outputs otherwise: a free value says what is read before and what after (log 19). -/
theorem readOutputsRequest_free {later : State}
    (h : (∃ event, s.nextEvent = some event ∧ later = event { s with choices := s.choices + 1 }) ∨
      s.nextEvent = none ∧ s.handing ≠ [] ∧ s = later) :
    readOutputsRequest s =
      ({ s with choices := s.choices + 1 }, .done (s.outputsBytes later (Config.freeOrder s.choices))) := by
  unfold readOutputsRequest
  rcases h with ⟨event, next, rfl⟩ | ⟨next, handing, rfl⟩
  · rw [next]
  · rw [next]
    cases e : s.handing with
    | nil => exact absurd e handing
    | cons r rest => rfl

/-- The records that Read Outputs returns, all of one moment. -/
theorem State.outputsBytes_still (s : State) :
    s.outputsBytes s 0 = flagBytes (s.channel 0).halt ++ (List.finRange 16).flatMap s.channelBytes := by
  unfold State.outputsBytes
  simp only [Nat.zero_testBit, Bool.false_eq_true, if_false]
  rfl

/-- Settles O49: each read answers the record as the layouts give it, number by number. -/
theorem readRequestsChangeNothing : Obligations.ReadRequestsChangeNothing := by
  refine ⟨fun n i => ⟨bytesOf_length n i, (bytesOf_value n i 0).trans (by rw [zero_mul, zero_add])⟩, ?_⟩
  intro s p seq id h reads one bit level sense dir axisId genId
  refine ⟨?_, ?_, ?_, ?_, ?_, ?_, ?_⟩
  · intro r hr; cases hr
    have done := exec_reads (c := .readHalt p seq) h rfl rfl nofun rfl rfl
      (show [s.halt.code] = one (match s.halt with | .clear => 0 | .active => 1 | .latched => 2) by cases s.halt <;> rfl)
    exact done
  · intro rec3 r hr; cases hr
    have one_record (q : Resource) : (s.received p seq .readClaims).claimBytes q = rec3 q := by
      rw [State.received_claimBytes]
      have state : (s.claim q).state.code.toNat = match (s.claim q).state with | .free => 0 | .held => 1 | .releasing => 2 := by
        cases (s.claim q).state <;> rfl
      unfold State.claimBytes
      dsimp only
      rw [state]
      rfl
    have done := exec_reads (c := .readClaims p seq) h rfl rfl nofun rfl rfl (congrArg allResources.flatMap (funext one_record))
    have parts : allResources.flatMap rec3 =
        (List.finRange 16).flatMap (fun o => rec3 (.output o)) ++ [GenId.g1, .g2, .gv].flatMap (fun g => rec3 (.generator g)) ++
         [AxisId.a, .b, .v].flatMap fun x => rec3 (.axis x) := by
      unfold allResources
      rw [List.flatMap_append, List.flatMap_append, List.flatMap_map, List.flatMap_map, List.flatMap_map]
      rfl
    rw [parts] at done
    exact done
  · intro rec4 inForce isEvent
    have record (u : State) (o : OutputId) : u.channelBytes o = rec4 u o := u.channelBytes_eq o
    have event (c : Instr) : isEvent c = (fieldEvent c).isSome := by cases c <;> rfl
    have none_next (r : Request) (quiet : s.pending.head?.any isEvent = false) : (s.received p seq r).nextEvent = none := by
      change s.pending.head?.bind fieldEvent = _
      cases e : s.pending.head? with
      | none => rfl
      | some c =>
        rw [e, Option.any_some, event] at quiet
        exact Option.not_isSome_iff_eq_none.mp (Bool.eq_false_iff.mp quiet)
    refine ⟨fun b quiet handing force r hr => ?_, fun t r hr h' => ?_⟩
    · cases hr
      have done := exec_reads (c := .readOutputs p seq) h rfl rfl nofun rfl
        (readOutputsRequest_still (s := s.received p seq .readOutputs) (none_next _ quiet) handing) (State.outputsBytes_still _)
      rw [flag_byte, funext fun o => (State.received_channelBytes s p seq .readOutputs o).trans (record s o),
        show ((s.received p seq .readOutputs).channel 0).halt = b from force 0] at done
      exact done
    · cases hr
      let u := s.received p seq .readOutputs
      obtain ⟨later, taken, same⟩ : ∃ later : State,
          ((∃ e, u.nextEvent = some e ∧ later = e { u with choices := u.choices + 1 }) ∨
            u.nextEvent = none ∧ u.handing ≠ [] ∧ u = later) ∧
          ∀ o, later.channelBytes o = rec4 t o ∧ (later.channel o).halt = (t.channel o).halt := by
        rcases h' with ⟨c, rest, pending, isc, run⟩ | ⟨quiet, handing, rfl⟩
        · rw [event] at isc
          obtain ⟨e, he⟩ := Option.isSome_iff_exists.mp isc
          have next : u.nextEvent = some e := by
            change s.pending.head?.bind fieldEvent = _
            rw [pending]
            exact he
          rw [Instr.exec_fieldEvent he] at run
          cases run
          exact ⟨_, .inl ⟨e, next, rfl⟩, fun o => ⟨record _ o, rfl⟩⟩
        · exact ⟨u, .inr ⟨none_next _ quiet, handing, rfl⟩, fun o =>
            ⟨(State.received_channelBytes t p seq .readOutputs o).trans (record t o), rfl⟩⟩
      let mask := Config.freeOrder s.choices
      refine ⟨Fin.ofNat 16 (mask / 131072), mask.testBit 16, fun o => mask.testBit o.val, ?_⟩
      have done := exec_offGens (c := .readOutputs p seq) h rfl rfl nofun rfl (readOutputsRequest_free taken)
      have bytes : u.outputsBytes later mask =
          inForce (if mask.testBit 16 then t else s) (Fin.ofNat 16 (mask / 131072)) ++
            (List.finRange 16).flatMap fun o => rec4 (if mask.testBit o.val then t else s) o := by
        unfold State.outputsBytes
        congr 1
        · rw [flag_byte]
          cases mask.testBit 16 with
          | true => exact congrArg (fun b => one (bit b)) (same _).2
          | false => rfl
        · congr 1
          funext o
          cases mask.testBit o.val with
          | true => exact (same o).1
          | false => exact (State.received_channelBytes s p seq .readOutputs o).trans (record s o)
      rw [← bytes]
      exact done
  · intro x hx a extended r hr; cases hr
    have part : readAxisRequest id (s.received p seq (.readAxis id)) = (s.received p seq (.readAxis id), .done a.bytes) := by
      unfold readAxisRequest
      rw [hx]
      rfl
    have ext : a.extended = extended := by
      unfold Axis.extended Axis.extendedOf
      change _ = (match a.mode with | .linear => a.position | .rotary => a.turn * a.cycle + a.position)
      cases a.mode <;> rfl
    have done := exec_reads (c := .readAxis p seq id) h rfl rfl nofun rfl part rfl
    unfold Axis.bytes at done
    rw [AxisMode.code_eq, Sense.code_eq, AxisDir.code_eq, AxisStatus.code_eq, ext] at done
    simp only [List.append_assoc] at done ⊢
    exact done
  · intro g hg issued n state phase stop profile record search r hr; cases hr
    have part : readGeneratorRequest id (s.received p seq (.readGenerator id)) = (s.received p seq (.readGenerator id), .done n.bytes) := by
      unfold readGeneratorRequest
      rw [hg]
      rfl
    have fields (r : MoveRecord) : moveBytes (some r) = record r := by
      obtain ⟨tag, cond, kind⟩ := r
      unfold moveBytes
      dsimp only
      rw [MoveKind.code_eq, StartCondition.code_eq]
      cases kind with
      | position m target v peak accel decel =>
        simp only [MoveKind.bytes, TargetMode.code_eq]
        rfl
      | velocity d v peak accel decel limit =>
        simp only [MoveKind.bytes, StepDir.code_eq, optBytes_eq]
        rfl
      | follow source num den limit =>
        simp only [MoveKind.bytes, AxisId.code_eq, optBytes_eq]
        rfl
      | dwell ms => rfl
      | home f =>
        simp only [MoveKind.bytes, StepDir.code_eq, RefLine.code_eq, markerByte_eq]
        rfl
    have searched : searchBytes (n.current.bind CurrentMove.search) = search := by
      unfold searchBytes
      cases e : n.current.bind CurrentMove.search with
      | none =>
        change _ = (match n.current.bind CurrentMove.search with | none => _ | some r => _)
        rw [e]
      | some r =>
        change _ = (match n.current.bind CurrentMove.search with | none => _ | some r => _)
        rw [e]
        dsimp only
        rw [SearchPhase.code_eq, StepDir.code_eq, NotFound.code_eq, flag_byte]
        rfl
    have done := exec_reads (c := .readGenerator p seq id) h rfl rfl nofun rfl part rfl
    unfold Generator.bytes at done
    rw [Sense.code_eq, GenState.code_eq, Phase.code_eq, StopRate.code_eq, StepDir.code_eq, searched] at done
    simp only [Bool.toNat_eq] at done
    cases e : n.current with
    | none =>
      rw [e] at done
      simp only [List.append_assoc] at done ⊢
      exact done
    | some m =>
      rw [e, show moveBytes ((some m).map CurrentMove.record) = record m.record from fields _,
        show issuedBytes (((some m).map CurrentMove.issued).getD 0) = bytesOf 4 m.issued from issuedBytes_eq (issued m e)] at done
      simp only [List.append_assoc] at done ⊢
      exact done
  · intro i hi w copy commit r hr; cases hr
    by_cases free : w.status = .free
    · have done := exec_reads (c := .readWindow p seq id) h rfl rfl nofun rfl
        (readWindowRequest_free (s := s.received p seq (.readWindow id)) hi free) rfl
      rw [if_pos free]
      exact done
    · have copies (o : Option WindowCopy) : windowBytes o = copy o := by
        cases o with
        | none => rfl
        | some k => simp only [windowBytes, Qualifier.code_eq]; rfl
      have flags : (s.received p seq (.readWindow id)).slotFlags w =
          BitVec.ofNat 8 (bit w.active.isSome * 16 + bit w.staged.isSome * 8 + (if w.status = .retiring then 1 else 0) * 4 +
            bit w.inside * 2 + bit commit) := by
        unfold State.slotFlags
        simp only [Bool.toNat_eq, decide_eq_true_eq]
        rfl
      have done := exec_reads (c := .readWindow p seq id) h rfl rfl nofun rfl
        (readWindowRequest_used (s := s.received p seq (.readWindow id)) hi free) rfl
      rw [State.received_holderStation, show (s.received p seq (.readWindow id)).slots[i] = w from rfl, flags, copies, copies,
        SlotStatus.code_eq, AxisId.code_eq, bytesOf_one] at done
      rw [if_neg free]
      exact done
  · intro x index hx low shown rec18 r hr; cases hr
    have rows (e : CompareEntry) : (s.received p seq (.readCompares id index)).entryBytes e = rec18 e := by
      rw [State.received_entryBytes]
      unfold State.entryBytes
      obtain ⟨code, argument, width⟩ := e.action.fields_eq
      rw [Crossing.code_eq, code, argument, width]
      obtain ⟨cid, owner, tag, target, crossing, action, rep⟩ := e
      cases rep <;> simp only [List.append_assoc] <;> rfl
    have part : readComparesRequest id index (s.received p seq (.readCompares id index)) =
        (s.received p seq (.readCompares id index), .done (bytesOf 1 (s.compareList x).length ++ bytesOf 1 shown.length ++
          shown.flatMap rec18)) := by
      unfold readComparesRequest
      rw [hx, ← funext rows]
      exact if_neg (Nat.not_lt.mpr low)
    have done := exec_reads (c := .readCompares p seq id index) h rfl rfl nofun rfl part rfl
    exact done

end Sys2Proof.Machine
end

section
/-! SUPPORT. The acknowledgement of notices (R165, R169): the numbers of a queue are all different, so that one names its notice. -/

namespace Sys2Proof.Machine

variable {s t : State} {p : PortId} {seq : Byte} {c : Instr} {r : Request}

/-! ### Numbers name notices (R165) -/

theorem numberAfter_iterate {x j : Nat} (hx : x ≤ 65535) (hj : j ≤ 65535) :
    numberAfter^[j] x = if x + j ≤ 65535 then x + j else x + j - 65535 := by
  induction j with
  | zero => simp [hx]
  | succ j ih =>
    rw [Function.iterate_succ_apply', ih (by omega)]
    unfold numberAfter
    split <;> split <;> split <;> omega

/-- No number comes again within 24 (R165, R166). -/
theorem numberAfter_iterate_ne {x j : Nat} (low : 1 ≤ j) (high : j ≤ 24) : numberAfter^[j] x ≠ x := by
  by_cases hx : x ≤ 65535
  · rw [numberAfter_iterate hx (by omega)]
    split <;> omega
  · obtain ⟨j, rfl⟩ : ∃ k, j = k + 1 := ⟨j - 1, by omega⟩
    have first : numberAfter x = 1 := if_pos (by omega)
    rw [Function.iterate_succ_apply, first, numberAfter_iterate (by omega) (by omega)]
    split <;> omega

theorem numberedBelow_between {next : Nat} {a n : Notice} {mid rest : List Notice}
    (h : numberedBelow next (a :: mid ++ n :: rest)) : n.number = numberAfter^[mid.length + 1] a.number := by
  induction mid generalizing a with
  | nil => exact h.1.symm
  | cons b mid ih =>
    rw [List.length_cons, Function.iterate_succ_apply, h.1]
    exact ih h.2

theorem numberedBelow_right {next : Nat} {l m : List Notice} (h : numberedBelow next (l ++ m)) : numberedBelow next m := by
  induction l with
  | nil => exact h
  | cons a l ih => exact ih (numberedBelow_tail h)

/-- The notices before a notice of a lawful queue carry other numbers. -/
theorem NoticeQueue.Lawful.number_ne {q : NoticeQueue} (h : q.Lawful) {gone kept : List Notice} {n : Notice}
    (split : q.items = gone ++ n :: kept) : ∀ a ∈ gone, a.number ≠ n.number := by
  intro a ha
  obtain ⟨before, mid, rfl⟩ := List.append_of_mem ha
  have places := h.places
  have numbered := h.numbered
  rw [split] at places numbered
  simp only [List.append_assoc, List.length_append, List.length_cons] at places
  rw [List.append_assoc] at numbered
  rw [numberedBelow_between (numberedBelow_right numbered)]
  exact (numberAfter_iterate_ne (by omega) (by omega)).symm

theorem NoticeQueue.Lawful.find {q : NoticeQueue} (h : q.Lawful) {gone kept : List Notice} {n : Notice}
    (split : q.items = gone ++ n :: kept) :
    (q.items.findIdx? fun m => decide (m.number = n.number)) = some gone.length := by
  rw [split, List.findIdx?_append, List.findIdx?_eq_none_iff.mpr fun a ha => decide_eq_false (h.number_ne split a ha),
    List.findIdx?_cons, decide_eq_true rfl]
  simp

/-! ### The resend timer of what is kept (R171) -/

theorem findSome_sentAt {l : List Notice} (first : l.Pairwise fun n m => m.sentAt.isSome = true → n.sentAt.isSome = true) :
    (l.findSome? fun n => n.sentAt) = l.head?.bind Notice.sentAt := by
  cases l with
  | nil => rfl
  | cons n l =>
    cases e : n.sentAt with
    | some at_ => simp [e]
    | none =>
      have unsent : ∀ m ∈ l, m.sentAt = none := fun m hm => by
        have k := (List.pairwise_cons.mp first).1 m hm
        rw [e] at k
        exact Option.not_isSome_iff_eq_none.mp fun c => Bool.false_ne_true (k c)
      rw [List.findSome?_cons, e]
      exact (List.findSome?_eq_none_iff.mpr unsent).trans e.symm

theorem NoticeQueue.Lawful.remove_eq {q : NoticeQueue} (h : q.Lawful) {gone kept : List Notice} {n : Notice}
    (split : q.items = gone ++ n :: kept) :
    q.remove (gone.length + 1) =
      { q with items := kept, resendAt := (kept.head?.bind Notice.sentAt).map fun at_ => at_ + 250 } := by
  have dropped : q.items.drop (gone.length + 1) = kept := by
    rw [split, List.drop_append]
    simp
  have first := h.sent_first
  rw [split] at first
  have timer := findSome_sentAt (List.pairwise_cons.mp (List.pairwise_append.mp first).2.1).2
  unfold NoticeQueue.remove NoticeQueue.followResend NoticeQueue.resendDue
  rw [dropped]
  dsimp only
  rw [timer]
  rfl

/-- A transmitter that is not idle takes no notice (R184). -/
theorem Port.offer_busy {q : Port} (busy : q.tx.isSome = true) (now : Word) : q.offer now = q := by
  unfold Port.offer
  refine if_neg fun may => ?_
  rw [((Port.mayStartNotice_iff q).mp may).2.2.2.1] at busy
  cases busy

theorem State.modPort_congr (s : State) (p : PortId) {f g : Port → Port} (e : f (s.port p) = g (s.port p)) :
    s.modPort p f = s.modPort p g := by
  unfold State.modPort
  exact congrArg (fun q => { s with ports := s.ports.set p q }) e

/-! ### Acknowledge Notices (R169, Table 10.2) -/

theorem State.received_notices (s : State) (p q : PortId) (seq : Byte) (r : Request) :
    ((s.received p seq r).port q).notices = (s.port q).notices := by
  unfold State.received
  rw [State.modPort_port]
  split
  · subst q; rfl
  · rfl

theorem acknowledgeNoticesRequest_found {number : Half} {i : Nat}
    (found : ((s.port p).notices.items.findIdx? fun n => decide (n.number = number.toNat)) = some i) :
    acknowledgeNoticesRequest p number s =
      if (((s.port p).notices.items[i]?).bind Notice.sentAt).isSome then
        ((s.modPort p fun t => { t with notices := t.notices.remove (i + 1) }).offer p,
          .done (bytesOf 1 (i + 1 : Nat) ++ bytesOf 1 ((s.port p).notices.items.length - (i + 1) : Nat)))
      else (s, .only .badValue) := by
  unfold acknowledgeNoticesRequest
  dsimp only
  rw [found]

theorem acknowledgeNoticesRequest_absent {number : Half}
    (absent : ((s.port p).notices.items.findIdx? fun n => decide (n.number = number.toNat)) = none) :
    acknowledgeNoticesRequest p number s =
      if number.toNat = 0 then (s, .only .badValue)
      else if (s.port p).notices.posted number.toNat then
        (s, .done (bytesOf 1 0 ++ bytesOf 1 (s.port p).notices.items.length))
      else (s, .only .badValue) := by
  unfold acknowledgeNoticesRequest
  dsimp only
  rw [absent]

/-- Settles O43: the notice of the number is found, or none carries it. -/
theorem acknowledgeRemovesSentNotices : Obligations.AcknowledgeRemovesSentNotices := by
  intro s p seq number h lawful busy q u count
  have notices : (u.port p).notices = q := State.received_notices s p p seq _
  have done {v : State} {reply : Reply} (part : acknowledgeNoticesRequest p number u = (v, reply)) :=
    exec_offGens (c := .acknowledgeNotices p seq number) h rfl rfl nofun rfl part
  refine ⟨fun gone kept n split same => ?_, fun absent => ?_⟩
  · have split' : q.items = gone ++ n :: kept := by rw [split, List.append_assoc]; rfl
    have found : ((u.port p).notices.items.findIdx? fun m => decide (m.number = number.toNat)) = some gone.length := by
      rw [notices, ← same]
      exact (lawful.notices p).find split'
    have row := acknowledgeNoticesRequest_found found
    have item : q.items[gone.length]? = some n := by rw [split']; simp
    rw [notices, item] at row
    refine ⟨fun sent => ?_, fun unsent => ?_⟩
    · have left : q.items.length - (gone.length + 1) = kept.length := by simp only [split', List.length_append, List.length_cons]; omega
      have dropped (t : Port) (ht : t = u.port p) : ({ t with notices := t.notices.remove (gone.length + 1) } : Port) =
          { t with notices := { t.notices with
              items := kept, resendAt := (kept.head?.bind Notice.sentAt).map fun at_ => at_ + 250 } } := by
        rw [ht, notices, (lawful.notices p).remove_eq split']
      have still : (u.modPort p fun t => { t with notices := t.notices.remove (gone.length + 1) }).offer p =
          u.modPort p fun t => { t with notices := { t.notices with
              items := kept, resendAt := (kept.head?.bind Notice.sentAt).map fun at_ => at_ + 250 } } := by
        unfold State.offer
        rw [State.modPort_modPort]
        refine State.modPort_congr u p ?_
        dsimp only
        rw [Port.offer_busy, dropped _ rfl]
        exact (congrArg Option.isSome (congrArg Port.tx (State.modPort_port_same s p _))).trans busy
      rw [left, still, bytesOf_one, bytesOf_one] at row
      exact (done (row.trans (if_pos sent)) :)
    · exact (done (row.trans (if_neg (by rw [show (some n).bind Notice.sentAt = none from unsent]; nofun))) :)
  · have none_found : ((u.port p).notices.items.findIdx? fun n => decide (n.number = number.toNat)) = none := by
      rw [notices]
      exact List.findIdx?_eq_none_iff.mpr fun n hn => decide_eq_false (absent n hn)
    have row := acknowledgeNoticesRequest_absent none_found
    rw [notices] at row
    have zero : number.toNat = 0 ↔ number = 0 := by
      rw [← BitVec.toNat_inj]
      rfl
    refine ⟨fun nz posted => ?_, fun bad => ?_⟩
    · have is_posted : q.posted number.toNat = true := by
        unfold NoticeQueue.posted
        simp only [Bool.or_eq_true, Bool.and_eq_true, decide_eq_true_eq]
        exact posted.imp_right fun below => ⟨Nat.pos_of_ne_zero fun e => nz (zero.mp e), below⟩
      rw [if_neg fun e => nz (zero.mp e), if_pos is_posted, bytesOf_one] at row
      exact (done row :)
    · rcases bad with z | ⟨wrapped, above⟩
      · exact (done (row.trans (if_pos (zero.mpr z))) :)
      · have unposted : ¬q.posted number.toNat = true := by
          unfold NoticeQueue.posted
          rw [wrapped, Bool.false_or, decide_eq_false (Nat.not_lt.mpr above), Bool.and_false]
          exact Bool.false_ne_true
        rw [if_neg unposted, ite_self] at row
        exact (done row :)

end Sys2Proof.Machine
end

section
/-! SUPPORT. What a cleanup makes of each part (R21, R44, R81, R111), and the notices of a release. -/

namespace Sys2Proof.Machine

variable {s t : State} {p : PortId} {seq : Byte} {c : Instr}

/-! ### A cleanup, part by part (Table 8.4) -/

theorem State.cleanup_ports (s : State) (r : Resource) : (s.cleanup r).ports = s.ports := by
  cases r with
  | output o => exact (s.eraseWindows_reach o).ports
  | generator g => rfl
  | axis x => rfl

theorem State.cleanup_commits (s : State) (r : Resource) : (s.cleanup r).commits = s.commits := by
  cases r with
  | output o => exact (s.eraseWindows_reach o).commits
  | generator g => rfl
  | axis x => rfl

theorem State.cleanup_compares (s : State) (r : Resource) : (s.cleanup r).compares = s.compares := by
  cases r with
  | output o => exact (s.eraseWindows_reach o).compares
  | generator g => rfl
  | axis x => rfl

theorem State.cleanup_slot (s : State) (r : Resource) (i : Fin 48) :
    (s.cleanup r).slots[i] = if r = .output s.slots[i].output then Slot.free else s.slots[i] := by
  cases r with
  | output o =>
    rw [State.cleanup_output_slots]
    by_cases e : s.slots[i].output = o
    · rw [if_pos e, if_pos (congrArg Resource.output e.symm)]
    · rw [if_neg e, if_neg fun c => e (Resource.output.inj c).symm]
  | generator g => rfl
  | axis x => rfl

theorem State.cleanup_gen (s : State) (r : Resource) (g : GenId) :
    (s.cleanup r).gen g = if r = .generator g then { s.gen g with pendingTrigger := false } else s.gen g := by
  cases r with
  | output o => exact (State.gen_congr (s.eraseWindows_reach o).gens g).trans (if_neg nofun).symm
  | generator h =>
    by_cases e : h = g
    · subst e
      rw [if_pos rfl]
      exact s.modGen_gen_same h _
    · rw [if_neg fun c => e (Resource.generator.inj c)]
      exact s.modGen_gen_other h g _ (Ne.symm e)
  | axis x => rfl

theorem State.cleanup_axis (s : State) (r : Resource) (x : AxisId) :
    (s.cleanup r).axis x = if r = .axis x then (s.axis x).cleanup else s.axis x := by
  cases r with
  | output o => exact (State.axis_congr (s.eraseWindows_reach o).axes x).trans (if_neg nofun).symm
  | generator h => rfl
  | axis y =>
    by_cases e : y = x
    · subst e
      rw [if_pos rfl]
      exact s.modAxis_axis_same y _
    · rw [if_neg fun c => e (Resource.axis.inj c)]
      exact s.modAxis_axis_other y x _ (Ne.symm e)

theorem State.cleanup_channel_other (s : State) {r : Resource} {o : OutputId} (other : r ≠ .output o) :
    (s.cleanup r).channel o = s.channel o := by
  cases r with
  | output q =>
    have d : o ≠ q := fun e => other (congrArg Resource.output e.symm)
    have still := State.recompose_channel { s with slots := mapVector (fun w => if w.output = q then Slot.free else w) s.slots } q o
    rw [if_neg fun e => d e.1] at still
    exact ((s.eraseWindows q).arrive_channel_other q o _ d).trans still
  | generator g => rfl
  | axis x => rfl

/-- A channel as a cleanup leaves it (R81): in MANUAL at its fallback level, with no overlay and no cam level. -/
def Channel.cleaned (c : Channel) : Channel :=
  { c with mode := .manual, manual := c.fallback, overlay := .none, pulse := none, cam := false, line := c.fallback }

theorem Channel.cleanup_cleaned (c : Channel) (noCam : c.cam = false) :
    ({ c.cleanup with line := c.cleanup.effective } : Channel) = c.cleaned := by
  have line : c.cleanup.effective = c.fallback := by
    unfold Channel.effective Channel.cleanup
    cases c.halt <;> rfl
  rw [line]
  unfold Channel.cleanup Channel.cleaned
  rw [← noCam]

theorem Channel.cleaned_takeCam (c : Channel) (l : Level) :
    ({ c.takeCam false with line := l } : Channel).cleaned = c.cleaned := rfl

theorem State.cleanup_channel_same (agrees : s.CamAgrees) (o : OutputId) :
    (s.cleanup (.output o)).channel o = (s.channel o).cleaned := by
  let u : State := { s with slots := mapVector (fun w => if w.output = o then Slot.free else w) s.slots }
  have slot (i : Fin 48) : u.slots[i] = if s.slots[i].output = o then Slot.free else s.slots[i] :=
    mapVector_get _ s.slots i i.isLt
  have none_left : u.camOf o = false := by
    by_contra on
    obtain ⟨i, drives⟩ := (u.camOf_iff o).mp (Bool.not_eq_false _ ▸ on)
    rw [slot] at drives
    split at drives
    · rw [Slot.not_drives_of_free rfl] at drives
      cases drives
    · rename_i d
      rw [Slot.drives_other d] at drives
      cases drives
  have recomposed := u.recompose_channel o o
  rw [none_left] at recomposed
  have same : (s.cleanup (.output o)).channel o =
      { ((u.recompose o).channel o).cleanup with line := ((u.recompose o).channel o).cleanup.effective } :=
    State.arrive_channel_same _ o _
  rw [same, recomposed]
  split
  · rw [Channel.cleanup_cleaned _ rfl]
    exact Channel.cleaned_takeCam _ _
  · rename_i h
    have level : s.camLevels[o] = false := by
      by_contra on
      exact h ⟨rfl, fun e => on e.symm⟩
    exact Channel.cleanup_cleaned _ ((agrees o).trans level)

/-! ### A hand-over, port by port (R140) -/

theorem State.handOver_granted (s : State) {r : Resource} {w : PortId} {rest : List PortId} (waits : (s.claim r).waiters = w :: rest)
    (station : Nat) (cause : ClaimCause) (q : PortId) :
    (s.handOver r station cause).port q =
      if q = w then (s.port w).tell (.claimGranted r station cause) s.now else s.port q := by
  unfold State.handOver
  rw [waits]
  dsimp only
  split
  · subst q
    exact State.post_port_same _ w _
  · rename_i other
    exact State.post_port_other _ w q _ other

theorem State.handOver_freed (s : State) {r : Resource} (none : (s.claim r).waiters = []) (station : Nat) (cause : ClaimCause)
    (q : PortId) :
    (s.handOver r station cause).port q =
      if (s.session q).isOpen && (s.session q).subs.claimFreed then (s.port q).tell (.claimFreed r station cause) s.now
      else s.port q := by
  unfold State.handOver
  rw [none]
  exact State.broadcast_port (s.setClaim r Claim.free) (fun u => u.claimFreed) _ q

/-! ### Notices posted one after another -/

theorem State.posts_told {K : NoticeKind → Prop} (l : List NoticeKind) (s : State) (p : PortId) (h : ∀ k ∈ l, K k) :
    State.Told K l.length s (l.foldl (fun t n => t.post p n) s) := by
  induction l generalizing s with
  | nil => exact .refl _ _ _
  | cons n l ih =>
    have first := State.post_told s p (h n (.head _))
    have rest := ih (s.post p n) fun k hk => h k (.tail _ hk)
    rw [List.length_cons, Nat.add_comm]
    exact first.trans rest

theorem State.posts_port_other (l : List NoticeKind) (s : State) {p q : PortId} (other : q ≠ p) :
    (l.foldl (fun t n => t.post p n) s).port q = s.port q := by
  induction l generalizing s with
  | nil => rfl
  | cons n l ih => exact (ih (s.post p n)).trans (State.post_port_other s p q n other)

/-- Notices posted to an open session with room for all are all in its queue (R166). -/
theorem State.posts_hold (l : List NoticeKind) (s : State) (p : PortId) (isOpen : (s.session p).isOpen = true)
    (room : (s.port p).notices.items.length + l.length ≤ 24) : ∀ k ∈ l, ((l.foldl (fun t n => t.post p n) s).port p).Holds k := by
  induction l generalizing s with
  | nil => exact fun _ h => nomatch h
  | cons n l ih =>
    have told := State.post_told (K := fun _ => True) s p (k := n) trivial
    have isOpen' : ((s.post p n).session p).isOpen = true := by rw [told.session]; exact isOpen
    have longer := (told.port p).length_le
    rw [List.length_cons] at room
    intro k hk
    rcases List.mem_cons.mp hk with rfl | hk
    · have posted : ((s.post p k).port p).Holds k := by
        rw [State.post_port_same]
        exact Port.tell_holds _ _ _ isOpen (by omega)
      have rest := State.posts_told (K := fun _ => True) l (s.post p k) p fun _ _ => trivial
      exact (rest.port p).holds posted
    · exact ih (s.post p n) isOpen' (by omega) k hk

/-! ### Release (R65, R138) -/

/-- The notices of the entries that a release withdraws, in their order (R65). -/
def State.withdrawals (s : State) (p : PortId) (r : Resource) : List NoticeKind :=
  allAxes.flatMap fun x => ((s.compareList x).filter fun e => e.actsFor p r).map (s.withdrawnNotice x)

theorem State.withdrawFor_eq (s : State) (p : PortId) (r : Resource) :
    s.withdrawFor p r =
      (s.withdrawals p r).foldl (fun t n => t.post p n) (s.removeEntries fun e => e.actsFor p r) := rfl

theorem CompareEntry.actsFor_eq (e : CompareEntry) (p : PortId) (r : Resource) :
    e.actsFor p r = decide (e.owner = p ∧ e.action.resource = some r) := (Bool.decide_and _ _).symm

theorem State.withdrawals_length (s : State) (p : PortId) (r : Resource) :
    (s.withdrawals p r).length =
      ((s.compareList .a ++ s.compareList .b ++ s.compareList .v).filter fun e => e.actsFor p r).length := by
  unfold State.withdrawals allAxes
  simp only [List.flatMap_cons, List.flatMap_nil, List.append_nil, List.length_append, List.length_map, List.filter_append]
  omega

theorem State.mem_withdrawals {x : AxisId} {e : CompareEntry} (mem : e ∈ s.compareList x) {r : Resource} (acts : e.actsFor p r = true) :
    s.withdrawnNotice x e ∈ s.withdrawals p r :=
  List.mem_flatMap.mpr ⟨x, mem_allAxes x, List.mem_map_of_mem (List.mem_filter.mpr ⟨mem, acts⟩)⟩

theorem State.withdrawnNotice_eq (s : State) (x : AxisId) (e : CompareEntry) :
    s.withdrawnNotice x e =
      .compareWithdrawn e.id e.tag x (match (s.axis x).mode with | .linear => 0 | .rotary => e.target / (s.axis x).cycle)
        (match (s.axis x).mode with | .linear => e.target | .rotary => e.target % (s.axis x).cycle) := by
  unfold State.withdrawnNotice Axis.turnOf Axis.positionOf
  rw [Int.fdiv_eq_ediv_of_nonneg _ (Int.natCast_nonneg _), Int.fmod_eq_emod_of_nonneg _ (Int.natCast_nonneg _)]
  cases (s.axis x).mode <;> rfl

theorem State.removeEntries_compareList (s : State) (drop : CompareEntry → Bool) (x : AxisId) :
    (s.removeEntries drop).compareList x = (s.compareList x).filter fun e => !drop e := by cases x <;> rfl

theorem releaseRequest_eq {resource : Byte} {r : Resource} (hr : resourceOf resource = some r) (held : s.holds p r = true)
    (free : s.releasable r = true) :
    releaseRequest p resource s = (((s.withdrawFor p r).cleanup r).handOver r (s.station p) .released, .only .done) := by
  unfold releaseRequest
  rw [hr]
  dsimp only
  rw [if_pos held, if_pos free]

theorem State.releasable_of_idle {r : Resource} (idle : ∀ g, r = .generator g → (s.gen g).state = .idle) :
    s.releasable r = true := by
  cases r with
  | output o => rfl
  | generator g => exact decide_eq_true (idle g rfl)
  | axis x => rfl

end Sys2Proof.Machine
end

section
/-! SUPPORT. The release of a claim by its holder (R138 to R140). -/

namespace Sys2Proof.Machine

variable {s t : State} {p : PortId} {seq : Byte} {c : Instr}

theorem State.withdrawFor_posts (s : State) (p : PortId) (r : Resource) :
    PortsOnly (s.removeEntries fun e => e.actsFor p r) (s.withdrawFor p r) := State.posts_reach _ p _

/-- A release with its cleanup and its notices: the state that it leaves, before the answer. -/
def State.released (s : State) (p : PortId) (r : Resource) : State :=
  ((s.withdrawFor p r).cleanup r).handOver r (s.station p) .released

section released

variable (s : State) (p : PortId) (r : Resource)

theorem State.released_reach : ClaimsOnly ((s.withdrawFor p r).cleanup r) (s.released p r) :=
  State.handOver_reach _ r _ _

theorem State.released_claim (q : Resource) : (s.released p r).claim q = if q = r then (s.claim r).passed else s.claim q := by
  have before (q : Resource) : ((s.withdrawFor p r).cleanup r).claim q = s.claim q :=
    (State.cleanup_claim _ r q).trans ((s.withdrawFor_posts p r).claim q)
  unfold State.released
  rw [State.handOver_claim, before, before]

theorem State.released_compareList (x : AxisId) :
    (s.released p r).compareList x = (s.compareList x).filter fun e => !e.actsFor p r := by
  have compares : (s.released p r).compares = (s.removeEntries fun e => e.actsFor p r).compares :=
    (s.released_reach p r).compares.trans ((State.cleanup_compares _ r).trans (s.withdrawFor_posts p r).compares)
  unfold State.compareList
  rw [compares]
  exact s.removeEntries_compareList _ x

theorem State.released_slot (i : Fin 48) :
    (s.released p r).slots[i] = if r = .output s.slots[i].output then Slot.free else s.slots[i] := by
  have slots : (s.withdrawFor p r).slots = s.slots := (s.withdrawFor_posts p r).slots
  rw [(s.released_reach p r).slots, State.cleanup_slot, slots]

theorem State.released_channel_other {o : OutputId} (other : r ≠ .output o) : (s.released p r).channel o = s.channel o :=
  (State.channel_congr (s.released_reach p r).channels o).trans
    ((State.cleanup_channel_other _ other).trans (State.channel_congr (s.withdrawFor_posts p r).channels o))

theorem State.released_channel_same (agrees : s.CamAgrees) (o : OutputId) :
    (s.released p (.output o)).channel o = (s.channel o).cleaned := by
  have posts := s.withdrawFor_posts p (.output o)
  have agrees' : (s.withdrawFor p (.output o)).CamAgrees := fun q => by
    rw [State.channel_congr posts.channels, posts.camLevels]
    exact agrees q
  rw [State.channel_congr (s.released_reach p _).channels, State.cleanup_channel_same agrees', State.channel_congr posts.channels]
  rfl

theorem State.released_gen (g : GenId) :
    (s.released p r).gen g = if r = .generator g then { s.gen g with pendingTrigger := false } else s.gen g := by
  have gens : (s.withdrawFor p r).gen g = s.gen g := State.gen_congr (s.withdrawFor_posts p r).gens g
  rw [State.gen_congr (s.released_reach p r).gens, State.cleanup_gen, gens]

theorem State.released_axis (x : AxisId) :
    (s.released p r).axis x = if r = .axis x then (s.axis x).cleanup else s.axis x := by
  have axes : (s.withdrawFor p r).axis x = s.axis x := State.axis_congr (s.withdrawFor_posts p r).axes x
  rw [State.axis_congr (s.released_reach p r).axes, State.cleanup_axis, axes]

/-- The port that releases is told the withdrawals, and the hand-over tells each port one notice at most. -/
theorem State.released_told :
    (∀ q, q ≠ p → Port.Told (fun _ => True) s.now 1 (s.port q) ((s.released p r).port q)) ∧
      Port.Told (fun _ => True) s.now 1 ((s.withdrawFor p r).port p) ((s.released p r).port p) := by
  have now : ((s.withdrawFor p r).cleanup r).now = s.now :=
    (State.cleanup_reach _ r).now.trans (s.withdrawFor_posts p r).now
  have told := State.handOver_told (K := fun _ => True) ((s.withdrawFor p r).cleanup r) r (s.station p) .released trivial trivial
  have port (q : PortId) : ((s.withdrawFor p r).cleanup r).port q = (s.withdrawFor p r).port q :=
    State.port_congr (State.cleanup_ports _ r) q
  have at_q (q : PortId) := told.port q
  simp only [port, now] at at_q
  refine ⟨fun q other => ?_, at_q p⟩
  have same : (s.withdrawFor p r).port q = s.port q := State.posts_port_other _ _ other
  rw [← same]
  exact at_q q

theorem State.withdrawFor_now : ((s.withdrawFor p r).cleanup r).now = s.now :=
  (State.cleanup_reach _ r).now.trans (s.withdrawFor_posts p r).now

/-- Each withdrawal is in the queue of the session that releases, where there is room for all (R65). -/
theorem State.released_withdrawals (isOpen : (s.session p).isOpen = true)
    (room : (s.port p).notices.items.length + (s.withdrawals p r).length ≤ 24) {k : NoticeKind} (mem : k ∈ s.withdrawals p r) :
    ((s.released p r).port p).Holds k :=
  (s.released_told p r).2.holds (State.posts_hold _ (s.removeEntries fun e => e.actsFor p r) p isOpen room k mem)

theorem State.withdrawFor_port (q : PortId) (none : q = p → s.withdrawals p r = []) :
    ((s.withdrawFor p r).cleanup r).port q = s.port q := by
  refine (State.port_congr (State.cleanup_ports _ r) q).trans ?_
  by_cases e : q = p
  · rw [State.withdrawFor_eq, none e]
    rfl
  · exact State.posts_port_other _ _ e

theorem State.withdrawFor_claim (q : Resource) : ((s.withdrawFor p r).cleanup r).claim q = s.claim q :=
  (State.cleanup_claim _ r q).trans ((s.withdrawFor_posts p r).claim q)

theorem State.released_granted {w : PortId} {rest : List PortId} (waits : (s.claim r).waiters = w :: rest) (other : w ≠ p)
    (isOpen : (s.session w).isOpen = true) (room : (s.port w).notices.items.length < 24) :
    ((s.released p r).port w).Holds (.claimGranted r (s.station p) .released) := by
  have port := s.withdrawFor_port p r w fun e => absurd e other
  unfold State.released
  rw [State.handOver_granted _ (by rw [State.withdrawFor_claim]; exact waits), if_pos rfl, port]
  exact Port.tell_holds _ _ _ isOpen room

theorem State.released_freed (waits : (s.claim r).waiters = []) {q : PortId} (none : q = p → s.withdrawals p r = [])
    (isOpen : (s.session q).isOpen = true) (subs : (s.session q).subs.claimFreed = true)
    (room : (s.port q).notices.items.length < 24) : ((s.released p r).port q).Holds (.claimFreed r (s.station p) .released) := by
  have port := s.withdrawFor_port p r q none
  have session : ((s.withdrawFor p r).cleanup r).session q = s.session q := congrArg Port.session port
  unfold State.released
  rw [State.handOver_freed _ (by rw [State.withdrawFor_claim]; exact waits), session, isOpen, subs, port]
  exact Port.tell_holds _ _ _ isOpen room

end released

/-- A port that differs from another in its notices not at all holds the same notices. -/
theorem Port.Holds.of_notices {q r : Port} {k : NoticeKind} (h : q.Holds k) (same : r.notices = q.notices) : r.Holds k := by
  unfold Port.Holds
  rw [same]
  exact h

theorem State.answered_session_other (s : State) {p q : PortId} (other : q ≠ p) (seq : Byte) (body : List Byte) :
    (s.answered p seq body).session q = s.session q := congrArg Port.session (State.modPort_port_other s p q _ other)

theorem State.answered_slots (s : State) (p : PortId) (seq : Byte) (body : List Byte) : (s.answered p seq body).slots = s.slots := rfl

theorem State.received_subs (s : State) (p q : PortId) (seq : Byte) (r : Request) :
    ((s.received p seq r).session q).subs = (s.session q).subs := by
  change ((s.modPort p _).port q).session.subs = _
  rw [State.modPort_port]
  split
  · subst q
    change (s.session p).restartLease.subs = _
    unfold Session.restartLease
    split <;> rfl
  · rfl

theorem State.answered_channel (s : State) (p : PortId) (seq : Byte) (body : List Byte) (o : OutputId) :
    (s.answered p seq body).channel o = s.channel o := rfl

/-- Settles O44: the release, part by part. -/
theorem releaseCleansUpAndHandsOver : Obligations.ReleaseCleansUpAndHandsOver := by
  intro s p seq resource r h lawful hr held idle acts gone
  let u := s.received p seq (.release resource)
  have row := releaseRequest_eq (s := u) hr held (State.releasable_of_idle idle)
  have hushed : u.Hushed (u.released p r) :=
    ((u.withdrawFor_hushed p r).trans (State.cleanup_hushed _ r)).trans (State.handOver_hushed _ r _ _)
  have done : exec (.release p seq resource) s = .next ((u.released p r).answered p seq [0x11, 0x00]) :=
    (exec_performed (c := .release p seq resource) h.toServes rfl (State.commonCheck_listed h.session_open rfl) nofun nofun
      row (hushed.events.trans h.settled) :)
  have hold := (s.holds_iff p r).mp held
  have notices (q : PortId) : (u.port q).notices = (s.port q).notices := s.received_notices p q seq _
  have station : u.station p = (s.session p).station := s.received_station p p seq _
  have isOpen (q : PortId) : (u.session q).isOpen = (s.session q).isOpen := s.received_isOpen p q seq _
  have actsFor : (fun e : CompareEntry => e.actsFor p r) = acts := funext fun e => e.actsFor_eq p r
  have count : (u.withdrawals p r).length = gone := by
    rw [State.withdrawals_length, actsFor]
    rfl
  have reach := u.released_reach p r
  have posts := u.withdrawFor_posts p r
  have clean := State.cleanup_reach (u.withdrawFor p r) r
  have told {q : PortId} {k : NoticeKind} (holds : ((u.released p r).port q).Holds k) :
      (((u.released p r).answered p seq [0x11, 0x00]).port q).Holds k :=
    holds.of_notices (State.answered_notices _ _ _ _ _)
  refine ⟨(u.released p r).answered p seq [0x11, 0x00], done, ?_, fun q other => ?_, fun x => ?_, fun room x e he yes => ?_,
    fun i other => ?_, fun o other => ?_, fun g other => ?_, fun x other => ?_, ?_, ?_, ?_, fun q other => ?_, ?_, ?_, ?_,
    State.answered_cache _ _ _ _, fun w rest waits room => ?_, fun q waits qOpen subs room none => ?_⟩
  · exact (u.released_claim p r r).trans (if_pos rfl)
  · exact (u.released_claim p r q).trans (if_neg other)
  · exact (u.released_compareList p r x).trans (by rw [← actsFor]; rfl)
  · have mem := State.mem_withdrawals (s := u) (p := p) (r := r) he (by rw [CompareEntry.actsFor_eq]; exact yes)
    rw [State.withdrawnNotice_eq] at mem
    exact told (u.released_withdrawals p r ((isOpen p).trans h.session_open) (by rw [notices, count]; exact room) mem)
  · exact (u.released_slot p r i).trans (if_neg other)
  · exact u.released_channel_other p r other
  · exact (u.released_gen p r g).trans (if_neg other)
  · exact (u.released_axis p r x).trans (if_neg other)
  · exact reach.commits.trans ((State.cleanup_commits _ r).trans posts.commits)
  · exact reach.nextCompareId.trans (clean.nextCompareId.trans posts.nextCompareId)
  · exact reach.halt.trans (clean.halt.trans posts.halt)
  · have answered := (u.released p r).answered_session_other other seq [0x11, 0x00]
    have told : (u.released p r).session q = u.session q := ((u.released_told p r).1 q other).session
    have received : u.session q = s.session q := congrArg Port.session (State.modPort_port_other s p q _ other)
    exact answered.trans (told.trans received)
  · intro o e
    subst e
    have channel : ((u.released p (.output o)).answered p seq [0x11, 0x00]).channel o = (s.channel o).cleaned := by
      rw [State.answered_channel, State.released_channel_same u p lawful.cam.agrees]
      rfl
    refine ⟨fun i on => ?_, channel⟩
    rw [State.answered_slots] at on
    have slot := u.released_slot p (.output o) i
    by_cases same : (.output o : Resource) = .output u.slots[i].output
    · rw [State.answered_slots, slot, if_pos same]
      rfl
    · have unchanged := slot.trans (if_neg same)
      have output := congrArg Slot.output unchanged
      exact absurd (congrArg Resource.output (on.symm.trans output)) same
  · intro g e
    exact (u.released_gen p r g).trans (if_pos e)
  · intro x e
    exact (u.released_axis p r x).trans (if_pos e)
  · have mem : w ∈ (s.claim r).waiters := by rw [waits]; exact .head _
    have granted := u.released_granted p r waits (fun e => (lawful.claims.each r).owner_not_waiting p hold.2 (e ▸ mem))
      ((isOpen w).trans (lawful.claims.waiters_open r w mem)) (by rw [notices]; exact room)
    rw [station] at granted
    exact told granted
  · have subs' : (u.session q).subs.claimFreed = true := by
      have same : (u.session q).subs = (s.session q).subs := s.received_subs p q seq _
      rw [same]
      exact subs
    have freed := u.released_freed p r waits (fun e => List.length_eq_zero_iff.mp (count.trans (none e)))
      ((isOpen q).trans qOpen) subs' (by rw [notices]; exact room)
    rw [station] at freed
    exact told freed

end Sys2Proof.Machine
end

section
/-! SUPPORT. The transmitter (R168, R171, R184): what follows the end of a frame, what an offer starts, and the notice layouts. -/

namespace Sys2Proof.Machine

variable {s t u : State} {p : PortId}

/-! ### The head of the intake queue taken, as its port sees it (R181) -/

/-- A port whose intake queue stands, and whose transmitter does not fall idle. -/
structure Port.Stays (q r : Port) : Prop where
  intake : r.intake = q.intake
  busy : q.tx.isSome = true → r.tx.isSome = true

theorem Port.Stays.refl (q : Port) : q.Stays q := ⟨rfl, id⟩

theorem Port.Stays.trans {q r x : Port} (h : q.Stays r) (k : r.Stays x) : q.Stays x :=
  ⟨k.intake.trans h.intake, k.busy ∘ h.busy⟩

theorem Port.Steady.stays {q r : Port} (h : q.Steady r) : q.Stays r := ⟨h.intake, fun b => by rw [h.busy b]; exact b⟩

theorem Port.handed_stays (q : Port) (seq : Byte) (body : List Byte) (closes : Bool) : q.Stays (q.handed seq body closes) := by
  unfold Port.handed
  split
  · exact ⟨rfl, fun _ => rfl⟩
  · exact ⟨rfl, id⟩

theorem State.respond_stays (s : State) (p q : PortId) (r : Response) : (s.port q).Stays ((s.respond p r).port q) := by
  rw [State.respond_handed, State.modPort_port]
  split
  · subst q; exact Port.handed_stays _ _ _ _
  · exact .refl _

theorem State.answerClear_stays (s : State) (q : PortId) : (s.port q).Stays (s.answerClear.port q) := by
  unfold State.answerClear
  split
  · exact .refl _
  · split
    · exact .refl _
    · exact State.respond_stays _ _ _ _

theorem State.completeHandOver_stays (s : State) (q : PortId) : (s.port q).Stays (s.completeHandOver.port q) := by
  unfold State.completeHandOver
  split
  · exact .refl _
  · rw [State.handOn_eq]
    have taken := ((s.handOnTaken_steady []).port q).stays
    split
    · exact taken.trans (State.answerClear_stays _ q)
    · exact taken

theorem State.answer_stays (s : State) (p q : PortId) (r : Request) : (s.port q).Stays ((s.answer p r).1.port q) := by
  unfold State.answer
  split
  · exact .refl _
  · by_cases k : r = .clearHalt
    · subst k
      refine Port.Stays.trans ?_ ((State.drain_quiet _).port q).stays
      change (s.port q).Stays ((clearHaltRequest p s).1.port q)
      unfold clearHaltRequest
      dsimp only
      split
      · exact s.completeHandOver_stays q
      · exact (s.completeHandOver_stays q).trans ((State.haltChange_steady _ _ _ _).port q).stays
      · exact s.completeHandOver_stays q
    · exact (((s.perform_quiet p k).trans (State.drain_quiet _)).port q).stays

/-- A request taken awaits the hand-over of its change, or its response is handed to the transmitter. -/
theorem State.takeRequest_cases (s : State) (p : PortId) (seq : Byte) (r : Request) :
    (s.port p).Stays ((s.takeRequest p seq r).port p) ∧
      ((s.takeRequest p seq r).clearing = some p ∧ r = .clearHalt ∧ (s.takeRequest p seq r).handing ≠ [] ∨
        ∃ (v : State) (x : Response), x.seq = seq ∧ s.takeRequest p seq r = v.respond p x ∧ (s.port p).Stays (v.port p)) := by
  unfold State.takeRequest
  dsimp only
  generalize hc : closesWith r (s.answer p r).2.status = closes
  generalize hb : responseBody r (s.answer p r).2 = body
  have remembered := (s.answer p r).1.remember_quiet p seq body closes
  have stays := (s.answer_stays p p r).trans (remembered.port p).stays
  split
  · rename_i awaits
    unfold State.awaitsHandOver at awaits
    simp only [Bool.and_eq_true, decide_eq_true_eq, Bool.not_eq_true', List.isEmpty_eq_false_iff] at awaits
    obtain ⟨⟨clear, -⟩, handing⟩ := awaits
    exact ⟨stays, .inl ⟨rfl, clear, fun e => handing (remembered.handing.symm.trans e)⟩⟩
  · exact ⟨stays.trans (State.respond_stays _ p p _), .inr ⟨_, _, rfl, rfl, stays⟩⟩

theorem State.serveHead_cases {k : Intake} {rest : List Intake} (head : (s.port p).intake = k :: rest) :
    (s.port p).Stays ((s.serveHead p).port p) ∧
      ((s.serveHead p).clearing = some p ∧ k.request = .clearHalt ∧ (s.serveHead p).handing ≠ [] ∨
        ∃ (v : State) (x : Response), x.seq = k.seq ∧ s.serveHead p = v.respond p x ∧ (s.port p).Stays (v.port p)) := by
  unfold State.serveHead
  rw [head]
  dsimp only
  split
  · exact ⟨State.respond_stays _ _ _ _, .inr ⟨s, _, rfl, rfl, .refl _⟩⟩
  · exact s.takeRequest_cases p k.seq k.request

/-! ### What an idle transmitter starts (R168, R184) -/

theorem frameBytes_head (type seq : Byte) (body : List Byte) : (frameBytes type seq body).take 3 = [0xC7, type, seq] := rfl

/-- The answer to a request stands at the transmitter of its port: waiting, or in transmission. -/
def Port.Bears (q : Port) (seq : Byte) : Prop :=
  (∃ r, q.waiting = some r ∧ r.seq = seq) ∨
    ∃ closes bytes, q.tx = some { kind := .response closes, bytes := bytes } ∧ bytes.take 3 = [0xC7, 0x52, seq]

theorem Port.bears_frame (q : Port) (r : Response) : Port.Bears { q with tx := some r.frame, waiting := none } r.seq :=
  .inr ⟨r.closes, frameBytes typeResponse r.seq r.body, rfl, frameBytes_head _ _ _⟩

theorem State.respond_bears (s : State) (p : PortId) (r : Response) : ((s.respond p r).port p).Bears r.seq := by
  rw [State.respond_handed, State.modPort_port_same]
  unfold Port.handed
  split
  · exact .inr ⟨r.closes, frameBytes typeResponse r.seq r.body, rfl, frameBytes_head _ _ _⟩
  · exact .inl ⟨r, rfl, rfl⟩

theorem State.respond_waiting (busy : (s.port p).tx.isSome = true) (r : Response) : ((s.respond p r).port p).waiting = some r := by
  rw [State.respond_handed, State.modPort_port_same]
  unfold Port.handed
  split
  · rename_i idle
    rw [idle] at busy
    cases busy
  · rfl

theorem State.startNext_waiting {r : Response} (waiting : (s.port p).waiting = some r) :
    s.startNext p = s.modPort p fun q => { q with tx := some r.frame, waiting := none } := by
  unfold State.startNext
  rw [waiting]

theorem State.startNext_offer (waiting : (s.port p).waiting = none) : s.startNext p = s.offer p := by
  unfold State.startNext
  rw [waiting]

theorem sendOldest_split {now : Word} {sent rest : List Notice} {n : Notice} (before : ∀ m ∈ sent, m.sentAt.isSome = true)
    (unsent : n.sentAt = none) :
    sendOldest now (sent ++ n :: rest) = some (n, sent ++ { n with sentAt := some now } :: rest) := by
  induction sent with
  | nil => simp [sendOldest, unsent]
  | cons m sent ih =>
    obtain ⟨at_, e⟩ := Option.isSome_iff_exists.mp (before m (.head _))
    simp [sendOldest, e, ih fun k hk => before k (.tail _ hk)]

theorem sendOldest_none {now : Word} {l : List Notice} (all : ∀ m ∈ l, m.sentAt.isSome = true) : sendOldest now l = none := by
  rcases sendOldest_cases now l with ⟨none, -⟩ | ⟨sent, n, rest, rfl, -, unsent, -⟩
  · exact none
  · have k := all n (by simp)
    rw [unsent] at k
    cases k

/-- The first send time of a queue whose oldest UNSENT notice is sent now. -/
theorem findSome_sent {now : Word} {sent rest : List Notice} {n : Notice} (before : ∀ m ∈ sent, m.sentAt.isSome = true)
    (at_now : n.sentAt = some now) :
    ((sent ++ n :: rest).findSome? fun m => m.sentAt) = some ((sent.head?.bind Notice.sentAt).getD now) := by
  cases sent with
  | nil => simp [at_now]
  | cons m sent =>
    obtain ⟨at_, e⟩ := Option.isSome_iff_exists.mp (before m (.head _))
    simp [e]

/-- A port of which the oldest UNSENT notice goes on the line. -/
theorem Port.offer_sends {q : Port} {sent rest : List Notice} {n : Notice} {now : Word} (may : q.mayStartNotice = true)
    (split : q.notices.items = sent ++ n :: rest) (before : ∀ m ∈ sent, m.sentAt.isSome = true) (unsent : n.sentAt = none) :
    q.offer now =
      { q with
        tx := some { kind := .notice n.number, bytes := frameBytes 0x53 0 n.bytes }
        notices :=
          { q.notices with
            items := sent ++ [{ n with sentAt := some now }] ++ rest
            resendAt := some (((sent.head?.bind Notice.sentAt).getD now) + 250) } } := by
  unfold Port.offer
  rw [if_pos may, split, sendOldest_split before unsent]
  dsimp only
  unfold NoticeQueue.followResend NoticeQueue.resendDue
  dsimp only
  rw [findSome_sent before rfl, List.append_assoc]
  rfl

theorem sentCount_split {sent rest : List Notice} {n : Notice} (before : ∀ m ∈ sent, m.sentAt.isSome = true)
    (after : ∀ m ∈ n :: rest, m.sentAt = none) : ((sent ++ n :: rest).filter fun m => m.sentAt.isSome) = sent := by
  rw [List.filter_append, List.filter_eq_self.mpr before, List.filter_eq_nil_iff.mpr fun m hm => by rw [after m hm]; exact Bool.false_ne_true,
    List.append_nil]

/-- An offer at an idle transmitter is what `TakesNotice` says. -/
theorem Port.offer_takes (q : Port) (idle : q.tx = none) (waiting : q.waiting = none) (now : Word) : q.TakesNotice (q.offer now) now := by
  refine ⟨fun sent n rest split before after isOpen closing room => ?_, fun stays => ?_⟩
  · rw [List.append_assoc] at split
    refine Port.offer_sends ((Port.mayStartNotice_iff q).mpr ⟨isOpen, closing, ?_, idle, waiting⟩) split before (after n (.head _))
    unfold NoticeQueue.sentCount
    rw [split]
    exact (congrArg List.length (sentCount_split before after)).trans_lt room
  · unfold Port.offer
    split
    · rename_i may
      obtain ⟨isOpen, closing, room, -⟩ := (Port.mayStartNotice_iff q).mp may
      rcases stays with shut | closed | full | all
      · rw [shut] at isOpen; cases isOpen
      · rw [closed] at closing; cases closing
      · exact absurd room (Nat.not_lt.mpr full)
      · rw [sendOldest_none all]
    · rfl

/-! ### The end of a frame (R181, R184) -/

theorem State.frameEnds_notice {f : TxFrame} (tx : (s.port p).tx = some f) (other : f.answersHead = false) :
    s.frameEnds p = (s.idleTx p).startNext p := by
  unfold State.frameEnds
  rw [tx]
  unfold TxFrame.answersHead at other
  cases k : f.kind with
  | response closes => rw [k] at other; cases other
  | notice n => simp only [k]
  | orphan => simp only [k]

theorem State.frameEnds_response {f : TxFrame} (tx : (s.port p).tx = some f) (kind : f.kind = .response false) :
    s.frameEnds p = s.responseEnds p false := by
  unfold State.frameEnds
  rw [tx]
  dsimp only
  rw [kind]

theorem State.idle_waiting (s : State) (p : PortId) : ((s.idleTx p).port p).waiting = (s.port p).waiting := by
  unfold State.idleTx
  rw [State.modPort_port_same]

theorem State.idle_offer (s : State) (p : PortId) :
    (s.idleTx p).offer p = s.modPort p fun _ => ({ s.port p with tx := none } : Port).offer s.now := by
  unfold State.offer State.idleTx
  rw [State.modPort_modPort]
  exact State.modPort_congr s p rfl

end Sys2Proof.Machine
end

section
/-! SUPPORT. A held request taken at the end of a response frame (R181, R184), the resend timer (R171), and the notice layouts (R188). -/

namespace Sys2Proof.Machine

variable {s t u : State} {p : PortId}

/-! ### A held request taken (R181, log 6) -/

/-- What becomes of a held request at the end of the response before it. -/
def State.Takes (t : State) (p : PortId) (k : Intake) : Prop :=
  (t.port p).intake = [k] ∧
    (t.clearing = some p ∧ k.request = .clearHalt ∧ t.handing ≠ [] ∨ (t.port p).Bears k.seq)

theorem State.serveHead_takes {k : Intake} (head : (s.port p).intake = [k]) : (s.serveHead p).Takes p k := by
  obtain ⟨stays, waits | ⟨v, r, seq, eq, -⟩⟩ := State.serveHead_cases head
  · exact ⟨stays.intake.trans head, .inl waits⟩
  · refine ⟨stays.intake.trans head, .inr ?_⟩
    rw [eq, ← seq]
    exact v.respond_bears p r

/-- The notice first: the request is taken as the transmitter goes on (log 6). -/
theorem State.noticeFirst_takes {k : Intake} (head : (s.port p).intake = [k]) (waiting : (s.port p).waiting = none) :
    (((s.idleTx p).startNext p).serveHead p).Takes p k := by
  refine State.serveHead_takes ?_
  rw [State.startNext_offer ((s.idle_waiting p).trans waiting)]
  refine (((s.idleTx p).offer_quiet p).port p).intake.trans ?_
  unfold State.idleTx
  rw [State.modPort_port_same]
  exact head

/-- The request first: its response starts as the frame before it ends (log 6). -/
theorem State.requestFirst_takes {k : Intake} (head : (s.port p).intake = [k]) (busy : (s.port p).tx.isSome = true) :
    (((s.serveHead p).idleTx p).startNext p).Takes p k := by
  have idle (t : State) : (t.idleTx p).port p = { t.port p with tx := none } := t.modPort_port_same p _
  obtain ⟨stays, waits⟩ := State.serveHead_cases head
  have intake (t : State) (h : (t.port p).intake = [k]) : (((t.idleTx p).startNext p).port p).intake = [k] := by
    unfold State.startNext
    split
    · rw [State.modPort_port_same, idle]; exact h
    · refine (((t.idleTx p).offer_quiet p).port p).intake.trans ?_
      rw [idle]; exact h
  refine ⟨intake _ (stays.intake.trans head), ?_⟩
  rcases waits with ⟨clearing, clear, handing⟩ | ⟨v, r, seq, eq, busy'⟩
  · refine .inl ?_
    unfold State.startNext
    split
    · exact ⟨clearing, clear, handing⟩
    · exact ⟨clearing, clear, handing⟩
  · refine .inr ?_
    rw [eq, State.startNext_waiting (((v.respond p r).idle_waiting p).trans (State.respond_waiting (busy'.busy busy) r)),
      State.modPort_port_same, ← seq]
    exact Port.bears_frame _ r

theorem State.serveHeld_takes {k : Intake} (head : (s.port p).intake = [k]) (busy : (s.port p).tx.isSome = true)
    (waiting : (s.port p).waiting = none) : (s.serveHeld p).Takes p k := by
  have chosen : (({ s with choices := s.choices + 1 } : State).port p) = s.port p := rfl
  unfold State.serveHeld
  rcases s.eitherWay_cases (fun t => ((t.idleTx p).startNext p).serveHead p) fun t => ((t.serveHead p).idleTx p).startNext p with
    ⟨-, e⟩ | e | e <;> rw [e]
  · exact State.noticeFirst_takes head waiting
  · exact State.noticeFirst_takes (chosen ▸ head) (chosen ▸ waiting)
  · exact State.requestFirst_takes (chosen ▸ head) (chosen ▸ busy)

theorem State.responseEnds_empty {h : Intake} (intake : (s.port p).intake = [h]) (waiting : (s.port p).waiting = none) :
    s.responseEnds p false = s.modPort p fun _ => ({ s.port p with intake := [], tx := none } : Port).offer s.now := by
  let t := s.modPort p fun q => { q with intake := q.intake.tail }
  have port : t.port p = { s.port p with intake := [] } := by
    rw [show t.port p = _ from State.modPort_port_same s p _, intake]
    rfl
  unfold State.responseEnds
  change (match (t.port p).intake with | [] => (t.idleTx p).startNext p | _ :: _ => t.serveHeld p) = _
  rw [port]
  change (t.idleTx p).startNext p = _
  rw [State.startNext_offer ((t.idle_waiting p).trans (by rw [port]; exact waiting)), State.idle_offer, port]
  exact State.modPort_modPort s p _ _

theorem State.responseEnds_held {h k : Intake} (intake : (s.port p).intake = [h, k]) (busy : (s.port p).tx.isSome = true)
    (waiting : (s.port p).waiting = none) : (s.responseEnds p false).Takes p k := by
  let t := s.modPort p fun q => { q with intake := q.intake.tail }
  have port : t.port p = { s.port p with intake := [k] } := by
    rw [show t.port p = _ from State.modPort_port_same s p _, intake]
    rfl
  have held : s.responseEnds p false = t.serveHeld p := by
    unfold State.responseEnds
    change (match (t.port p).intake with | [] => (t.idleTx p).startNext p | _ :: _ => t.serveHeld p) = _
    rw [port]
  rw [held]
  exact State.serveHeld_takes (by rw [port]) (by rw [port]; exact busy) (by rw [port]; exact waiting)

/-! ### The resend timer (R171) -/

/-- A queue whose notices are all UNSENT again, its timer stopped (R171). -/
theorem NoticeQueue.resend_eq (q : NoticeQueue) :
    q.resend = { q with items := q.items.map fun n => { n with sentAt := none }, resendAt := none } := by
  have none_sent : ((q.items.map fun n : Notice => { n with sentAt := none }).findSome? fun n => n.sentAt) = none :=
    List.findSome?_eq_none_iff.mpr fun n hn => by
      obtain ⟨m, -, rfl⟩ := List.mem_map.mp hn
      rfl
  unfold NoticeQueue.resend NoticeQueue.followResend NoticeQueue.resendDue
  dsimp only
  rw [none_sent]
  rfl

theorem NoticeQueue.resend_sentCount (q : NoticeQueue) : q.resend.sentCount = 0 := by
  rw [NoticeQueue.resend_eq]
  refine congrArg List.length (List.filter_eq_nil_iff.mpr fun m hm => ?_)
  obtain ⟨k, -, rfl⟩ := List.mem_map.mp hm
  exact Bool.false_ne_true

theorem State.resendExpires_due {due : Word} (timer : (s.port p).notices.resendAt = some due) :
    s.resendExpires p =
      if (s.now - due).toNat < 2147483648 then
        s.modPort p fun _ => ({ s.port p with notices := (s.port p).notices.resend } : Port).offer s.now
      else s := by
  unfold State.resendExpires reached
  rw [timer]
  simp only [decide_eq_true_eq]
  unfold State.offer
  rw [State.modPort_modPort]
  split
  · exact State.modPort_congr s p rfl
  · rfl

theorem Notice.bytes_sentAt (n : Notice) (at_ : Option Word) : ({ n with sentAt := at_ } : Notice).bytes = n.bytes := rfl

/-- The whole effect at an idle transmitter: the oldest notice starts at once (R168). -/
theorem Port.resend_starts {q : Port} {n : Notice} {rest : List Notice} {now : Word} (idle : q.tx = none) (waiting : q.waiting = none)
    (isOpen : q.session.isOpen = true) (closing : q.session.closing = false) (items : q.notices.items = n :: rest) :
    ({ q with notices := q.notices.resend } : Port).offer now =
      { q with
        tx := some { kind := .notice n.number, bytes := frameBytes 0x53 0 n.bytes }
        notices :=
          { q.notices with
            items := { n with sentAt := some now } :: rest.map fun n => { n with sentAt := none }
            resendAt := some (now + 250) } } := by
  have room : q.notices.resend.sentCount < 8 := by
    rw [NoticeQueue.resend_sentCount]
    decide
  have may : Port.mayStartNotice { q with notices := q.notices.resend } = true := by
    rw [Port.mayStartNotice_iff]
    dsimp only
    exact ⟨isOpen, closing, room, idle, waiting⟩
  have split : q.notices.resend.items = [] ++ { n with sentAt := none } :: rest.map fun n => { n with sentAt := none } := by
    rw [NoticeQueue.resend_eq, items]
    rfl
  rw [Port.offer_sends may split (fun m hm => absurd hm List.not_mem_nil) rfl, Notice.bytes_sentAt, NoticeQueue.resend_eq]
  simp only [List.head?_nil, Option.bind_none, Option.getD_none, List.nil_append, List.cons_append]

/-! ### The numbers of the notice layouts (Tables 12.3, 12.5 and 12.7) -/

theorem GenId.code_eq (g : GenId) : g.code = BitVec.ofNat 8 (match g with | .g1 => 0x10 | .g2 => 0x11 | .gv => 0x12) := by
  cases g <;> rfl

theorem PortId.code_eq (p : PortId) : p.code = BitVec.ofNat 8 (match p with | .p1 => 1 | .p2 => 2 | .p3 => 3) := by
  cases p <;> rfl

theorem CaptureSource.code_eq (c : CaptureSource) :
    c.code = BitVec.ofNat 8
      (match c with | .marker => 0 | .ref .ref0 => 1 | .ref .ref1 => 2 | .ref .ref2 => 3 | .ref .ref3 => 4 | .compare => 5) := by
  cases c with
  | marker => rfl
  | ref l => cases l <;> rfl
  | compare => rfl

theorem AxisDir.code_byte (d : AxisDir) : d.code = BitVec.ofNat 8 (match d with | .forward => 0 | .reverse => 1) := by
  cases d <;> rfl

theorem CompareAction.code_eq (a : CompareAction) :
    a.code = BitVec.ofNat 8 (match a with
      | .notify => 0 | .outHigh _ => 1 | .outLow _ => 2 | .outPulse _ _ => 3 | .outClear _ => 4 | .triggerGen _ => 5
      | .capture => 6) := by
  cases a <;> rfl

theorem CompareResult.code_eq (c : CompareResult) :
    c.code = BitVec.ofNat 8 (match c with | .done => 0 | .skippedNotOwner => 1 | .logFull => 2) := by cases c <;> rfl

theorem Disposition.code_eq (d : Disposition) :
    d.code = BitVec.ofNat 8 (match d with | .removed => 0 | .reArmed => 1 | .repeatEnded => 2 | .rangeEnded => 3) := by
  cases d <;> rfl

theorem CommitTiming.code_eq (c : CommitTiming) : c.code = BitVec.ofNat 8 (match c with | .now => 0 | .atRollover => 1) := by
  cases c <;> rfl

theorem EndCause.code_eq (c : EndCause) :
    c.code = BitVec.ofNat 8 (match c with
      | .complete => 0 | .stopped => 1 | .halted => 2 | .endedByNext => 3 | .followOverspeed => 4 | .notFound => 5
      | .outOfRange => 6) := by
  cases c <;> rfl

theorem TriggerSource.code_eq (c : TriggerSource) : c.code = BitVec.ofNat 8 (match c with | .request => 0 | .compare => 1) := by
  cases c <;> rfl

theorem ClaimCause.code_eq (c : ClaimCause) : c.code = BitVec.ofNat 8 (match c with | .released => 0 | .sessionEnded => 1) := by
  cases c <;> rfl

theorem HaltState.code_eq (h : HaltState) : h.code = BitVec.ofNat 8 (match h with | .clear => 0 | .active => 1 | .latched => 2) := by
  cases h <;> rfl

theorem HaltCause.code_eq (c : HaltCause) :
    c.code = BitVec.ofNat 8 (match c with | .lineAsserted => 0 | .lineReleased => 1 | .cleared => 2) := by cases c <;> rfl

theorem SessionCause.code_eq (c : SessionCause) :
    c.code = BitVec.ofNat 8 (match c with | .closed => 0 | .lapsed => 1 | .brk => 2) := by cases c <;> rfl

theorem Notice.bytes_eq (n : Notice) :
    n.bytes = bytesOf 2 n.number ++ [n.kind.kindAndFields.1] ++ bytesOf 2 n.lostBefore ++ bytesOf 4 n.time.toNat ++
      n.kind.kindAndFields.2 := rfl

/-- Settles O37: the layouts number by number, the ends of a frame by what stands at the port, and the resend timer. -/
theorem transmitterEndsAndResends : Obligations.TransmitterEndsAndResends := by
  refine ⟨?_, fun s p f => ⟨fun idle => ?_, fun r tx other waiting => ?_, fun tx other waiting => ?_,
    fun h tx kind waiting intake => ?_, fun h k tx kind waiting intake => ?_⟩, ?_⟩
  · intro one bit axisId genId resource source dir kind phase gave halt fields n
    have layout (k : NoticeKind) : k.kindAndFields = (BitVec.ofNat 8 (fields k).1, (fields k).2) := by
      cases k with
      | compareFired id tag axis position direction action result disposition turn place remaining =>
        simp only [NoticeKind.kindAndFields, AxisId.code_eq, AxisDir.code_byte, CompareAction.code_eq, CompareResult.code_eq,
          Disposition.code_eq, List.append_assoc]
        rfl
      | compareWithdrawn id tag axis turn place => simp only [NoticeKind.kindAndFields, AxisId.code_eq]; rfl
      | commitDone axis timing changed position =>
        simp only [NoticeKind.kindAndFields, AxisId.code_eq, CommitTiming.code_eq]; rfl
      | moveStarted g tag k counter byTrigger f =>
        cases f <;> simp only [NoticeKind.kindAndFields, GenId.code_eq, MoveKind.code_eq, flag_byte, Option.map_none, Option.map_some,
          Option.getD_none, Option.getD_some, SearchPhase.code_eq] <;> rfl
      | moveEnded g tag k cause counter started search =>
        cases search <;> simp only [NoticeKind.kindAndFields, GenId.code_eq, MoveKind.code_eq, EndCause.code_eq, flag_byte,
          searchEndBytes, SearchPhase.code_eq, NotFound.code_eq] <;> rfl
      | queueFlushed g count => simp only [NoticeKind.kindAndFields, GenId.code_eq]; rfl
      | triggerLost g source state =>
        simp only [NoticeKind.kindAndFields, GenId.code_eq, TriggerSource.code_eq, GenState.code_eq]; rfl
      | captureDone axis c count => simp only [NoticeKind.kindAndFields, AxisId.code_eq, CaptureSource.code_eq]; rfl
      | captureLost axis c => simp only [NoticeKind.kindAndFields, AxisId.code_eq, CaptureSource.code_eq]; rfl
      | claimGranted r station cause =>
        cases r <;> simp only [NoticeKind.kindAndFields, Resource.code, GenId.code_eq, AxisId.code_eq, ClaimCause.code_eq] <;> rfl
      | claimFreed r station cause =>
        cases r <;> simp only [NoticeKind.kindAndFields, Resource.code, GenId.code_eq, AxisId.code_eq, ClaimCause.code_eq] <;> rfl
      | axisOverrange axis position direction =>
        simp only [NoticeKind.kindAndFields, AxisId.code_eq, AxisDir.code_byte]; rfl
      | sessionEnded station port cause => simp only [NoticeKind.kindAndFields, PortId.code_eq, SessionCause.code_eq]; rfl
      | haltChanged new old cause station => simp only [NoticeKind.kindAndFields, HaltState.code_eq, HaltCause.code_eq]; rfl
    rw [Notice.bytes_eq, layout]
  · change Host.Outcome.next (s.frameEnds p) = _
    unfold State.frameEnds
    rw [idle]
  · change Host.Outcome.next (s.frameEnds p) = _
    rw [State.frameEnds_notice tx other, State.startNext_waiting ((s.idle_waiting p).trans waiting)]
    exact congrArg Host.Outcome.next (State.modPort_modPort s p _ _)
  · refine ⟨_, Port.offer_takes { s.port p with tx := none } rfl waiting s.now, ?_⟩
    change Host.Outcome.next (s.frameEnds p) = _
    rw [State.frameEnds_notice tx other, State.startNext_offer ((s.idle_waiting p).trans waiting), State.idle_offer]
  · refine ⟨_, Port.offer_takes { s.port p with intake := [], tx := none } rfl waiting s.now, ?_⟩
    change Host.Outcome.next (s.frameEnds p) = _
    rw [State.frameEnds_response tx kind, State.responseEnds_empty intake waiting]
  · refine ⟨s.frameEnds p, rfl, ?_⟩
    rw [State.frameEnds_response tx kind]
    exact State.responseEnds_held intake (by rw [tx]; rfl) waiting
  · intro s p due timer unsent
    have expires := State.resendExpires_due timer
    refine ⟨fun reached busy => ?_, fun n rest reached idle waiting isOpen closing items => ?_, fun early => ?_⟩
    all_goals change Host.Outcome.next (s.resendExpires p) = _
    · rw [expires, if_pos reached, Port.offer_busy (q := { s.port p with notices := (s.port p).notices.resend }) busy s.now,
        NoticeQueue.resend_eq]
      exact congrArg Host.Outcome.next (State.modPort_congr s p rfl)
    · rw [expires, if_pos reached, Port.resend_starts idle waiting isOpen closing items]
      refine congrArg Host.Outcome.next (State.modPort_congr s p rfl)
    · rw [expires, if_neg (Nat.not_lt.mpr early)]

end Sys2Proof.Machine
end

section
/-! SUPPORT. A generator of which a move has ended, started or stepped: the record, and the notices to its holder (R84, R90, R92, R93). -/

namespace Sys2Proof.Machine

variable {s t u : State} {g : GenId} {m : CurrentMove} {n : Generator} {r : MoveRecord} {rest : List MoveRecord} {p : PortId}

/-! ### Notices to the holder -/

theorem State.postHolder_of_holds {q : Resource} (held : s.holds p q = true) (k : NoticeKind) : s.postHolder q k = s.post p k := by
  have holder := of_decide_eq_true held
  unfold State.postHolder
  rw [holder]

/-- A notice told to a session is in its queue where there is room (R166). -/
theorem State.post_holds (isOpen : (s.session p).isOpen = true) (room : (s.port p).notices.items.length < 24) (k : NoticeKind) :
    ((s.post p k).port p).Holds k := by
  rw [State.post_port_same]
  exact Port.tell_holds _ _ _ isOpen room

theorem State.postHolder_holds {q : Resource} (held : s.holds p q = true) (isOpen : (s.session p).isOpen = true)
    (room : (s.port p).notices.items.length < 24) (k : NoticeKind) : ((s.postHolder q k).port p).Holds k := by
  rw [State.postHolder_of_holds held]
  exact State.post_holds isOpen room k

theorem State.Lawful.holder_open (h : s.Lawful) {q : Resource} (held : s.holds p q = true) : (s.session p).isOpen = true :=
  h.claims.owners_open q p ((s.holds_iff p q).mp held).2

theorem State.Told.holds {K : NoticeKind → Prop} {k : Nat} (h : State.Told K k s t) {c : NoticeKind} (holds : (s.port p).Holds c) :
    (t.port p).Holds c := (h.port p).holds holds

theorem State.Told.length_le {K : NoticeKind → Prop} {k : Nat} (h : State.Told K k s t) (p : PortId) :
    (t.port p).notices.items.length ≤ (s.port p).notices.items.length + k := (h.port p).length_le

/-! ### The end of a move -/

theorem State.modGen_modGen (s : State) (g : GenId) (f h : Generator → Generator) :
    (s.modGen g f).modGen g h = s.modGen g fun n => h (f n) := by cases g <;> rfl

theorem State.modGen_congr (s : State) (g : GenId) {f h : Generator → Generator} (same : f (s.gen g) = h (s.gen g)) :
    s.modGen g f = s.modGen g h := by
  unfold State.modGen
  rw [same]

theorem Generator.withoutMove_eq (n : Generator) : n.withoutMove = n.atStandstill n.state := rfl

/-- A generator that settles (R92, point 4), where no give-back clears its trigger (R143). -/
theorem State.settle_gen (s : State) (g : GenId)
    (stands : (s.claim (.generator g)).state = .releasing → (s.gen g).halt = true ∨ (s.gen g).pendingTrigger = false) :
    (s.settle g).gen g = { s.gen g with state := if (s.gen g).halt then .halted else .idle } := by
  unfold State.settle
  split <;> rename_i halt
  · rw [State.modGen_gen_same]
  · rw [State.reportIdle_gen, State.modGen_claim, State.modGen_gen_same]
    split <;> rename_i releasing
    · have trigger := (stands releasing).resolve_left halt
      rw [← trigger]
    · rfl

/-- A move that ends with no record behind it (R92). -/
theorem State.endMove_gen (hm : (s.gen g).current = some m) (empty : (s.gen g).queue = [])
    (stands : (s.claim (.generator g)).state = .releasing → (s.gen g).halt = true ∨ (s.gen g).pendingTrigger = false)
    (cause : EndCause) :
    (s.endMove g cause).gen g = (s.gen g).atStandstill (if (s.gen g).halt then .halted else .idle) := by
  have gen := s.closeMove_gen g cause hm
  unfold State.endMove
  rw [State.nextMove_empty _ g (by rw [State.closeMove_queue]; exact empty), State.settle_gen _ _ (by
    rw [State.closeMove_claim, gen]; exact stands), gen]
  rfl

/-- The end of a move, with the notice of it in the queue of the holder, whatever follows (R92). -/
theorem State.endMove_told (hm : (s.gen g).current = some m) (held : s.holds p (.generator g) = true)
    (isOpen : (s.session p).isOpen = true) (room : (s.port p).notices.items.length < 24) (cause : EndCause) :
    ((s.endMove g cause).port p).Holds
      (.moveEnded g m.record.tag m.record.kind cause (s.gen g).counter m.started (m.endSearch cause)) := by
  have closed := State.postHolder_holds (s := s.modGen g Generator.withoutMove) (p := p) held isOpen room
    (.moveEnded g m.record.tag m.record.kind cause (s.gen g).counter m.started (m.endSearch cause))
  have next := (State.nextMove_only (s.closeMove g cause) g).told
  rw [State.closeMove_some s g cause hm] at next
  unfold State.endMove
  rw [State.closeMove_some s g cause hm]
  exact next.holds closed

/-! ### One step -/

/-- A generator that G1 or G2 is, after one issued step (R84). -/
theorem Generator.stepped_line (off : g ≠ .gv) (n : Generator) (m : CurrentMove) :
    n.stepped g m =
      { n with
        counter := (n.motion m).move n.counter
        current := some (m.stepped (decide (n.state = .searching)))
        backlog := if n.state = .following then n.backlog - 1 else n.backlog
        backlogDir := if n.state = .following then backlogDirection (n.backlog - 1) n.backlogDir else n.backlogDir
        intervalSpeed := n.speed
        firstStepDue := false
        dirLine := n.sense.dirLevel (n.motion m), stepLine := .low, stepPulses := n.stepPulses + 1 } := by
  cases g
  · rfl
  · rfl
  · exact absurd rfl off

theorem Sense.dirLevel_eq (c : Sense) (d : StepDir) : c.dirLevel d = if (d = .up ↔ c = .normal) then .high else .low := by
  cases c <;> cases d <;> rfl

theorem StepDir.move_eq (d : StepDir) (c : Int) : d.move c = if d = .up then c + 1 else c - 1 := by cases d <;> rfl

/-- A step stays within the counter's range where the counter is within it and not at the bound ahead (R85). -/
theorem StepDir.move_inRange {d : StepDir} {c : Int} (range : -2000000000 ≤ c ∧ c ≤ 2000000000)
    (ahead : if d = .up then c < 2000000000 else -2000000000 < c) : inCountRange (d.move c) = true := by
  rw [inCountRange_iff, StepDir.move_eq]
  cases d
  · simp only [if_true] at ahead ⊢
    omega
  · simp only [reduceCtorEq, if_false] at ahead ⊢
    omega

/-- A step with which the move goes on (R84). -/
theorem State.issueStep_goesOn (off : g ≠ .gv) (hm : (s.gen g).current = some m)
    (into : inCountRange (((s.gen g).motion m).move (s.gen g).counter) = true)
    (goes : (m.stepped (decide ((s.gen g).state = .searching))).stepEnd (decide ((s.gen g).state = .searching)) = .goesOn) :
    s.issueStep g = (s.modGen g fun n => n.stepped g m, .goesOn) := by
  rw [State.issueStep_in s g hm into, goes, if_neg off, List.append_nil]
  rfl

/-- The first step of a move that goes on after it (R93). -/
theorem State.firstStep_goesOn (off : g ≠ .gv) (hm : (s.gen g).current = some m)
    (into : inCountRange (((s.gen g).motion m).move (s.gen g).counter) = true)
    (goes : (m.stepped (decide ((s.gen g).state = .searching))).stepEnd (decide ((s.gen g).state = .searching)) = .goesOn) :
    s.firstStep g = (s.modGen g fun n => n.stepped g m, false) := by
  unfold State.firstStep
  rw [if_neg fun c => off c.1, State.issueStep_goesOn off hm into goes]
  rfl

/-! ### The start of a move -/

theorem State.startMove_dwell {ms : Nat} (k : r.kind = .dwell ms) (b : Bool) : s.startMove g r b = (s.startedAt g r b, false) := by
  unfold State.startMove State.startedAt
  rw [k]

theorem State.startMove_velocity {dir : StepDir} {start peak accel decel : Nat} {limit : Option Nat}
    (k : r.kind = .velocity dir start peak accel decel limit) (b : Bool) : s.startMove g r b = (s.startedAt g r b).firstStep g := by
  unfold State.startMove State.startedAt
  rw [k]

theorem State.startMove_home {f : HomeFields} (k : r.kind = .home f) (b : Bool) :
    s.startMove g r b = (s.startedAt g r b).firstStep g := by
  unfold State.startMove State.startedAt
  rw [k]

theorem State.startMove_position {mode : TargetMode} {target : Int} {start peak accel decel : Nat}
    (k : r.kind = .position mode target start peak accel decel) (far : positionDistance mode target (s.gen g).counter ≠ 0) (b : Bool) :
    s.startMove g r b = (s.startedAt g r b).firstStep g := by
  unfold State.startMove State.startedAt
  rw [k]
  exact if_neg far

theorem State.startedAt_told (s : State) (g : GenId) (r : MoveRecord) (b : Bool) : State.Told (GenNotice g) 1 s (s.startedAt g r b) :=
  by
  have only : GenOnly g 1 s (s.startedAt g r b) := s.modGen_postGen_only g _ rfl
  exact only.told

/-- The start of a move, with the notice of it in the queue of the holder (R90). -/
theorem State.startMove_told (held : s.holds p (.generator g) = true) (isOpen : (s.session p).isOpen = true)
    (room : (s.port p).notices.items.length < 24) (r : MoveRecord) (b : Bool) :
    ((s.startMove g r b).1.port p).Holds
      (.moveStarted g r.tag r.kind (s.gen g).counter b (r.kind.startedPhase s.lines)) := by
  have started := State.postHolder_holds (s := s.modGen g fun n => n.started r s.lines) (p := p) held isOpen room
    (.moveStarted g r.tag r.kind (s.gen g).counter b (r.kind.startedPhase s.lines))
  rcases s.startMove_cases g r b with e | e | ⟨cause, e⟩ <;> rw [e]
  · exact started
  · exact ((State.firstStep_only _ g).told).holds started
  · exact ((State.closeMove_only _ g cause).told).holds started

/-- The state with the head of a generator's queue taken, and with it the trigger it waits for (R90). -/
def State.dequeued (s : State) (g : GenId) (r : MoveRecord) (rest : List MoveRecord) : State :=
  (s.modGen g fun n => { n with queue := rest }).consumeTrigger g r

theorem State.dequeued_gen (s : State) (g : GenId) (r : MoveRecord) (rest : List MoveRecord) :
    (s.dequeued g r rest).gen g =
      { s.gen g with
        queue := rest, pendingTrigger := if r.start = .onTrigger then false else (s.gen g).pendingTrigger } := by
  unfold State.dequeued
  rw [State.consumeTrigger_gen, State.modGen_gen_same]

theorem State.dequeued_only (s : State) (g : GenId) (r : MoveRecord) (rest : List MoveRecord) : GenOnly g 0 s (s.dequeued g r rest) :=
  (s.modGen_only g _).trans (State.consumeTrigger_only _ g r)

theorem State.dequeued_claims (s : State) (g : GenId) (r : MoveRecord) (rest : List MoveRecord) :
    (s.dequeued g r rest).claims = s.claims := by
  unfold State.dequeued State.consumeTrigger
  cases r.start <;> rfl

theorem State.dequeued_lines (s : State) (g : GenId) (r : MoveRecord) (rest : List MoveRecord) :
    (s.dequeued g r rest).lines = s.lines := by
  unfold State.dequeued State.consumeTrigger
  cases r.start <;> rfl

/-- A record that waits for its trigger is ARMED (R90). -/
theorem State.nextMove_armed (q : (s.gen g).queue = r :: rest) (waits : r.start = .onTrigger) (untriggered : (s.gen g).pendingTrigger = false) :
    s.nextMove g =
      s.modGen g fun n =>
        { n with
          queue := rest
          state := .armed
          current :=
            some { record := r, started := false, issued := 0, remaining := r.kind.limit, dir := .up, search := none } } := by
  unfold State.nextMove
  rw [q]
  simp only [List.length_cons, State.takeQueue, q]
  rw [if_pos ⟨waits, by rw [State.modGen_gen_same]; exact untriggered⟩, State.modGen_modGen]

/-- The head of the queue starts, unless it waits for its trigger (R90). -/
theorem State.nextMove_starts (q : (s.gen g).queue = r :: rest) (starts : r.start = .immediate ∨ (s.gen g).pendingTrigger = true) :
    s.nextMove g =
      if ((s.dequeued g r rest).startMove g r (decide (r.start = .onTrigger))).2 then
        State.takeQueue g rest.length ((s.dequeued g r rest).startMove g r (decide (r.start = .onTrigger))).1
      else ((s.dequeued g r rest).startMove g r (decide (r.start = .onTrigger))).1 := by
  have go : ¬(r.start = .onTrigger ∧ ((s.modGen g fun n => { n with queue := rest }).gen g).pendingTrigger = false) := by
    rw [State.modGen_gen_same]
    rintro ⟨waits, untriggered⟩
    rcases starts with e | e
    · rw [waits] at e; cases e
    · dsimp only at untriggered; rw [e] at untriggered; cases untriggered
  unfold State.nextMove
  rw [q]
  simp only [List.length_cons, State.takeQueue, q]
  rw [if_neg go]
  rfl

/-- The same where the move goes on after its start. -/
theorem State.nextMove_goesOn (q : (s.gen g).queue = r :: rest) (starts : r.start = .immediate ∨ (s.gen g).pendingTrigger = true)
    (goes : (s.dequeued g r rest).startMove g r (decide (r.start = .onTrigger)) = (u, false)) : s.nextMove g = u := by
  rw [State.nextMove_starts q starts, goes]
  rfl

/-- Whatever the head of the queue comes to, its start is told to the holder (R90). -/
theorem State.nextMove_told (q : (s.gen g).queue = r :: rest) (starts : r.start = .immediate ∨ (s.gen g).pendingTrigger = true)
    (held : s.holds p (.generator g) = true) (isOpen : (s.session p).isOpen = true)
    (room : (s.port p).notices.items.length < 24) :
    ((s.nextMove g).port p).Holds
      (.moveStarted g r.tag r.kind (s.gen g).counter (decide (r.start = .onTrigger)) (r.kind.startedPhase s.lines)) := by
  have only := s.dequeued_only g r rest
  have started := State.startMove_told (s := s.dequeued g r rest) (p := p) (g := g)
    ((State.holds_congr (s.dequeued_claims g r rest) p _).trans held) ((only.told.isOpen p).trans isOpen)
    (lt_of_le_of_lt (only.told.length_le p) room) r (decide (r.start = .onTrigger))
  rw [s.dequeued_lines g r rest, s.dequeued_gen g r rest] at started
  rw [State.nextMove_starts q starts]
  split
  · exact (State.takeQueue_only g _ _).told.holds started
  · exact started

/-! ### What follows a move that has ended (R92, R90) -/

theorem CurrentMove.stepEnd_goesOn {b : Bool} (left : m.remaining ≠ some 0) (search : m.search = none) : m.stepEnd b = .goesOn := by
  unfold CurrentMove.stepEnd
  rw [if_neg left, search]
  cases m.record.kind <;> rfl

theorem Generator.motion_of_velocity {dir : StepDir} {start peak accel decel : Nat} {limit : Option Nat}
    (k : m.record.kind = .velocity dir start peak accel decel limit) (n : Generator) : n.motion m = m.dir := by
  unfold Generator.motion
  rw [k]

theorem Generator.started_velocity {dir : StepDir} {start peak accel decel : Nat} {limit : Option Nat}
    (k : r.kind = .velocity dir start peak accel decel limit) (n : Generator) (lines : InputLines) :
    n.started r lines =
      { n with
        state := .running, phase := some (startPhase start peak), speed := start, rampLeft := some 1,
        endByNext := !n.queue.isEmpty,
        current := some { record := r, started := true, issued := 0, remaining := limit, dir := dir, search := none } } := by
  unfold Generator.started
  rw [k]

theorem Generator.started_dwell {ms : Nat} (k : r.kind = .dwell ms) (n : Generator) (lines : InputLines) :
    n.started r lines =
      { n with
        state := .dwelling, dwellLeft := some ms
        current := some { record := r, started := true, issued := 0, remaining := none, dir := .up, search := none } } := by
  unfold Generator.started
  rw [k]

/-- A move of G1 or G2 that starts with its first step and goes on (R93). -/
theorem State.startMove_steps (off : g ≠ .gv) {b : Bool} (first : s.startMove g r b = (s.startedAt g r b).firstStep g)
    (hm : ((s.gen g).started r s.lines).current = some m)
    (into : inCountRange ((((s.gen g).started r s.lines).motion m).move (s.gen g).counter) = true)
    (goes : (m.stepped (decide (r.kind.startState = .searching))).stepEnd (decide (r.kind.startState = .searching)) = .goesOn) :
    ∃ u, s.startMove g r b = (u, false) ∧ u.gen g = ((s.gen g).started r s.lines).stepped g m := by
  have counter := ((s.gen g).started_keeps r s.lines).2.2.1
  have step := State.firstStep_goesOn (s := s.startedAt g r b) (g := g) (m := m) off (by rw [State.startedAt_gen]; exact hm)
    (by rw [State.startedAt_gen, counter]; exact into) (by rw [State.startedAt_gen, Generator.started_state]; exact goes)
  refine ⟨_, first.trans step, ?_⟩
  rw [State.modGen_gen_same, State.startedAt_gen]

/-- A VELOCITY move without a distance limit starts with its first step (R96, R93). -/
theorem State.startMove_unlimited {dir : StepDir} {start peak accel decel : Nat} (off : g ≠ .gv)
    (k : r.kind = .velocity dir start peak accel decel none) (low : -2000000000 < (s.gen g).counter)
    (high : (s.gen g).counter < 2000000000) (b : Bool) :
    ∃ u, s.startMove g r b = (u, false) ∧
      u.gen g =
        ((s.gen g).started r s.lines).stepped g
          { record := r, started := true, issued := 0, remaining := none, dir := dir, search := none } :=
  State.startMove_steps off (State.startMove_velocity k b) (by rw [Generator.started_velocity k])
    (by rw [Generator.motion_of_velocity k]; exact StepDir.move_inRange ⟨by omega, by omega⟩ (by split <;> assumption))
    (CurrentMove.stepEnd_goesOn nofun rfl)

/-- What a generator comes to as its move has ended, by the records that wait (R92, R90). -/
theorem State.nextMove_follows {waiting : List MoveRecord} (n : Generator) (queue : n.queue = waiting)
    (gen : s.gen g = n.withoutMove)
    (stands : (s.claim (.generator g)).state = .releasing → n.halt = true ∨ n.pendingTrigger = false) :
    n.Follows g waiting ((s.nextMove g).gen g) := by
  subst queue
  refine ⟨fun empty => ?_, fun h rest q => ?_⟩
  · rw [State.nextMove_empty _ g (by rw [gen]; exact empty), State.settle_gen _ _ (by rw [gen]; exact stands), gen, ← empty]
    rfl
  · have q' : (s.gen g).queue = h :: rest := by rw [gen]; exact q
    have trigger : (s.gen g).pendingTrigger = n.pendingTrigger := by rw [gen]; rfl
    have dequeued := s.dequeued_gen g h rest
    refine ⟨fun waits => ?_, fun ms starts k => ?_, fun dir start peak accel decel starts k off low high => ?_⟩
    · have later : h.start = .onTrigger := by
        cases e : h.start with
        | onTrigger => rfl
        | immediate => exact absurd (.inl e) waits
      rw [State.nextMove_armed q' later (trigger.trans (Bool.eq_false_iff.mpr fun e => waits (.inr e))), State.modGen_gen_same, gen]
      unfold MoveKind.limit
      cases h.kind <;> rfl
    · rw [State.nextMove_goesOn q' (starts.imp id trigger.trans) (State.startMove_dwell k _), State.startedAt_gen,
        Generator.started_dwell k, dequeued, gen]
      rfl
    · have counter : ((s.dequeued g h rest).gen g).counter = n.counter := by rw [dequeued, gen]; rfl
      obtain ⟨u, start, ugen⟩ := State.startMove_unlimited (s := s.dequeued g h rest) off k (by rw [counter]; exact low)
        (by rw [counter]; exact high) (decide (h.start = .onTrigger))
      rw [State.nextMove_goesOn q' (starts.imp id trigger.trans) start, ugen, Generator.started_velocity k, Generator.stepped_line off,
        Generator.motion_of_velocity k, dequeued, gen]
      exact ⟨rfl, rfl, rfl, rfl, rfl, by cases rest <;> rfl, rfl, StepDir.move_eq dir n.counter⟩

/-- What a generator follows its move with does not depend on the queue before (R92). -/
theorem Generator.Follows.of_queue {n t : Generator} {l waiting : List MoveRecord}
    (h : ({ n with queue := l } : Generator).Follows g waiting t) : n.Follows g waiting t := h

/-- The head of a queue brings no count event of axis V about as it is taken: it is not at GV, it waits, or it is a DWELL move. -/
def State.TakenQuietly (s : State) (g : GenId) : Prop :=
  g ≠ .gv ∨
    ∀ h rest, (s.gen g).queue = h :: rest →
      h.start = .onTrigger ∧ (s.gen g).pendingTrigger = false ∨ ∃ ms, h.kind = .dwell ms

theorem GenOnly.vEvents {k : Nat} (h : GenOnly g k s t) (off : g ≠ .gv) : t.vEvents = s.vEvents := by
  obtain ⟨l, events, none⟩ := h.events
  rw [events, none off, List.append_nil]

theorem State.dequeued_vEvents (s : State) (g : GenId) (r : MoveRecord) (rest : List MoveRecord) :
    (s.dequeued g r rest).vEvents = s.vEvents := by
  unfold State.dequeued State.consumeTrigger
  cases r.start <;> rfl

theorem State.nextMove_vEvents (quiet : s.TakenQuietly g) : (s.nextMove g).vEvents = s.vEvents := by
  rcases quiet with off | head
  · exact (s.nextMove_only g).vEvents off
  · cases q : (s.gen g).queue with
    | nil => rw [State.nextMove_empty _ g q, State.settle_vEvents]
    | cons h rest =>
      by_cases waits : h.start = .onTrigger ∧ (s.gen g).pendingTrigger = false
      · rw [State.nextMove_armed q waits.1 waits.2]
        rfl
      · obtain ⟨ms, k⟩ := (head h rest q).resolve_left waits
        have starts : h.start = .immediate ∨ (s.gen g).pendingTrigger = true := by
          cases e : h.start with
          | immediate => exact .inl rfl
          | onTrigger => exact .inr (Bool.not_eq_false _ ▸ fun f => waits ⟨e, f⟩)
        rw [State.nextMove_goesOn q starts (State.startMove_dwell k _)]
        exact (State.postGen_vEvents _ _ _).trans (s.dequeued_vEvents g h rest)

/-- The same where the count events that the next move brings about have been taken. -/
theorem State.drained_follows {waiting : List MoveRecord} (n : Generator) (queue : n.queue = waiting)
    (gen : s.gen g = n.withoutMove) (settled : s.vEvents = [])
    (stands : (s.claim (.generator g)).state = .releasing → n.halt = true ∨ n.pendingTrigger = false) :
    n.Follows g waiting ((s.nextMove g).drain.gen g) := by
  have follows := State.nextMove_follows n queue gen stands
  have drained (quiet : s.TakenQuietly g) : (s.nextMove g).drain = s.nextMove g :=
    State.drain_settled _ ((State.nextMove_vEvents quiet).trans settled)
  have queue' : (s.gen g).queue = waiting := by rw [gen]; exact queue
  have trigger : (s.gen g).pendingTrigger = n.pendingTrigger := by rw [gen]; rfl
  refine ⟨fun empty => ?_, fun h rest q => ⟨fun waits => ?_, fun ms starts k => ?_, fun dir start peak accel decel starts k off => ?_⟩⟩
  · rw [drained (.inr fun h rest q => by rw [queue', empty] at q; cases q)]
    exact follows.1 empty
  · rw [drained (.inr fun h' rest' q' => by
      rw [queue', q] at q'
      cases q'
      cases e : h.start with
      | immediate => exact absurd (.inl e) waits
      | onTrigger => exact .inl ⟨rfl, trigger.trans (Bool.eq_false_iff.mpr fun f => waits (.inr f))⟩)]
    exact (follows.2 h rest q).1 waits
  · rw [drained (.inr fun h' rest' q' => by
      rw [queue', q] at q'
      cases q'
      exact .inr ⟨ms, k⟩)]
    exact (follows.2 h rest q).2.1 ms starts k
  · rw [drained (.inl off)]
    exact (follows.2 h rest q).2.2 dir start peak accel decel starts k off

/-- A move that ends with ENDED_BY_NEXT, in a state that differs from the one before it in the queue and in the ramp timer (R92). -/
theorem State.Lawful.endedByNext (lawful : s.Lawful) (hm : (s.gen g).current = some m) (plain : m.endSearch .endedByNext = none)
    {waiting : List MoveRecord} {ramp : Option Nat} (gen : u.gen g = { s.gen g with queue := waiting, rampLeft := ramp })
    (claims : u.claims = s.claims) (opens : ∀ p, (u.session p).isOpen = (s.session p).isOpen)
    (notices : ∀ p, (u.port p).notices = (s.port p).notices) (settled : u.vEvents = []) :
    s.EndedByNext (u.endMove g .endedByNext).drain g m waiting := by
  have hm' : (u.gen g).current = some m := by rw [gen]; exact hm
  have closed := u.closeMove_gen g .endedByNext hm'
  have fits := s.gensLawful_iff.mp lawful.gens g
  have trigger (c : (s.claim (.generator g)).state = .releasing) : (s.gen g).pendingTrigger = false :=
    (fits.lawful.stopped_empty (fits.releasing_stops c).symm).2
  have drained : State.Told (fun _ => True) _ (u.endMove g .endedByNext) (u.endMove g .endedByNext).drain :=
    (State.drain_keeps _).told.choose_spec
  refine ⟨?_, fun p held => ?_⟩
  · refine Generator.Follows.of_queue (l := waiting) ?_
    refine State.drained_follows (s := u.closeMove g .endedByNext) { s.gen g with queue := waiting } rfl ?_ ?_ ?_
    · rw [closed, gen]
      rfl
    · rw [State.closeMove_vEvents, settled]
    · intro releasing
      rw [State.closeMove_claim, State.claim_congr claims] at releasing
      exact .inr (trigger releasing)
  · have held' : u.holds p (.generator g) = true := (State.holds_congr claims p _).trans held
    have isOpen : (u.session p).isOpen = true := (opens p).trans (lawful.holder_open held)
    have counter : (u.gen g).counter = (s.gen g).counter := by rw [gen]
    refine ⟨fun room => ?_, fun h rest q starts room => ?_⟩
    · have ended := State.endMove_told hm' held' isOpen (by rw [notices]; exact room) .endedByNext
      rw [plain, counter] at ended
      exact drained.holds ended
    · have only := State.closeMove_only u g .endedByNext
      have q' : ((u.closeMove g .endedByNext).gen g).queue = h :: rest := by rw [closed, gen]; exact q
      have starts' : h.start = .immediate ∨ ((u.closeMove g .endedByNext).gen g).pendingTrigger = true := by
        rw [closed, gen]
        exact starts
      have closeClaims : (u.closeMove g .endedByNext).holds p (.generator g) = true := by
        rw [State.holds_iff, State.closeMove_claim]
        exact (State.holds_iff _ _ _).mp held'
      have started := State.nextMove_told (p := p) q' starts' closeClaims ((only.told.isOpen p).trans isOpen)
        (lt_of_le_of_lt (only.told.length_le p) (by rw [notices]; omega))
      have same : ((u.closeMove g .endedByNext).gen g).counter = (s.gen g).counter := by
        rw [closed, gen]
        rfl
      rw [same] at started
      obtain ⟨k, mem, kind⟩ := drained.holds started
      exact ⟨k, mem, _, kind⟩

end Sys2Proof.Machine
end

section
/-! SUPPORT. The generator requests (R104 to R107). -/

namespace Sys2Proof.Machine

variable {s t u : State} {g : GenId} {m : CurrentMove} {r : MoveRecord} {p : PortId} {seq gen : Byte} {raw : RawMove}

/-! ### The requests by their cases -/

theorem configureGeneratorRequest_eq {maxRate : Word} {stopDecel haltDecel : Half} {sense : Byte} {d : Sense} (hg : genOf gen = some g)
    (held : s.holds p (.generator g) = true) (low : 2 ≤ maxRate.toNat) (high : maxRate.toNat ≤ 250000) (hs : stopDecel ≠ 0)
    (hh : haltDecel ≠ 0) (hd : senseOf sense = some d) :
    configureGeneratorRequest p gen maxRate stopDecel haltDecel sense s =
      if (s.gen g).state = .idle then
        (s.modGen g fun n =>
          { n with maxRate := maxRate.toNat, stopDecel := stopDecel.toNat, haltDecel := haltDecel.toNat, sense := d }, .only .done)
      else (s, .only .busy) := by
  have rate {h : Half} (k : h ≠ 0) : rateOf h = some h.toNat := if_pos (by bv_omega)
  have max : maxRateOf maxRate = some maxRate.toNat := if_pos ⟨low, high⟩
  unfold configureGeneratorRequest
  rw [State.genRequest_held hg held, max, rate hs, rate hh, hd]

theorem setGeneratorPositionRequest_eq {value : Word} (hg : genOf gen = some g) (held : s.holds p (.generator g) = true)
    (low : -2000000000 ≤ value.toInt) (high : value.toInt ≤ 2000000000) :
    setGeneratorPositionRequest p gen value s =
      if (s.gen g).state = .idle then (s.modGen g fun n => { n with counter := value.toInt }, .only .done)
      else (s, .only .busy) := by
  have count : countOf value = some value.toInt := if_pos ((inCountRange_iff _).mpr ⟨low, high⟩)
  unfold setGeneratorPositionRequest
  rw [State.genRequest_held hg held, count]

theorem triggerGeneratorRequest_eq (hg : genOf gen = some g) (held : s.holds p (.generator g) = true) :
    triggerGeneratorRequest p gen s =
      if s.halt = .clear then (s.trigger g .request, .only .done) else (s, .only .halted) := by
  unfold triggerGeneratorRequest
  rw [State.genRequest_held hg held]

theorem stopGeneratorRequest_ramp (hg : genOf gen = some g) (held : s.holds p (.generator g) = true) :
    stopGeneratorRequest p gen 0 s = (s.rampStop g, .only .done) := by
  unfold stopGeneratorRequest
  rw [State.genRequest_held hg held]
  rfl

theorem stopGeneratorRequest_finish (hg : genOf gen = some g) (held : s.holds p (.generator g) = true) :
    stopGeneratorRequest p gen 1 s = (s.flush g, .only .done) := by
  unfold stopGeneratorRequest
  rw [State.genRequest_held hg held]
  rfl

theorem appendMoveRequest_eq (hg : genOf gen = some g) (held : s.holds p (.generator g) = true) :
    appendMoveRequest p gen raw s =
      if (s.gen g).halt then (s, .only .halted)
      else if (s.gen g).state = .stopping then (s, .only .busy)
      else
        (moveOf g (s.gen g).maxRate raw).elim (s, .only .badValue) fun r =>
          if Config.movePlaces ≤ (s.gen g).queue.length then (s, .only .queueFull)
          else (s.append g r, .done (bytesOf 1 ((s.append g r).gen g).queue.length)) := by
  unfold appendMoveRequest
  rw [State.genRequest_held hg held]
  cases moveOf g (s.gen g).maxRate raw <;> rfl

/-! ### Their commands -/

section commands

variable (h : s.ServesSession p seq) (hg : genOf gen = some g) (held : s.holds p (.generator g) = true)
include h hg held

theorem exec_appendMove_halted (halt : (s.gen g).halt = true) :
    exec (.appendMove p seq gen raw) s = .next ((s.received p seq (.appendMove gen raw)).answered p seq [0x61, 0x24]) := by
  have row := appendMoveRequest_eq (s := s.received p seq (.appendMove gen raw)) (raw := raw) hg held
  have x := exec_only (c := .appendMove p seq gen raw) h rfl rfl nofun nofun (row.trans (if_pos halt))
  exact x

theorem exec_appendMove_stopping (halt : (s.gen g).halt = false) (state : (s.gen g).state = .stopping) :
    exec (.appendMove p seq gen raw) s = .next ((s.received p seq (.appendMove gen raw)).answered p seq [0x61, 0x23]) := by
  have row := appendMoveRequest_eq (s := s.received p seq (.appendMove gen raw)) (raw := raw) hg held
  have x := exec_only (c := .appendMove p seq gen raw) h rfl rfl nofun nofun
    (row.trans ((if_neg (Bool.eq_false_iff.mp halt)).trans (if_pos state)))
  exact x

variable (halt : (s.gen g).halt = false) (state : (s.gen g).state ≠ .stopping) (hr : moveOf g (s.gen g).maxRate raw = some r)
include halt state hr

theorem exec_appendMove_full (full : 8 ≤ (s.gen g).queue.length) :
    exec (.appendMove p seq gen raw) s = .next ((s.received p seq (.appendMove gen raw)).answered p seq [0x61, 0x31]) := by
  have row := appendMoveRequest_eq (s := s.received p seq (.appendMove gen raw)) (raw := raw) hg held
  have known : moveOf g ((s.received p seq (.appendMove gen raw)).gen g).maxRate raw = some r := hr
  rw [known] at row
  have x := exec_only (c := .appendMove p seq gen raw) h rfl rfl nofun nofun
    (row.trans ((if_neg (Bool.eq_false_iff.mp halt)).trans ((if_neg state).trans (if_pos full))))
  exact x

/-- A valid record that finds room joins the queue, and what follows at once is taken (R105). -/
theorem exec_appendMove (room : (s.gen g).queue.length < 8) :
    exec (.appendMove p seq gen raw) s =
      .next
        ((((s.received p seq (.appendMove gen raw)).append g r).drain).answered p seq
          [0x61, 0x00, BitVec.ofNat 8 (((s.received p seq (.appendMove gen raw)).append g r).gen g).queue.length]) := by
  have row := appendMoveRequest_eq (s := s.received p seq (.appendMove gen raw)) (raw := raw) hg held
  have known : moveOf g ((s.received p seq (.appendMove gen raw)).gen g).maxRate raw = some r := hr
  rw [known] at row
  have part := row.trans ((if_neg (Bool.eq_false_iff.mp halt)).trans ((if_neg state).trans (if_neg (Nat.not_le.mpr room))))
  rw [bytesOf_one] at part
  have x := exec_passed (c := .appendMove p seq gen raw) h.toServes rfl (State.commonCheck_listed h.session_open rfl) nofun nofun
  rw [show (s.received p seq (.appendMove gen raw)).perform p (.appendMove gen raw) = _ from part] at x
  exact x

end commands

/-- The same where no count event of axis V is brought about. -/
theorem exec_appendMove_quiet (h : s.ServesSession p seq) (hg : genOf gen = some g) (held : s.holds p (.generator g) = true)
    (halt : (s.gen g).halt = false) (state : (s.gen g).state ≠ .stopping) (hr : moveOf g (s.gen g).maxRate raw = some r)
    (room : (s.gen g).queue.length < 8) (part : (s.received p seq (.appendMove gen raw)).append g r = u) (events : u.vEvents = []) :
    exec (.appendMove p seq gen raw) s = .next (u.answered p seq [0x61, 0x00, BitVec.ofNat 8 (u.gen g).queue.length]) := by
  have x := exec_appendMove h hg held halt state hr room
  rw [part, State.drain_settled _ events] at x
  exact x

/-! ### The record appended -/

theorem State.append_idle (idle : (s.gen g).state = .idle) (r : MoveRecord) :
    s.append g r = (s.modGen g fun n => { n with queue := n.queue ++ [r] }).nextMove g := by
  unfold State.append
  exact if_pos idle

theorem State.modGen_id (s : State) (g : GenId) : s.modGen g id = s := by cases g <;> rfl

/-- A record that starts at once on an IDLE generator (R105, R90). -/
theorem State.append_starts (idle : (s.gen g).state = .idle) (empty : (s.gen g).queue = []) (immediate : r.start = .immediate)
    (goes : s.startMove g r false = (u, false)) : s.append g r = u := by
  have q : ((s.modGen g fun n => { n with queue := n.queue ++ [r] }).gen g).queue = r :: [] := by
    rw [State.modGen_gen_same, empty]
    rfl
  have same : (s.modGen g fun n => { n with queue := n.queue ++ [r] }).dequeued g r [] = s := by
    unfold State.dequeued State.consumeTrigger
    rw [immediate]
    dsimp only
    rw [State.modGen_modGen]
    refine (State.modGen_congr s g (h := id) ?_).trans (s.modGen_id g)
    dsimp only
    rw [← empty]
    rfl
  rw [State.append_idle idle, State.nextMove_goesOn q (.inl immediate)]
  rw [same, immediate]
  exact goes

theorem State.append_behind (busy : (s.gen g).state ≠ .idle) (hm : (s.gen g).current = some m) (kind : m.record.kind.code ≠ 2) (r : MoveRecord) :
    s.append g r =
      s.modGen g fun n =>
        { n with
          queue := n.queue ++ [r]
          endByNext := if m.record.kind.code = 1 ∧ n.state = .running then true else n.endByNext } := by
  unfold State.append
  dsimp only
  rw [if_neg busy, hm]
  dsimp only
  cases k : m.record.kind with
  | velocity =>
    by_cases running : (s.gen g).state = .running
    · rw [if_pos running, State.modGen_modGen]
      refine State.modGen_congr s g ?_
      rw [if_pos ⟨rfl, running⟩]
    · rw [if_neg running]
      refine State.modGen_congr s g ?_
      rw [if_neg fun c => running c.2]
  | follow => rw [k] at kind; exact absurd rfl kind
  | _ => rfl

theorem State.append_follow (busy : (s.gen g).state ≠ .idle) (hm : (s.gen g).current = some m) (kind : m.record.kind.code = 2) (r : MoveRecord) :
    s.append g r = (s.modGen g fun n => { n with queue := n.queue ++ [r] }).endMove g .endedByNext := by
  unfold State.append
  dsimp only
  rw [if_neg busy, hm]
  dsimp only
  cases k : m.record.kind with
  | follow => rfl
  | _ =>
    rw [k] at kind
    simp only [MoveKind.code] at kind
    exact absurd kind (by decide)

/-- A lawful generator in IDLE (R86): no halt in force there, no move and no queue. -/
theorem State.Lawful.idle_bare (h : s.Lawful) (idle : (s.gen g).state = .idle) :
    (s.gen g).halt = false ∧ (s.gen g).state ≠ .stopping ∧ (s.gen g).current = none ∧ (s.gen g).queue = [] := by
  have lawful := (s.gensLawful_iff.mp h.gens g).lawful
  obtain ⟨none, empty⟩ := lawful.atRest_empty (by rw [idle]; rfl)
  refine ⟨Bool.eq_false_iff.mpr fun e => ?_, by rw [idle]; decide, none, empty⟩
  rcases lawful.halt_stops e with k | k <;> rw [idle] at k <;> cases k

theorem State.Lawful.moving_unhalted (h : s.Lawful) (state : (s.gen g).state ≠ .halted) (k : (s.gen g).state ≠ .stopping) :
    (s.gen g).halt = false :=
  Bool.eq_false_iff.mpr fun e => ((s.gensLawful_iff.mp h.gens g).lawful.halt_stops e).elim state k

end Sys2Proof.Machine
end

section
/-! SUPPORT. What Append Move, Stop Generator and Trigger Generator come to. -/

namespace Sys2Proof.Machine

variable {s t u : State} {g : GenId} {m : CurrentMove} {r : MoveRecord} {p : PortId} {seq gen : Byte} {raw : RawMove}

/-! ### Append Move (R105) -/

/-- The response to a request changes nothing of what a move's end left. -/
theorem State.EndedByNext.answered {waiting : List MoveRecord} (h : s.EndedByNext t g m waiting) (p : PortId) (seq : Byte) (body : List Byte) :
    s.EndedByNext (t.answered p seq body) g m waiting := by
  obtain ⟨follows, told⟩ := h
  refine ⟨follows, fun q held => ⟨fun room => ?_, fun h rest e starts room => ?_⟩⟩ <;> rw [State.answered_notices]
  · exact (told q held).1 room
  · exact (told q held).2 h rest e starts room

theorem CurrentMove.endSearch_of_code (k : m.record.kind.code ≠ 4) (cause : EndCause) : m.endSearch cause = none := by
  unfold CurrentMove.endSearch
  cases e : m.record.kind with
  | home f => rw [e] at k; exact absurd rfl k
  | _ => rfl

/-- Settles O56: the refusals, and the record behind the move or in its place. -/
theorem appendMoveJoinsTheQueue : Obligations.AppendMoveJoinsTheQueue := by
  intro s p seq gen g raw h lawful hg held
  refine ⟨exec_appendMove_halted h hg held, exec_appendMove_stopping h hg held, fun r halt state hr => ⟨fun full => ?_,
    fun m room hm kind => ?_, fun m head rest room hm kind waiting => ?_, fun idle waits untriggered => ?_⟩⟩
  · exact exec_appendMove_full h hg held halt state hr full.ge
  · have busy : (s.gen g).state ≠ .idle := fun idle => by
      rw [(lawful.idle_bare idle).2.2.1] at hm
      cases hm
    have part := State.append_behind (s := s.received p seq (.appendMove gen raw)) busy hm kind r
    have x := exec_appendMove_quiet h hg held halt state hr room part h.settled
    rw [State.modGen_gen_same, List.length_append] at x
    refine x.trans ?_
    rw [State.modGen_congr _ g rfl]
    rfl
  · have busy : (s.gen g).state ≠ .idle := fun idle => by
      rw [(lawful.idle_bare idle).2.2.1] at hm
      cases hm
    let joined := (s.received p seq (.appendMove gen raw)).modGen g fun n => { n with queue := n.queue ++ [r] }
    have joinedGen : joined.gen g = { s.gen g with queue := head :: rest } := by
      rw [← waiting]
      exact State.modGen_gen_same _ _ _
    have hm' : (joined.gen g).current = some m := by rw [joinedGen]; exact hm
    have part : (s.received p seq (.appendMove gen raw)).append g r = joined.endMove g .endedByNext :=
      State.append_follow (s := s.received p seq (.appendMove gen raw)) busy hm kind r
    have settled : joined.vEvents = [] := h.settled
    have x := exec_appendMove h hg held halt state hr room
    rw [part] at x
    have ended := lawful.endedByNext (u := joined) hm (CurrentMove.endSearch_of_code (by rw [kind]; decide) _)
      (ramp := (s.gen g).rampLeft) joinedGen rfl (fun q => s.received_isOpen p q seq _) (fun q => s.received_notices p q seq _) settled
    refine ⟨_, x, ended.answered p seq _, fun quiet => ?_⟩
    have closed := joined.closeMove_gen g .endedByNext hm'
    have taken : (joined.closeMove g .endedByNext).TakenQuietly g := by
      refine quiet.imp id fun k h' rest' q => ?_
      rw [closed, joinedGen] at q ⊢
      cases q
      exact k
    have drained : (joined.endMove g .endedByNext).drain = joined.endMove g .endedByNext :=
      State.drain_settled _ ((State.nextMove_vEvents taken).trans ((State.closeMove_vEvents _ _ _).trans settled))
    rw [State.answered_cache, drained]
    rfl
  · obtain ⟨-, -, -, empty⟩ := lawful.idle_bare idle
    let u := s.received p seq (.appendMove gen raw)
    have q : ((u.modGen g fun n => { n with queue := n.queue ++ [r] }).gen g).queue = r :: [] := by
      rw [State.modGen_gen_same]
      exact congrArg (· ++ [r]) empty
    have part := (State.append_idle (s := u) idle r).trans
      (State.nextMove_armed q waits (by rw [State.modGen_gen_same]; exact untriggered))
    have x := exec_appendMove_quiet h hg held halt state hr (by rw [empty]; decide) part h.settled
    rw [State.modGen_gen_same] at x
    refine x.trans ?_
    rw [State.modGen_modGen]
    refine congrArg (fun v : State => Host.Outcome.next (v.answered p seq [0x61, 0x00, 0])) (State.modGen_congr u g ?_)
    have same : (u.gen g).queue = [] := empty
    dsimp only
    rw [← same]
    unfold MoveKind.limit
    cases r.kind <;> rfl

/-! ### Moves that start as they are appended (R90, R93) -/

/-- An IMMEDIATE record appended to an IDLE generator, where the move goes on after its start and brings no count event of axis V
about (R105, R90). -/
theorem exec_appendMove_starts (h : s.ServesSession p seq) (lawful : s.Lawful) (hg : genOf gen = some g)
    (held : s.holds p (.generator g) = true) (idle : (s.gen g).state = .idle) (hr : moveOf g (s.gen g).maxRate raw = some r)
    (immediate : r.start = .immediate)
    (goes : (s.received p seq (.appendMove gen raw)).startMove g r false = (u, false)) (events : u.vEvents = []) :
    ∃ t, exec (.appendMove p seq gen raw) s = .next t ∧ t.gen g = u.gen g ∧ (∀ h, h ≠ g → t.gen h = s.gen h) ∧ t.axes = s.axes := by
  obtain ⟨halt, state, -, empty⟩ := lawful.idle_bare idle
  have only := State.startMove_only (s.received p seq (.appendMove gen raw)) g r false
  rw [goes] at only
  have part := State.append_starts (s := s.received p seq (.appendMove gen raw)) idle empty immediate goes
  exact ⟨_, exec_appendMove_quiet h hg held halt state hr (by rw [empty]; decide) part events, rfl, only.others, only.move.axes⟩

theorem Generator.started_position {mode : TargetMode} {target : Int} {start peak accel decel : Nat}
    (k : r.kind = .position mode target start peak accel decel) (n : Generator) (lines : InputLines) :
    n.started r lines =
      { n with
        state := .running, phase := some (startPhase start peak), speed := start, rampLeft := some 1, endByNext := false
        current :=
          some
            { record := r, started := true, issued := 0, remaining := some (positionDistance mode target n.counter).natAbs
              dir := distanceDir (positionDistance mode target n.counter), search := none } } := by
  unfold Generator.started
  rw [k]

theorem positionDistance_eq (mode : TargetMode) (target c : Int) :
    positionDistance mode target c = if mode = .relative then target else target - c := by cases mode <;> rfl

/-- Settles O57: the distance is two steps at least, so the move goes on after its first. -/
theorem positionMoveStartsWithItsFirstStep : Obligations.PositionMoveStartsWithItsFirstStep := by
  intro s p seq gen g raw r mode target start peak accel decel off h lawful hg held idle hr immediate kind c distance dir far low high
    _ _
  let u := s.received p seq (.appendMove gen raw)
  have same : positionDistance mode target c = distance := positionDistance_eq mode target c
  have started := (u.gen g).started_position kind u.lines
  have first := State.startMove_position (s := u) (g := g) kind (by
    change positionDistance mode target c ≠ 0
    rw [same]
    omega) false
  have motion (n : Generator) (m : CurrentMove) (e : m.record = r) : n.motion m = m.dir := by
    unfold Generator.motion
    rw [e, kind]
  obtain ⟨v, goes, gen⟩ := State.startMove_steps off first (by rw [started]) (by
      rw [motion _ _ rfl]
      change inCountRange ((distanceDir (positionDistance mode target c)).move c) = true
      rw [same, inCountRange_iff, StepDir.move_eq]
      unfold distanceDir
      split <;> simp only [reduceCtorEq, if_true, if_false] <;> omega)
    (CurrentMove.stepEnd_goesOn (by
      change some ((positionDistance mode target c).natAbs - 1) ≠ some 0
      rw [same]
      intro e
      have := Option.some.inj e
      omega) rfl)
  have only := State.startMove_only u g r false
  rw [goes] at only
  obtain ⟨t, x, tgen, others, axes⟩ := exec_appendMove_starts h lawful hg held idle hr immediate goes
    ((only.vEvents off).trans h.settled)
  refine ⟨t, x, ?_, others, axes⟩
  have counter : (u.gen g).counter = c := rfl
  rw [tgen, gen, started, Generator.stepped_line off, motion _ _ rfl, Sense.dirLevel_eq, StepDir.move_eq, counter, same]
  rfl

theorem Generator.started_home {f : HomeFields} (k : r.kind = .home f) (n : Generator) (lines : InputLines) :
    n.started r lines =
      { n with
        state := .searching, speed := f.creepSpeed, rampLeft := some 1
        current :=
          some
            { record := r, started := true, issued := 0, remaining := none, dir := f.direction
              search := some (f.startSearch (lines.ref f.line)) } } := by
  unfold Generator.started
  rw [k]

/-- A HOME record that Append Move accepts has a search limit of one step at least (R114). -/
theorem moveOf_home_limit {maxRate : Nat} {f : HomeFields} (h : moveOf g maxRate raw = some r) (k : r.kind = .home f) : 1 ≤ f.limit := by
  unfold moveOf at h
  split at h <;> cases h
  rename_i kind
  dsimp only at k
  subst k
  unfold moveKindOf at kind
  split at kind
  · unfold positionKindOf at kind; split at kind <;> cases kind
  · unfold velocityKindOf at kind; split at kind <;> cases kind
  · unfold followKindOf at kind
    dsimp only at kind
    split at kind
    · split at kind <;> cases kind
    · cases kind
  · unfold dwellKindOf at kind
    dsimp only at kind
    split at kind <;> cases kind
  · unfold homeKindOf at kind
    split at kind
    · split at kind
      · cases kind
      · split at kind <;> cases kind
        rename_i valid
        exact valid.2.2.1
    · cases kind
  · cases kind

/-- The direction in which a search starts (R116): away from the reference where its line is high. -/
theorem HomeFields.startSearch_motion (f : HomeFields) (high : Bool) :
    (f.startSearch high).motion = if (if high then decide (f.direction = .down) else decide (f.direction = .up)) then .up else .down := by
  unfold HomeFields.startSearch StepDir.opposite
  cases high <;> cases f.direction <;> rfl

/-- A HOME move of G1 or G2 that starts as it is appended (R116, R93). -/
theorem exec_appendMove_home {f : HomeFields} (off : g ≠ .gv) (h : s.ServesSession p seq) (lawful : s.Lawful) (hg : genOf gen = some g)
    (held : s.holds p (.generator g) = true) (idle : (s.gen g).state = .idle) (hr : moveOf g (s.gen g).maxRate raw = some r)
    (immediate : r.start = .immediate) (kind : r.kind = .home f) (low : -2000000000 < (s.gen g).counter)
    (high : (s.gen g).counter < 2000000000) :
    ∃ t, exec (.appendMove p seq gen raw) s = .next t ∧
      t.gen g =
        ((s.gen g).started r s.lines).stepped g
          { record := r, started := true, issued := 0, remaining := none, dir := f.direction
            search := some (f.startSearch (s.lines.ref f.line)) } ∧
      t.axes = s.axes := by
  let u := s.received p seq (.appendMove gen raw)
  obtain ⟨v, goes, vgen⟩ := State.startMove_steps (s := u) off (State.startMove_home kind false)
    (by rw [Generator.started_home kind])
    (StepDir.move_inRange ⟨low.le, high.le⟩ (by split <;> assumption))
    (by
      have limit := moveOf_home_limit hr kind
      rw [kind]
      unfold CurrentMove.stepEnd
      rw [if_neg nofun, show CurrentMove.record _ = r from rfl, kind]
      exact if_neg fun c => absurd (show f.limit < 1 from c.2) (by omega))
  have only := State.startMove_only u g r false
  rw [goes] at only
  obtain ⟨t, x, tgen, -, axes⟩ := exec_appendMove_starts h lawful hg held idle hr immediate goes ((only.vEvents off).trans h.settled)
  exact ⟨t, x, tgen.trans vgen, axes⟩

end Sys2Proof.Machine
end

section
/-! SUPPORT. Stop Generator, Trigger Generator and the generator's settings (R91, R103, R104, R106, R107). -/

namespace Sys2Proof.Machine

variable {s t u : State} {g : GenId} {m : CurrentMove} {r : MoveRecord} {p : PortId} {seq gen : Byte}

/-! ### Stop Generator -/

theorem State.flush_axes (s : State) (g : GenId) : (s.flush g).axes = s.axes := (s.flush_only g).move.axes

theorem State.flush_claims (s : State) (g : GenId) : (s.flush g).claims = s.claims := by
  unfold State.flush
  dsimp only
  split
  · rfl
  · exact (State.postHolder_reach _ _ _).claims

/-- A stop without effect (R103, Table 5.5). -/
theorem State.rampStop_still (k : (s.gen g).state = .idle ∨ (s.gen g).state = .stopping ∨ (s.gen g).state = .halted) :
    s.rampStop g = s := by
  unfold State.rampStop
  rcases k with e | e | e <;> rw [e]

/-- A stop that ends a move at once (R103, Table 5.5). -/
theorem State.rampStop_ends (k : (s.gen g).state = .armed ∨ (s.gen g).state = .dwelling ∨ (s.gen g).state = .following) :
    s.rampStop g = (s.flushAll g).endMove g .stopped := by
  unfold State.rampStop
  rcases k with e | e | e <;> rw [e]

theorem State.rampStop_brakes (k : (s.gen g).state = .running ∨ (s.gen g).state = .searching) :
    s.rampStop g = State.thenNext ((s.flushAll g).brake g .stop) g := by
  unfold State.rampStop
  rcases k with e | e <;> rw [e]

/-- A move above its floor enters STOPPING (R102). -/
theorem State.brake_slows (hm : (s.gen g).current = some m) (above : m.record.kind.floor < (s.gen g).speed) (rate : StopRate) :
    s.brake g rate = (s.modGen g fun n => n.braking rate, false) := by
  have notYet : ((s.gen g).braking rate).atFloor = false := by
    change (match (s.gen g).current with | some m => decide ((s.gen g).speed ≤ m.record.kind.floor) | none => true) = false
    rw [hm]
    exact decide_eq_false (Nat.not_le.mpr above)
  rw [State.brake_eq, notYet]
  rfl

theorem exec_stopGenerator_ramp (h : s.ServesSession p seq) (hg : genOf gen = some g) (held : s.holds p (.generator g) = true) :
    exec (.stopGeneratorRamp p seq gen) s =
      .next (((s.received p seq (.stopGenerator gen 0)).rampStop g).answered p seq [0x62, 0x00]) := by
  have x := exec_performed (c := .stopGeneratorRamp p seq gen) h.toServes rfl (State.commonCheck_listed h.session_open rfl) nofun nofun
    (stopGeneratorRequest_ramp (s := s.received p seq (.stopGenerator gen 0)) hg held)
    ((State.rampStop_vEvents _ g).trans h.settled)
  exact x

theorem exec_stopGenerator_finish (h : s.ServesSession p seq) (hg : genOf gen = some g) (held : s.holds p (.generator g) = true) :
    exec (.stopGeneratorFinish p seq gen) s =
      .next (((s.received p seq (.stopGenerator gen 1)).flush g).answered p seq [0x62, 0x00]) := by
  have x := exec_performed (c := .stopGeneratorFinish p seq gen) h.toServes rfl (State.commonCheck_listed h.session_open rfl) nofun nofun
    (stopGeneratorRequest_finish (s := s.received p seq (.stopGenerator gen 1)) hg held)
    ((State.flush_vEvents _ g).trans h.settled)
  exact x

/-- Settles O58: the rows of the stop table, and the flush. -/
theorem stopGeneratorFollowsItsTable : Obligations.StopGeneratorFollowsItsTable := by
  refine ⟨fun s p seq gen g h lawful hg held => ?_, fun s p seq gen g h hg held => ?_⟩
  · have x := exec_stopGenerator_ramp h hg held
    let u := s.received p seq (.stopGenerator gen 0)
    have flushed : (u.flushAll g).gen g = { s.gen g with queue := [], pendingTrigger := false } := u.flushAll_gen g
    have axes : (u.rampStop g).axes = s.axes := by
      obtain ⟨_, only⟩ := u.rampStop_only g
      exact only.move.axes
    refine ⟨fun state => ?_, fun state => ⟨_, x, ?_, axes⟩, fun m state hm above => ⟨_, x, ?_, axes⟩⟩
    · rw [State.rampStop_still (s := u) state] at x
      exact x
    · have suits := (s.gensLawful_iff.mp lawful.gens g).lawful
      obtain ⟨m, hm, -⟩ := suits.current_of_not_atRest (by rcases state with e | e | e <;> rw [e] <;> rfl)
      have halt := lawful.moving_unhalted (g := g) (by rcases state with e | e | e <;> rw [e] <;> decide)
        (by rcases state with e | e | e <;> rw [e] <;> decide)
      have ended := State.endMove_gen (s := u.flushAll g) (g := g) (m := m) (by rw [flushed]; exact hm) (by rw [flushed])
        (fun _ => .inr (by rw [flushed])) .stopped
      change (u.rampStop g).gen g = _
      rw [State.rampStop_ends (s := u) state, ended, flushed]
      dsimp only
      rw [if_neg (Bool.eq_false_iff.mp halt)]
      rfl
    · have slows := State.brake_slows (s := u.flushAll g) (g := g) (m := m) (by rw [flushed]; exact hm) (by rw [flushed]; exact above) .stop
      change (u.rampStop g).gen g = _
      rw [State.rampStop_brakes (s := u) state, slows]
      change ((u.flushAll g).modGen g fun n => n.braking .stop).gen g = _
      rw [State.modGen_gen_same, flushed]
      rfl
  · let u := s.received p seq (.stopGenerator gen 1)
    exact ⟨_, exec_stopGenerator_finish h hg held, u.flush_gen g, fun i other => (u.flush_only g).others i other, u.flush_axes g,
      u.flush_claims g, State.answered_cache _ _ _ _⟩

/-! ### Triggers (R91) -/

/-- A trigger that finds no ARMED move: kept where none is pending, else lost. -/
theorem State.trigger_kept (source : TriggerSource) (armed : (s.gen g).state ≠ .armed) (stopping : (s.gen g).state ≠ .stopping)
    (halted : (s.gen g).state ≠ .halted) :
    s.trigger g source =
      if (s.gen g).pendingTrigger then s.postGen g (.triggerLost g source (s.gen g).state)
      else s.modGen g fun n => { n with pendingTrigger := true } := by
  unfold State.trigger
  dsimp only
  cases e : (s.gen g).state with
  | armed => exact absurd e armed
  | stopping => exact absurd e stopping
  | halted => exact absurd e halted
  | _ => rfl

theorem State.trigger_lost (source : TriggerSource) (k : (s.gen g).state = .stopping ∨ (s.gen g).state = .halted) :
    s.trigger g source = s.postGen g (.triggerLost g source (s.gen g).state) := by
  unfold State.trigger
  dsimp only
  rcases k with e | e <;> rw [e]

/-- A trigger starts the ARMED move (R91). -/
theorem State.trigger_armed (source : TriggerSource) (armed : (s.gen g).state = .armed) (hm : (s.gen g).current = some m) :
    s.trigger g source = State.thenNext (s.startMove g m.record true) g := by
  unfold State.trigger
  dsimp only
  rw [armed, hm]

theorem exec_triggerGenerator (h : s.ServesSession p seq) (hg : genOf gen = some g) (held : s.holds p (.generator g) = true)
    (clear : s.halt = .clear) (part : (s.received p seq (.triggerGenerator gen)).trigger g .request = u) (events : u.vEvents = []) :
    exec (.triggerGenerator p seq gen) s = .next (u.answered p seq [0x63, 0x00]) := by
  have row := (triggerGeneratorRequest_eq (s := s.received p seq (.triggerGenerator gen)) hg held).trans (if_pos clear)
  rw [part] at row
  have x := exec_performed (c := .triggerGenerator p seq gen) h.toServes rfl (State.commonCheck_listed h.session_open rfl) nofun nofun
    row events
  exact x

/-- A trigger of the holder that starts an ARMED move which goes on after its start and brings no count event of axis V about. -/
theorem exec_triggerGenerator_starts (h : s.ServesSession p seq) (hg : genOf gen = some g) (held : s.holds p (.generator g) = true)
    (clear : s.halt = .clear) (armed : (s.gen g).state = .armed) (hm : (s.gen g).current = some m)
    (goes : (s.received p seq (.triggerGenerator gen)).startMove g m.record true = (u, false)) (events : u.vEvents = []) :
    exec (.triggerGenerator p seq gen) s = .next (u.answered p seq [0x63, 0x00]) ∧
      (((u.answered p seq [0x63, 0x00]).port p).cache = some { seq := seq, body := [0x63, 0x00] }) ∧
      ((s.port p).notices.items.length < 24 →
        ∃ k ∈ ((u.answered p seq [0x63, 0x00]).port p).notices.items,
          k.kind = .moveStarted g m.record.tag m.record.kind (s.gen g).counter true (m.record.kind.startedPhase s.lines)) := by
  have part := State.trigger_armed (s := s.received p seq (.triggerGenerator gen)) .request armed hm
  rw [goes] at part
  refine ⟨exec_triggerGenerator h hg held clear part events, State.answered_cache _ _ _ _, fun room => ?_⟩
  have told := State.startMove_told (s := s.received p seq (.triggerGenerator gen)) (p := p) (g := g) held
    ((s.received_isOpen p p seq _).trans h.session_open) (by rw [State.received_notices]; exact room) m.record true
  rw [goes] at told
  exact told.of_notices (State.answered_notices _ _ _ _ _)

/-- Settles O59: the settings by the state, and the trigger by the state and the move that waits for it. -/
theorem generatorSettingsAndTriggers : Obligations.GeneratorSettingsAndTriggers := by
  refine ⟨fun s p seq gen g h hg held => ⟨fun maxRate sd hd d sense low high hs hh hd' => ?_, fun v low high => ?_⟩,
    fun s p seq gen g h hg held => ⟨fun halt => ?_, fun clear armed stopping halted => ?_, fun clear k => ?_,
      fun m lawful clear armed hm => ?_⟩⟩
  · intro u
    have row := configureGeneratorRequest_eq (s := u) hg held low high hs hh hd'
    by_cases idle : (s.gen g).state = .idle
    · have x := exec_performed (c := .configureGenerator p seq gen maxRate sd hd d) h.toServes rfl
        (State.commonCheck_listed h.session_open rfl) nofun nofun (row.trans (if_pos idle)) h.settled
      rw [if_pos idle]
      exact x
    · have x := exec_only (c := .configureGenerator p seq gen maxRate sd hd d) h rfl rfl nofun nofun (row.trans (if_neg idle))
      rw [if_neg idle]
      exact x
  · intro u
    have row := setGeneratorPositionRequest_eq (s := u) hg held low high
    by_cases idle : (s.gen g).state = .idle
    · have x := exec_performed (c := .setGeneratorPosition p seq gen v) h.toServes rfl
        (State.commonCheck_listed h.session_open rfl) nofun nofun (row.trans (if_pos idle)) h.settled
      rw [if_pos idle]
      exact x
    · have x := exec_only (c := .setGeneratorPosition p seq gen v) h rfl rfl nofun nofun (row.trans (if_neg idle))
      rw [if_neg idle]
      exact x
  · have row := (triggerGeneratorRequest_eq (s := s.received p seq (.triggerGenerator gen)) hg held).trans (if_neg halt)
    have x := exec_only (c := .triggerGenerator p seq gen) h rfl rfl nofun nofun row
    exact x
  · let u := s.received p seq (.triggerGenerator gen)
    have lost : u.postGen g (.triggerLost g .request (s.gen g).state) = u.post p (.triggerLost g .request (s.gen g).state) :=
      State.postHolder_of_holds (s := u) held _
    have part := State.trigger_kept (s := u) (g := g) .request armed stopping halted
    have x := exec_triggerGenerator h hg held clear part (by
      split
      · exact (State.postGen_vEvents _ _ _).trans h.settled
      · exact h.settled)
    refine x.trans ?_
    rw [show (u.gen g).state = (s.gen g).state from rfl, lost]
    rfl
  · let u := s.received p seq (.triggerGenerator gen)
    have part := (State.trigger_lost (s := u) .request k).trans (State.postHolder_of_holds (s := u) held _)
    have x := exec_triggerGenerator h hg held clear part ((State.post_reach _ _ _).vEvents.trans h.settled)
    exact x
  · let u := s.received p seq (.triggerGenerator gen)
    have untriggered : (s.gen g).pendingTrigger = false := (s.gensLawful_iff.mp lawful.gens g).lawful.armed_no_trigger armed
    refine ⟨fun ms kind => ?_, fun dir start peak accel decel off kind low high => ?_⟩
    · have goes := State.startMove_dwell (s := u) (g := g) kind true
      obtain ⟨x, cache, told⟩ := exec_triggerGenerator_starts h hg held clear armed hm goes
        ((State.postGen_vEvents _ _ _).trans h.settled)
      have gen : ((u.startedAt g m.record true).answered p seq [0x63, 0x00]).gen g = (s.gen g).started m.record s.lines :=
        u.startedAt_gen g m.record true
      rw [Generator.started_dwell kind] at gen
      have told' (room : (s.port p).notices.items.length < 24) := told room
      rw [show m.record.kind.startedPhase s.lines = none by rw [kind]; rfl] at told'
      exact ⟨_, x, ⟨⟨congrArg (fun n => n.current.map CurrentMove.record) gen, (congrArg Generator.queue gen).trans rfl,
        (congrArg Generator.pendingTrigger gen).trans untriggered, cache⟩, told'⟩, congrArg Generator.state gen,
        congrArg Generator.dwellLeft gen, (congrArg Generator.counter gen).trans rfl⟩
    · obtain ⟨v, goes, vgen⟩ := State.startMove_unlimited (s := u) off kind low high true
      have only := State.startMove_only u g m.record true
      rw [goes] at only
      obtain ⟨x, cache, told⟩ := exec_triggerGenerator_starts h hg held clear armed hm goes ((only.vEvents off).trans h.settled)
      have gen : (v.answered p seq [0x63, 0x00]).gen g = _ := vgen
      rw [Generator.started_velocity kind, Generator.stepped_line off,
        Generator.motion_of_velocity
          (m := { record := m.record, started := true, issued := 0, remaining := none, dir := dir, search := none }) kind,
        StepDir.move_eq] at gen
      have told' (room : (s.port p).notices.items.length < 24) := told room
      rw [show m.record.kind.startedPhase s.lines = none by rw [kind]; rfl] at told'
      have mark : (!(s.gen g).queue.isEmpty) = decide ((s.gen g).queue ≠ []) := by cases (s.gen g).queue <;> rfl
      exact ⟨_, x, ⟨⟨congrArg (fun n => n.current.map CurrentMove.record) gen, (congrArg Generator.queue gen).trans rfl,
        (congrArg Generator.pendingTrigger gen).trans untriggered, cache⟩, told'⟩, congrArg Generator.state gen,
        congrArg Generator.speed gen, congrArg Generator.phase gen, congrArg Generator.rampLeft gen,
        (congrArg Generator.endByNext gen).trans mark, (congrArg Generator.counter gen).trans rfl,
        congrArg (fun n => n.current.map CurrentMove.issued) gen⟩

end Sys2Proof.Machine
end

section
/-! SUPPORT. Steps of G1 and G2, DWELL moves and ramp timers (R84, R92 to R102). -/

namespace Sys2Proof.Machine

variable {s t u : State} {g : GenId} {m : CurrentMove} {r : MoveRecord} {p : PortId} {seq gen : Byte} {raw : RawMove}

/-! ### The direction of the next step, and the record after it -/

theorem Generator.motion_of_line (n : Generator) (k : m.record.kind.code = 0 ∨ m.record.kind.code = 1) : n.motion m = m.dir := by
  unfold Generator.motion
  cases e : m.record.kind with
  | position => rfl
  | velocity => rfl
  | dwell => rfl
  | _ =>
    rw [e] at k
    exact absurd k (by simp [MoveKind.code])

theorem Generator.motion_of_follow (n : Generator) (k : m.record.kind.code = 2) : n.motion m = n.backlogDir := by
  unfold Generator.motion
  cases e : m.record.kind with
  | follow => rfl
  | _ =>
    rw [e] at k
    exact absurd k (by simp [MoveKind.code])

theorem Generator.motion_of_search (n : Generator) {f : HomeFields} {q : SearchRecord} (k : m.record.kind = .home f)
    (search : m.search = some q) : n.motion m = q.motion := by
  unfold Generator.motion
  rw [k, search]

/-- One issued step of G1 or G2 by the terms of the statements (R84, R99, R115). -/
theorem Generator.stepped_eq (off : g ≠ .gv) (n : Generator) (m : CurrentMove) :
    n.stepped g m =
      { n.afterStepOn { m with search := (m.stepped (decide (n.state = .searching))).search } (n.motion m) with
        backlog := if n.state = .following then n.backlog - 1 else n.backlog
        backlogDir := if n.state = .following then backlogDirection (n.backlog - 1) n.backlogDir else n.backlogDir } := by
  rw [Generator.stepped_line off, Sense.dirLevel_eq, StepDir.move_eq]
  rfl

theorem CurrentMove.stepped_search_none (search : m.search = none) (b : Bool) : (m.stepped b).search = none := by
  unfold CurrentMove.stepped
  rw [search]
  rfl

/-- The record of a POSITION or VELOCITY move after a step (R84, R93). -/
theorem Generator.stepped_line_move (off : g ≠ .gv) (n : Generator) (following : n.state ≠ .following)
    (k : m.record.kind.code = 0 ∨ m.record.kind.code = 1) (search : m.search = none) : n.stepped g m = n.afterStepOn m m.dir := by
  rw [Generator.stepped_eq off, if_neg following, if_neg following, Generator.motion_of_line n k,
    CurrentMove.stepped_search_none search, ← search]
  rfl

/-- The record of a FOLLOW move after a step of its backlog (R99). -/
theorem Generator.stepped_follow (off : g ≠ .gv) (n : Generator) (following : n.state = .following)
    (k : m.record.kind.code = 2) (search : m.search = none) :
    n.stepped g m =
      { n.afterStepOn m n.backlogDir with
        backlog := n.backlog - 1, backlogDir := backlogDirection (n.backlog - 1) n.backlogDir } := by
  rw [Generator.stepped_eq off, if_pos following, if_pos following, Generator.motion_of_follow n k,
    CurrentMove.stepped_search_none search, ← search]

/-- The record of a search after a step (R115). -/
theorem Generator.stepped_search (off : g ≠ .gv) (n : Generator) (searching : n.state = .searching) {f : HomeFields} {q : SearchRecord}
    (k : m.record.kind = .home f) (search : m.search = some q) :
    n.stepped g m = n.afterStepOn { m with search := some { q with steps := q.steps + 1 } } q.motion := by
  have following : n.state ≠ .following := by rw [searching]; decide
  have steps : (m.stepped (decide (n.state = .searching))).search = some { q with steps := q.steps + 1 } := by
    unfold CurrentMove.stepped
    rw [search, decide_eq_true searching]
    rfl
  rw [Generator.stepped_eq off, if_neg following, if_neg following, Generator.motion_of_search n k search, steps]
  rfl

/-! ### A step taken -/

theorem exec_generatorStep (moving : (s.gen g).state.moving = true) : exec (.generatorStep g) s = .next (s.takeStep g).drain := by
  have step : s.stepNow g = (s.takeStep g).drain := if_pos moving
  exact congrArg Host.Outcome.next step

theorem exec_followBacklogStep (following : (s.gen g).state = .following) (backlog : 0 < (s.gen g).backlog) :
    exec (.followBacklogStep g) s = .next (s.takeStep g).drain := by
  have step : s.backlogStep g = (s.takeStep g).drain := if_pos ⟨following, backlog⟩
  exact congrArg Host.Outcome.next step

/-- A step with which the move goes on (R84). -/
theorem State.takeStep_goesOn (off : g ≠ .gv) (hm : (s.gen g).current = some m)
    (into : inCountRange (((s.gen g).motion m).move (s.gen g).counter) = true)
    (goes : (m.stepped (decide ((s.gen g).state = .searching))).stepEnd (decide ((s.gen g).state = .searching)) = .goesOn) :
    s.takeStep g = s.modGen g fun n => n.stepped g m := by
  unfold State.takeStep
  rw [State.issueStep_goesOn off hm into goes]
  rfl

/-- The state after an issued step, before what follows it: at GV with the count event of axis V (R4). -/
def State.stepIssued (s : State) (g : GenId) (m : CurrentMove) : State :=
  { s.modGen g fun n => n.stepped g m with
    vEvents := s.vEvents ++ if g = .gv then [(s.gen g).sense.stepEvent ((s.gen g).motion m)] else [] }

theorem State.stepIssued_gen (s : State) (g : GenId) (m : CurrentMove) : (s.stepIssued g m).gen g = (s.gen g).stepped g m :=
  State.modGen_gen_same s g fun n => n.stepped g m

theorem State.stepIssued_line (off : g ≠ .gv) (s : State) (m : CurrentMove) :
    s.stepIssued g m = s.modGen g fun n => n.stepped g m := by
  unfold State.stepIssued
  rw [if_neg off, List.append_nil]
  rfl

/-- The step that brings the remaining steps to 0 ends the move (R94, R96, R100), in STOPPING with the cause of the stop (R102). -/
theorem State.takeStep_last (hm : (s.gen g).current = some m)
    (into : inCountRange (((s.gen g).motion m).move (s.gen g).counter) = true) (last : m.remaining = some 1) :
    s.takeStep g =
      (s.stepIssued g m).endMove g
        (if (s.gen g).state = .stopping then
          ((s.gen g).stepped g m).stopCause (m.stepped (decide ((s.gen g).state = .searching)))
        else .complete) := by
  have ends : (m.stepped (decide ((s.gen g).state = .searching))).stepEnd (decide ((s.gen g).state = .searching)) = .noneLeft := by
    unfold CurrentMove.stepEnd
    refine if_pos ?_
    unfold CurrentMove.stepped
    rw [last]
    rfl
  have issued : s.issueStep g = (s.stepIssued g m, .noneLeft) := by
    rw [State.issueStep_in s g hm into, ends]
    rfl
  have state : ((s.stepIssued g m).gen g).state = (s.gen g).state := by rw [State.stepIssued_gen, Generator.stepped_state]
  have current : ((s.stepIssued g m).gen g).current = some (m.stepped (decide ((s.gen g).state = .searching))) := by
    rw [State.stepIssued_gen]
    cases g <;> rfl
  unfold State.takeStep State.endMove
  rw [issued]
  unfold State.afterStep State.thenNext
  dsimp only
  rw [state]
  split
  · dsimp only
    rw [if_pos rfl, State.closeStopped_some _ g current, State.stepIssued_gen]
  · rfl

/-- A step that would leave the counter's range is not issued (R85). -/
theorem State.takeStep_out (hm : (s.gen g).current = some m)
    (out : inCountRange (((s.gen g).motion m).move (s.gen g).counter) = false) :
    s.takeStep g = (s.flushAll g).endMove g .outOfRange := by
  unfold State.takeStep State.endMove
  rw [State.issueStep_out s g hm out]
  rfl

/-- Settles O23: the step is not issued, and nothing is left to follow the move. -/
theorem stepOutOfRangeEndsTheMove : Obligations.StepOutOfRangeEndsTheMove := by
  intro s g m lawful n state hm search kind bound
  have out : inCountRange ((n.motion m).move n.counter) = false := by
    rw [Generator.motion_of_line n kind, bound, StepDir.move_eq]
    cases m.dir <;> rfl
  have flushed : (s.flushAll g).gen g = { n with queue := [], pendingTrigger := false } := s.flushAll_gen g
  have ended := State.endMove_gen (s := s.flushAll g) (g := g) (m := m) (by rw [flushed]; exact hm) (by rw [flushed])
    (fun _ => .inr (by rw [flushed])) .outOfRange
  rw [flushed] at ended
  have still : (s.takeStep g).drain = (s.flushAll g).endMove g .outOfRange := by
    rw [State.takeStep_out hm out]
    refine State.drain_settled _ ?_
    rw [State.endMove_vEvents _ g _ (s.flushAll_queue g), State.flushAll_vEvents]
    exact lawful.settled.no_events
  have x := exec_generatorStep (s := s) (g := g) (by rcases state with e | e <;> (rw [e]; rfl))
  rw [still] at x
  have axes : ((s.flushAll g).endMove g .outOfRange).axes = s.axes := by
    obtain ⟨_, only⟩ := (s.flushAll g).endMove_only g .outOfRange
    exact only.move.axes.trans (s.flushAll_only g).move.axes
  refine ⟨_, x, ?_, ?_, ?_, ?_, ?_, axes⟩ <;> rw [ended]
  all_goals rfl

/-- The last step of a move on G1 or G2 with no record waiting, whose claim is HELD: the generator is IDLE (R92). -/
theorem State.postHolder_modGen (s : State) (q : Resource) (k : NoticeKind) (g : GenId) (f : Generator → Generator) :
    (s.postHolder q k).modGen g f = (s.modGen g f).postHolder q k := by
  unfold State.postHolder
  change (match s.holder q with | some p => s.post p k | none => s).modGen g f = match s.holder q with
    | some p => (s.modGen g f).post p k | none => s.modGen g f
  cases s.holder q with
  | none => rfl
  | some p =>
    dsimp only
    rw [State.post_eq_tell, State.post_eq_tell]
    rfl

/-- A move that ends with no record behind it on a generator whose claim is HELD (R92). -/
theorem State.endMove_alone (hm : (s.gen g).current = some m) (empty : (s.gen g).queue = []) (halt : (s.gen g).halt = false)
    (held : (s.claim (.generator g)).state = .held) (cause : EndCause) :
    s.endMove g cause =
      (s.modGen g fun n => n.atStandstill .idle).postHolder (.generator g)
        (.moveEnded g m.record.tag m.record.kind cause (s.gen g).counter m.started (m.endSearch cause)) := by
  have gen := s.closeMove_gen g cause hm
  unfold State.endMove
  rw [State.nextMove_empty _ g (by rw [State.closeMove_queue]; exact empty)]
  unfold State.settle
  rw [if_neg (by rw [gen]; exact Bool.eq_false_iff.mp halt)]
  unfold State.reportIdle
  rw [State.modGen_claim, State.closeMove_claim, held]
  dsimp only
  rw [State.closeMove_some s g cause hm]
  unfold State.postGen
  rw [State.postHolder_modGen, State.modGen_modGen]
  rfl

/-- Settles O22: the last step, and the move that ends with it. -/
theorem lastStepCompletesPositionMove : Obligations.LastStepCompletesPositionMove := by
  intro s g m c dir off lawful n command hm search last empty held ahead
  have law := (s.gensLawful_iff.mp lawful.gens g).lawful
  have motion : n.motion m = dir := by
    rcases command with ⟨-, -, kind, rfl⟩ | ⟨-, -, kind, -, rfl⟩
    · exact n.motion_of_line kind
    · exact n.motion_of_follow kind
  have state : n.state = .running ∨ n.state = .following := by
    rcases command with ⟨-, state, -⟩ | ⟨-, state, -⟩
    · exact .inl state
    · exact .inr state
  have stopping : n.state ≠ .stopping := by rcases state with e | e <;> rw [e] <;> decide
  have halted : n.state ≠ .halted := by rcases state with e | e <;> rw [e] <;> decide
  have searching : n.state ≠ .searching := by rcases state with e | e <;> rw [e] <;> decide
  have plain : m.record.kind.code ≠ 4 := by
    rcases command with ⟨-, -, kind | kind, -⟩ | ⟨-, -, kind, -⟩ <;> rw [kind] <;> decide
  have into : inCountRange ((n.motion m).move n.counter) = true := by
    rw [motion]
    exact StepDir.move_inRange law.counter_range ahead
  have x : exec c s = .next (s.takeStep g).drain := by
    rcases command with ⟨rfl, state, -⟩ | ⟨rfl, state, -, backlog, -⟩
    · exact exec_generatorStep (show n.state.moving = true by rw [state]; rfl)
    · exact exec_followBacklogStep state backlog
  have stepped : n.stepped g m = { n.afterStepOn m dir with
      backlog := (n.stepped g m).backlog, backlogDir := (n.stepped g m).backlogDir } := by
    rw [Generator.stepped_eq off, motion, CurrentMove.stepped_search_none search, ← search]
  have taken := State.takeStep_last hm into last
  rw [if_neg stopping, State.stepIssued_line off] at taken
  have gen : (s.modGen g fun n => n.stepped g m).gen g = n.stepped g m := State.modGen_gen_same _ _ _
  rw [State.endMove_alone (s := s.modGen g fun n => n.stepped g m) (m := m.stepped (decide (n.state = .searching))) (by rw [gen, Generator.stepped_line off])
    (by rw [gen, Generator.stepped_line off]; exact empty)
    (by rw [gen, Generator.stepped_line off]; exact lawful.moving_unhalted halted stopping) held, State.modGen_modGen] at taken
  have settled : (s.takeStep g).vEvents = [] := by
    rw [taken]
    exact (State.postHolder_reach _ _ _).vEvents.trans lawful.settled.no_events
  rw [x, State.drain_settled _ settled, taken, gen, stepped, CurrentMove.endSearch_of_code (m := m.stepped _) plain]
  refine congrArg (fun v : State => Host.Outcome.next (v.postHolder _ _)) (State.modGen_congr s g ?_)
  rw [show s.gen g = n from rfl, stepped]
  rfl

end Sys2Proof.Machine
end

section
/-! SUPPORT. DWELL moves and the ramp timer (R95 to R97, R101, R118). -/

namespace Sys2Proof.Machine

variable {s t u : State} {g : GenId} {m : CurrentMove} {r : MoveRecord} {p : PortId} {seq gen : Byte} {raw : RawMove}

/-! ### DWELL moves (R101) -/

theorem exec_dwellTimerExpiry (dwelling : (s.gen g).state = .dwelling) (due : (s.gen g).dwellLeft = some 0) :
    exec (.dwellTimerExpiry g) s = .next (s.endMove g .complete).drain := by
  have step : s.dwellExpires g = (s.endMove g .complete).drain := if_pos ⟨dwelling, due⟩
  exact congrArg Host.Outcome.next step

/-- Settles O27: the start, the wait, the end, and the append that waits. -/
theorem dwellMoveWaitsItsTime : Obligations.DwellMoveWaitsItsTime := by
  refine ⟨fun s p seq gen g raw tag ms h lawful hg held idle hr => ?_, fun s g dwelling => ?_,
    fun s g m ms lawful dwelling due hm kind empty held => ?_, fun s p seq gen g raw r h lawful hg held dwelling hr room => ?_⟩
  · let u := s.received p seq (.appendMove gen raw)
    have goes := State.startMove_dwell (s := u) (g := g) (r := { tag := tag, start := .immediate, kind := .dwell ms }) rfl false
    obtain ⟨t, x, tgen, -, axes⟩ := exec_appendMove_starts h lawful hg held idle hr rfl goes
      ((State.postGen_vEvents _ _ _).trans h.settled)
    rw [State.startedAt_gen] at tgen
    exact ⟨t, x, congrArg Generator.state tgen, congrArg Generator.dwellLeft tgen, (congrArg Generator.counter tgen).trans rfl, axes,
      congrArg (fun n => n.current.map CurrentMove.record) tgen⟩
  · have still : s.stepNow g = s := if_neg (by rw [dwelling]; decide)
    exact congrArg Host.Outcome.next still
  · have halt := lawful.moving_unhalted (g := g) (by rw [dwelling]; decide) (by rw [dwelling]; decide)
    have plain : m.endSearch .complete = none := CurrentMove.endSearch_of_code (by rw [kind]; simp [MoveKind.code]) _
    have ended := State.endMove_alone hm empty halt held .complete
    have settled : (s.endMove g .complete).vEvents = [] := (State.endMove_vEvents s g _ empty).trans lawful.settled.no_events
    rw [exec_dwellTimerExpiry dwelling due, State.drain_settled _ settled, ended, plain]
  · obtain ⟨m, hm, suits⟩ := (s.gensLawful_iff.mp lawful.gens g).lawful.current_of_not_atRest (by rw [dwelling]; rfl)
    rw [dwelling] at suits
    have dwell : ∃ ms, m.record.kind = .dwell ms := by
      cases e : m.record.kind with
      | dwell ms => exact ⟨ms, rfl⟩
      | _ => rw [e] at suits; cases suits
    obtain ⟨ms, kind⟩ := dwell
    have halt := lawful.moving_unhalted (g := g) (by rw [dwelling]; decide) (by rw [dwelling]; decide)
    have part := State.append_behind (s := s.received p seq (.appendMove gen raw)) (g := g) (by
      change (s.gen g).state ≠ _
      rw [dwelling]
      decide) hm (by rw [kind]; simp [MoveKind.code]) r
    have x := exec_appendMove_quiet h hg held halt (by rw [dwelling]; decide) hr room part h.settled
    rw [State.modGen_gen_same, List.length_append] at x
    refine x.trans ?_
    refine congrArg (fun v : State => Host.Outcome.next (v.answered p seq _)) (State.modGen_congr _ g ?_)
    rw [if_neg (by rw [kind]; simp [MoveKind.code])]

/-! ### The ramp timer -/

theorem exec_rampTimerExpiry (moving : (s.gen g).state.moving = true) (due : (s.gen g).rampLeft = some 0) :
    exec (.rampTimerExpiry g) s = .next (s.rampTick g).drain := by
  have step : s.rampExpires g = (s.rampTick g).drain := if_pos ⟨moving, due⟩
  exact congrArg Host.Outcome.next step

/-- The state in which a ramp timer has started its next millisecond (R93). -/
def State.ramping (s : State) (g : GenId) : State := s.modGen g fun n => { n with rampLeft := some 1 }

theorem State.ramping_gen (s : State) (g : GenId) : (s.ramping g).gen g = { s.gen g with rampLeft := some 1 } :=
  State.modGen_gen_same _ _ _

/-- A ramp timer expiry of a RUNNING move that goes on (R95 to R97). -/
theorem State.rampTick_running (running : (s.gen g).state = .running) (hm : (s.gen g).current = some m) {v : Nat} {ph : Phase}
    (ramp : (s.gen g).runningRamp m = some (v, ph)) :
    s.rampTick g = (s.ramping g).modGen g fun n => { n with speed := v, phase := some ph } := by
  have gen := s.ramping_gen g
  have state : ((s.ramping g).gen g).state = .running := by rw [gen]; exact running
  have current : ((s.ramping g).gen g).current = some m := by rw [gen]; exact hm
  have next : ((s.ramping g).gen g).runningRamp m = some (v, ph) := by rw [gen]; exact ramp
  unfold State.rampTick
  unfold State.ramping at state current next ⊢
  dsimp only
  rw [state, current]
  dsimp only
  rw [next]

/-- The same where it has come to its end (R97). -/
theorem State.rampTick_ends (running : (s.gen g).state = .running) (hm : (s.gen g).current = some m)
    (ramp : (s.gen g).runningRamp m = none) : s.rampTick g = (s.ramping g).endMove g .endedByNext := by
  have gen := s.ramping_gen g
  have state : ((s.ramping g).gen g).state = .running := by rw [gen]; exact running
  have current : ((s.ramping g).gen g).current = some m := by rw [gen]; exact hm
  have next : ((s.ramping g).gen g).runningRamp m = none := by rw [gen]; exact ramp
  unfold State.rampTick
  unfold State.ramping at state current next ⊢
  dsimp only
  rw [state, current]
  dsimp only
  rw [next]

theorem State.rampTick_searching (searching : (s.gen g).state = .searching) :
    s.rampTick g = (s.ramping g).modGen g Generator.searchRamp := by
  have state : ((s.ramping g).gen g).state = .searching := by rw [s.ramping_gen g]; exact searching
  unfold State.rampTick
  unfold State.ramping at state ⊢
  dsimp only
  rw [state]

/-- A ramp timer expiry that changes nothing but the generator's record. -/
theorem exec_rampTimerExpiry_gen (moving : (s.gen g).state.moving = true) (due : (s.gen g).rampLeft = some 0) (settled : s.vEvents = [])
    {f : Generator → Generator} (tick : s.rampTick g = (s.ramping g).modGen g f) {n : Generator}
    (same : f { s.gen g with rampLeft := some 1 } = n) :
    exec (.rampTimerExpiry g) s = .next (s.modGen g fun _ => n) := by
  have events : (s.rampTick g).vEvents = [] := by rw [tick]; exact settled
  unfold State.ramping at tick
  rw [exec_rampTimerExpiry moving due, State.drain_settled _ events, tick, State.modGen_modGen]
  exact congrArg Host.Outcome.next (State.modGen_congr s g same)

theorem exec_rampTimerExpiry_running (running : (s.gen g).state = .running) (due : (s.gen g).rampLeft = some 0) (settled : s.vEvents = [])
    (hm : (s.gen g).current = some m) {v : Nat} {ph : Phase} (ramp : (s.gen g).runningRamp m = some (v, ph)) :
    exec (.rampTimerExpiry g) s =
      .next (s.modGen g fun _ => { s.gen g with speed := v, phase := some ph, rampLeft := some 1 }) :=
  exec_rampTimerExpiry_gen (by rw [running]; rfl) due settled (State.rampTick_running running hm ramp) rfl

/-- The braking distance of R95, rounded up. -/
theorem brakingDistance_eq {v start decel : Nat} (above : start ≤ v) (rate : 1 ≤ decel) :
    brakingDistance v start decel = ⌈((v : ℚ) ^ 2 - (start : ℚ) ^ 2) / (2 * (decel : ℚ) * 1000)⌉₊ := by
  have squares : start * start ≤ v * v := Nat.mul_le_mul above above
  have divisor : 0 < 2000 * decel := by omega
  have value : ((v : ℚ) ^ 2 - (start : ℚ) ^ 2) / (2 * (decel : ℚ) * 1000) =
      ((v * v - start * start : ℕ) : ℚ) / ((2000 * decel : ℕ) : ℚ) := by
    rw [Nat.cast_sub squares]
    push_cast
    ring
  refine eq_of_forall_ge_iff fun c => ?_
  rw [value, Nat.ceil_le, div_le_iff₀ (by exact_mod_cast divisor), ← Nat.cast_mul, Nat.cast_le]
  unfold brakingDistance
  generalize v * v - start * start = a
  generalize 2000 * decel = b at divisor
  rw [Nat.div_le_iff_le_mul_add_pred divisor, mul_comm b c]
  omega

/-- Speed and phase of a move with remaining steps by R95. -/
theorem profileSpeed_eq {phase : Option Phase} {v start peak accel decel left : Nat} (above : start ≤ v) (rate : 1 ≤ decel) :
    profileSpeed phase v start peak accel decel left =
      if left ≤ ⌈((v : ℚ) ^ 2 - (start : ℚ) ^ 2) / (2 * (decel : ℚ) * 1000)⌉₊ ∨ phase = some .rampDown ∧ v = start then
        (max (v - decel) start, .rampDown)
      else if v < peak then (min (v + accel) peak, .rampUp)
      else (v, .cruise) := by
  unfold profileSpeed
  rw [brakingDistance_eq above rate]
  have floor : v ≤ start ↔ v = start := ⟨fun h => le_antisymm h above, fun h => h.le⟩
  simp only [floor]
  rfl

/-- Settles O25: the profile, the superseded move, and the search. -/
theorem rampTimerFollowsTheProfile : Obligations.RampTimerFollowsTheProfile := by
  refine ⟨fun s g m start peak accel decel left settled rate => ?_, fun s g m settled => ?_⟩
  · intro n v running due hm kind hleft above b brakes
    have profile : n.runningRamp m = some (profileSpeed n.phase v start peak accel decel left) := by
      unfold Generator.runningRamp
      rcases kind with ⟨mode, target, kind⟩ | ⟨⟨dir, limit, kind⟩, unsuperseded⟩
      · rw [kind, hleft]
        rfl
      · rw [kind, unsuperseded, hleft]
        rfl
    rw [profileSpeed_eq above rate] at profile
    have runs {w : Nat} {ph : Phase} (e : n.runningRamp m = some (w, ph)) := exec_rampTimerExpiry_running running due settled hm e
    refine ⟨fun yes => ?_, fun no low => ?_, fun no high => ?_⟩
    · rw [if_pos yes] at profile
      exact runs profile
    · rw [if_neg no, if_pos low] at profile
      exact runs profile
    · rw [if_neg no, if_neg (Nat.not_lt.mpr high)] at profile
      exact runs profile
  · intro n v due hm
    refine ⟨fun dir start peak accel decel limit running kind => ⟨fun unsuperseded unlimited => ?_, fun superseded above => ?_,
      fun superseded low lawful => ?_⟩, fun f r searching kind search seek => ⟨fun unfound => ?_, fun found above => ?_, fun found low => ?_⟩⟩
    · have ramp : n.runningRamp m = some (velocitySpeed v peak accel) := by
        unfold Generator.runningRamp
        rw [kind, unsuperseded, unlimited]
        rfl
      have phase : (if riseTo v accel peak < peak then Phase.rampUp else .cruise) = if v + accel < peak then .rampUp else .cruise := by
        unfold riseTo
        exact if_congr (by omega) rfl rfl
      unfold velocitySpeed at ramp
      dsimp only at ramp
      rw [phase] at ramp
      exact exec_rampTimerExpiry_running running due settled hm ramp
    · refine exec_rampTimerExpiry_running running due settled hm ?_
      unfold Generator.runningRamp
      rw [kind, superseded]
      exact if_neg (Nat.not_le.mpr above)
    · have ramp : n.runningRamp m = none := by
        unfold Generator.runningRamp
        rw [kind, superseded]
        exact if_pos low
      have x := exec_rampTimerExpiry (s := s) (g := g) (by rw [running]; rfl) due
      rw [State.rampTick_ends running hm ramp] at x
      refine ⟨_, x, lawful.endedByNext hm (CurrentMove.endSearch_of_code (by rw [kind]; simp [MoveKind.code]) _)
        (ramp := some 1) (s.ramping_gen g) rfl (fun _ => rfl) (fun _ => rfl) settled⟩
    all_goals
      refine exec_rampTimerExpiry_gen (by rw [searching]; rfl) due settled (State.rampTick_searching searching) ?_
      unfold Generator.searchRamp
      dsimp only
      rw [hm]
      dsimp only
      rw [kind, search]
      dsimp only
      rw [if_pos seek]
    · rw [if_neg (by rw [unfound]; decide)]
      rfl
    · rw [if_pos found, if_neg (Nat.not_le.mpr above)]
    · rw [if_pos found, if_pos low]

end Sys2Proof.Machine
end

section
/-! SUPPORT. The velocity gate and the evaluation of a window (R10, R37 to R41), and where a count event takes an axis (R5 to R7). -/

namespace Sys2Proof.Machine

variable {s t : State} {a : Axis} {d : AxisDir}

/-! ### An evaluation -/

theorem Qualifier.admits_iff (q : Qualifier) (d : AxisDir) :
    q.admits d = true ↔ q = .either ∨ (q = .forward ∧ d = .forward) ∨ (q = .reverse ∧ d = .reverse) := by
  cases q <;> cases d <;> simp [Qualifier.admits]

theorem WindowCopy.covers_iff (w : WindowCopy) (c : Int) :
    w.covers c = true ↔ if w.on < w.off then w.on ≤ c ∧ c < w.off else w.on ≤ c ∨ c < w.off := by
  unfold WindowCopy.covers
  split <;> simp

theorem Axis.leadPosition_eq (a : Axis) (lead : Nat) :
    a.leadPosition lead =
      match a.mode with
      | .linear => a.position + (a.velocity * lead).tdiv 1000000
      | .rotary => (a.position + (a.velocity * lead).tdiv 1000000) % a.cycle := by
  unfold Axis.leadPosition leadOffset
  cases a.mode <;> rfl

/-- Settles O19: the evaluation part by part, and the expiry with the evaluation that follows it. -/
theorem gateExpiryMeasuresVelocity : Obligations.GateExpiryMeasuresVelocity := by
  refine ⟨fun w a _ _ => ?_, fun s x due => ?_⟩
  · intro shifted c
    have place : a.leadPosition w.lead = c := a.leadPosition_eq w.lead
    unfold WindowCopy.insideOn
    rw [Bool.and_eq_true, Bool.and_eq_true, decide_eq_true_eq, Qualifier.admits_iff, WindowCopy.covers_iff, place, and_assoc]
  · intro a b
    let u := s.modAxis x Axis.gated
    have run : s.gateExpires x = u.evaluateAxis x := if_pos due
    have place : u.axis x = b := State.modAxis_axis_same s x Axis.gated
    have reach := State.evaluateAxis_reach u x
    refine ⟨u.evaluateAxis x, congrArg Host.Outcome.next run, ?_, fun i on counts w active => ?_, fun i off => ?_, fun y other => ?_,
      reach.ports, reach.gens, reach.claims, reach.compares, reach.halt⟩
    · exact (State.axis_congr reach.axes x).trans place
    · refine (u.evaluateAxis_slot x i).trans ?_
      rw [if_pos (show u.slots[i].axis = x from on), place]
      exact Slot.evaluated_counting counts active b
    · exact (u.evaluateAxis_slot x i).trans (if_neg off)
    · exact (State.axis_congr reach.axes y).trans (State.modAxis_axis_other _ x y _ other)

end Sys2Proof.Machine
end

section
/-! SUPPORT. What the parts of a count event reach, and what they leave: the other axes with their windows, commits and compare
lists, the claims, and the generators that neither wait for a trigger nor follow the axis (R5 to R9, R54). -/

namespace Sys2Proof.Machine

variable {s t u : State} {x y : AxisId} {d : AxisDir} {g : GenId}

/-! ### What belongs to an axis stands -/

/-- Two states between which nothing of an axis has changed: its record, its compare list, its pending commits, its windows;
a slot that comes to stand at the axis is FREE (log 17). -/
structure State.Apart (x : AxisId) (s t : State) : Prop where
  axis : t.axis x = s.axis x
  compares : t.compareList x = s.compareList x
  commits : ∀ p, t.hasCommit p x = s.hasCommit p x
  slot : ∀ i : Fin 48, s.slots[i].axis = x → t.slots[i] = s.slots[i]
  comes : ∀ i : Fin 48, t.slots[i].axis = x → t.slots[i] = s.slots[i] ∨ t.slots[i] = Slot.free

namespace State.Apart

theorem of_eq (axes : t.axes = s.axes) (compares : t.compares = s.compares) (commits : t.commits = s.commits)
    (slots : t.slots = s.slots) (x : AxisId) : State.Apart x s t :=
  ⟨State.axis_congr axes x, State.compareList_congr compares x, fun p => State.hasCommit_congr commits p x,
    fun i _ => by rw [slots], fun i _ => .inl (by rw [slots])⟩

theorem refl (x : AxisId) (s : State) : State.Apart x s s := .of_eq rfl rfl rfl rfl x

theorem trans (h : State.Apart x s t) (k : State.Apart x t u) : State.Apart x s u := by
  refine ⟨k.axis.trans h.axis, k.compares.trans h.compares, fun p => (k.commits p).trans (h.commits p), fun i on => ?_, fun i on => ?_⟩
  · have same := h.slot i on
    exact (k.slot i (by rw [same]; exact on)).trans same
  · rcases k.comes i on with same | free
    · rw [same] at on ⊢
      exact h.comes i on
    · exact .inr free

end State.Apart

/-! ### Claims -/

/-- Two states between which no claim has changed but one in RELEASING of a generator (R143). -/
def State.ClaimsStand (s t : State) : Prop :=
  ∀ r, ((∀ g, r ≠ .generator g) ∨ (s.claim r).state ≠ .releasing) → t.claim r = s.claim r

theorem State.ClaimsStand.of_eq (claims : t.claims = s.claims) : s.ClaimsStand t := fun r _ => State.claim_congr claims r

theorem State.ClaimsStand.trans (h : s.ClaimsStand t) (k : t.ClaimsStand u) : s.ClaimsStand u := fun r stands =>
  have same := h r stands
  (k r (by rw [same]; exact stands)).trans same

theorem State.ClaimsStand.holds (h : s.ClaimsStand t) {p : PortId} {r : Resource} (held : s.holds p r = true) : t.holds p r = true := by
  have claim := (s.holds_iff p r).mp held
  rw [State.holds_iff, h r (.inr (by rw [claim.1]; decide))]
  exact claim

theorem State.ClaimsStand.holds_eq (h : s.ClaimsStand t) (p : PortId) {r : Resource} (other : ∀ g, r ≠ .generator g) :
    t.holds p r = s.holds p r := by
  unfold State.holds State.holder
  rw [h r (.inl other)]

theorem GenOnly.claimsStand {k : Nat} (h : GenOnly g k s t) : s.ClaimsStand t := by
  intro r stands
  by_cases e : r = .generator g
  · subst e
    rcases stands with other | held
    · exact absurd rfl (other g)
    · rcases h.claim with same | ⟨releasing, -⟩
      · exact same
      · exact absurd releasing held
  · exact h.other_claims r e

theorem GenOnly.apart {k : Nat} (h : GenOnly g k s t) (x : AxisId) : State.Apart x s t :=
  .of_eq h.move.axes h.move.compares h.move.commits h.move.slots x

/-! ### Triggers at a generator -/

/-- Two records of a generator that differ at most in the pending trigger. -/
def Generator.Triggered (n m : Generator) : Prop := m = { n with pendingTrigger := m.pendingTrigger }

theorem Generator.Triggered.refl (n : Generator) : n.Triggered n := rfl

theorem Generator.Triggered.of_eq {n m : Generator} (h : m = n) : n.Triggered m := h ▸ rfl

theorem Generator.Triggered.trans {n m k : Generator} (h : n.Triggered m) (l : m.Triggered k) : n.Triggered k := by
  unfold Generator.Triggered at *
  rw [l, h]

/-- Whatever does not read the pending trigger is the same of both. -/
theorem Generator.Triggered.of {n m : Generator} {α : Type} (h : n.Triggered m) (f : Generator → α)
    (unread : ∀ b, f { n with pendingTrigger := b } = f n) : f m = f n := by
  unfold Generator.Triggered at h
  rw [h]
  exact unread _

/-- A generator that hears nothing of a count event of an axis: it waits for no trigger and does not follow the axis. -/
structure Generator.Deaf (x : AxisId) (n : Generator) : Prop where
  not_armed : n.state ≠ .armed
  not_following : n.followsNow x = false

theorem Generator.Deaf.triggered {n m : Generator} (h : n.Deaf x) (k : n.Triggered m) : m.Deaf x := by
  unfold Generator.Triggered at k
  rw [k]
  exact ⟨h.not_armed, h.not_following⟩

theorem Generator.deaf_of_state {n : Generator} (armed : n.state ≠ .armed) (following : n.state ≠ .following) (x : AxisId) : n.Deaf x :=
  ⟨armed, by unfold Generator.followsNow; rw [decide_eq_false following]; rfl⟩

theorem State.trigger_triggered (armed : (s.gen g).state ≠ .armed) (h : GenId) (source : TriggerSource) :
    (s.gen g).Triggered ((s.trigger h source).gen g) := by
  by_cases e : g = h
  · subst h
    by_cases lost : (s.gen g).state = .stopping ∨ (s.gen g).state = .halted
    · rw [State.trigger_lost source lost, State.postGen_gen]
      exact .refl _
    · rw [State.trigger_kept source armed (fun k => lost (.inl k)) fun k => lost (.inr k)]
      split
      · rw [State.postGen_gen]
        exact .refl _
      · rw [State.modGen_gen_same]
        exact rfl
  · obtain ⟨_, only⟩ := s.trigger_only h source
    exact .of_eq (only.others g e)

/-! ### A firing -/

theorem State.fireAction_slots (s : State) (x : AxisId) (e : CompareEntry) :
    (s.fireAction x e).1.slots = s.slots ∧ (s.fireAction x e).1.commits = s.commits ∧ s.ClaimsStand (s.fireAction x e).1 := by
  have out (p : PortId) (o : OutputId) (f : Channel → Channel) :
      (s.outAction p o f).1.slots = s.slots ∧ (s.outAction p o f).1.commits = s.commits ∧ s.ClaimsStand (s.outAction p o f).1 :=
    have reach := s.outAction_reach p o f
    ⟨reach.slots, reach.commits, .of_eq reach.claims⟩
  unfold State.fireAction
  split
  · exact ⟨rfl, rfl, .of_eq rfl⟩
  · exact out _ _ _
  · exact out _ _ _
  · exact out _ _ _
  · exact out _ _ _
  · split
    · obtain ⟨_, only⟩ := s.trigger_only ‹GenId› .compare
      exact ⟨only.move.slots, only.move.commits, only.claimsStand⟩
    · exact ⟨rfl, rfl, .of_eq rfl⟩
  · have reach := s.logCapture_reach x .compare e.target
    exact ⟨reach.slots, reach.commits, .of_eq reach.claims⟩

theorem State.fireAction_triggered (armed : (s.gen g).state ≠ .armed) (x : AxisId) (e : CompareEntry) :
    (s.gen g).Triggered ((s.fireAction x e).1.gen g) := by
  have out (p : PortId) (o : OutputId) (f : Channel → Channel) : (s.gen g).Triggered ((s.outAction p o f).1.gen g) :=
    .of_eq (State.gen_congr (s.outAction_reach p o f).gens g)
  unfold State.fireAction
  split
  · exact .refl _
  · exact out _ _ _
  · exact out _ _ _
  · exact out _ _ _
  · exact out _ _ _
  · split
    · exact State.trigger_triggered armed _ _
    · exact .refl _
  · exact .of_eq (State.gen_congr (s.logCapture_reach x .compare e.target).gens g)

/-- An axis after the action of a due entry on an axis: a capture record where the action is a CAPTURE (R57). -/
theorem State.fireAction_axis (s : State) (x y : AxisId) (e : CompareEntry) :
    (s.fireAction x e).1.axis y =
      if y = x ∧ e.action = .capture then (s.axis x).logged .compare e.target s.now else s.axis y := by
  have out (p : PortId) (o : OutputId) (f : Channel → Channel) : (s.outAction p o f).1.axis y = s.axis y :=
    State.axis_congr (s.outAction_reach p o f).axes y
  by_cases capture : e.action = .capture
  · have axes := State.axis_congr (s.logCapture_axes x .compare e.target) y
    unfold State.fireAction
    rw [capture]
    dsimp only
    rw [axes]
    by_cases same : y = x
    · subst y
      rw [if_pos ⟨rfl, rfl⟩, State.modAxis_axis_same]
    · rw [if_neg fun c => same c.1, State.modAxis_axis_other _ _ _ _ same]
  · rw [if_neg fun c => capture c.2]
    unfold State.fireAction
    split
    · rfl
    · exact out _ _ _
    · exact out _ _ _
    · exact out _ _ _
    · exact out _ _ _
    · split
      · obtain ⟨_, only⟩ := s.trigger_only ‹GenId› .compare
        exact State.axis_congr only.move.axes y
      · rfl
    · rename_i action
      exact absurd action capture

theorem State.fire_axis (s : State) (x y : AxisId) (d : AxisDir) (e : CompareEntry) :
    (s.fire x d e).axis y =
      if y = x ∧ e.action = .capture then (s.axis x).logged .compare e.target s.now else s.axis y := by
  rw [State.fire_eq, State.axis_congr (State.post_reach _ _ _).axes]
  exact s.fireAction_axis x y e

theorem State.fire_slots (s : State) (x : AxisId) (d : AxisDir) (e : CompareEntry) :
    (s.fire x d e).slots = s.slots ∧ (s.fire x d e).commits = s.commits ∧ s.ClaimsStand (s.fire x d e) := by
  obtain ⟨slots, commits, claims⟩ := s.fireAction_slots x e
  rw [State.fire_eq]
  exact ⟨(State.post_reach _ _ _).slots.trans slots, (State.post_reach _ _ _).commits.trans commits,
    claims.trans (.of_eq (State.post_reach _ _ _).claims)⟩

theorem State.fire_apart (other : y ≠ x) (d : AxisDir) (e : CompareEntry) : State.Apart y s (s.fire x d e) := by
  obtain ⟨slots, commits, -⟩ := s.fire_slots x d e
  refine ⟨(s.fire_axis x y d e).trans (if_neg fun c => other c.1), (s.fire_compareList x y d e).trans (if_neg other),
    fun p => State.hasCommit_congr commits p y, fun i _ => by rw [slots], fun i _ => .inl (by rw [slots])⟩

theorem State.fire_triggered (armed : (s.gen g).state ≠ .armed) (x : AxisId) (d : AxisDir) (e : CompareEntry) :
    (s.gen g).Triggered ((s.fire x d e).gen g) := by
  rw [State.fire_eq, State.gen_congr (State.post_reach _ _ _).gens]
  exact State.fireAction_triggered armed x e

/-! ### The compare unit's part -/

/-- What every firing keeps stands after the compare unit's part (R54). -/
theorem State.compareEvent_all (P : State → Prop) (fires : ∀ t e, P t → e ∈ s.dueEntries x d → P (t.fire x d e)) (start : P s) :
    P (s.compareEvent x d) := by
  unfold State.compareEvent
  generalize s.dueEntries x d = l at fires
  induction l generalizing s with
  | nil => exact start
  | cons e l ih => exact ih (fires s e start (.head _)) fun t f p mem => fires t f p (.tail _ mem)

theorem State.compareEvent_slots (s : State) (x : AxisId) (d : AxisDir) :
    (s.compareEvent x d).slots = s.slots ∧ (s.compareEvent x d).commits = s.commits ∧ s.ClaimsStand (s.compareEvent x d) := by
  refine State.compareEvent_all (fun t => t.slots = s.slots ∧ t.commits = s.commits ∧ s.ClaimsStand t) (fun t e p _ => ?_)
    ⟨rfl, rfl, .of_eq rfl⟩
  obtain ⟨slots, commits, claims⟩ := t.fire_slots x d e
  exact ⟨slots.trans p.1, commits.trans p.2.1, p.2.2.trans claims⟩

theorem State.compareEvent_triggered (armed : (s.gen g).state ≠ .armed) (x : AxisId) (d : AxisDir) :
    (s.gen g).Triggered ((s.compareEvent x d).gen g) := by
  refine State.compareEvent_all (fun t => (s.gen g).Triggered (t.gen g)) (fun t e p _ => p.trans (State.fire_triggered ?_ x d e)) (.refl _)
  unfold Generator.Triggered at p
  rw [p]
  exact armed

/-! ### The cam engine's part -/

/-- A window that its commit frees leaves a FREE slot (R29, log 17). -/
theorem Slot.committed_erased {w : Slot} (used : w.status ≠ .free) (free : w.committed.status = .free) : w.committed = .free := by
  unfold Slot.committed at free ⊢
  cases e : w.status with
  | retiring => rfl
  | free => exact absurd e used
  | live =>
    rw [e] at free
    exact absurd (e.symm.trans free) (by decide)
  | _ =>
    rw [e] at free
    exact absurd (show SlotStatus.live = .free from free) (by decide)

theorem State.setCommit_apart (other : y ≠ x) (s : State) (p : PortId) (b : Bool) : State.Apart y s (s.setCommit p x b) := by
  refine ⟨rfl, rfl, fun q => ?_, fun _ _ => rfl, fun _ _ => .inl rfl⟩
  rw [State.setCommit_hasCommit]
  exact if_neg fun c => other c.2

theorem State.applyCommit_apart (other : y ≠ x) (s : State) (p : PortId) (timing : CommitTiming) :
    State.Apart y s (s.applyCommit p x timing) := by
  have reach := s.applyCommit_reach p x timing
  refine ⟨State.axis_congr reach.axes y, State.compareList_congr reach.compares y,
    fun q => State.hasCommit_congr (s.applyCommit_commits p x timing) q y, fun i on => ?_, fun i on => ?_⟩
  · refine (s.applyCommit_slot p x timing i).trans (if_neg fun own => other ?_)
    exact on.symm.trans ((s.ownWindow_iff p x _).mp own).2.1
  · have slot := s.applyCommit_slot p x timing i
    split at slot <;> rename_i own
    · rcases s.slots[i].committed_status with free | ⟨-, live⟩
      · rw [Slot.evaluated_of_free free] at slot
        right
        rw [slot]
        exact Slot.committed_erased ((s.ownWindow_iff p x _).mp own).1 free
      · rw [slot, Slot.evaluated_axis, (Slot.committed_output (by rw [live]; decide)).2] at on
        exact absurd (on.symm.trans ((s.ownWindow_iff p x _).mp own).2.1) other
    · exact .inl slot

theorem State.applyPendingOf_apart (other : y ≠ x) (s : State) (p : PortId) : State.Apart y s (s.applyPendingOf x p) := by
  unfold State.applyPendingOf
  split
  · exact (State.applyCommit_apart other s p _).trans (State.setCommit_apart other _ p false)
  · exact .refl y s

theorem State.evaluateAxis_apart (other : y ≠ x) (s : State) : State.Apart y s (s.evaluateAxis x) := by
  have reach := State.evaluateAxis_reach s x
  refine ⟨State.axis_congr reach.axes y, State.compareList_congr reach.compares y, fun p => State.hasCommit_congr reach.commits p y,
    fun i on => ?_, fun i on => .inl ?_⟩
  · exact (s.evaluateAxis_slot x i).trans (if_neg fun c => other (on.symm.trans c))
  · have slot := s.evaluateAxis_slot x i
    split at slot <;> rename_i same
    · rw [slot, Slot.evaluated_axis] at on
      exact absurd (on.symm.trans same) other
    · exact slot

theorem State.camEvent_apart (other : y ≠ x) (s : State) (rollover : Bool) : State.Apart y s (s.camEvent x rollover) := by
  unfold State.camEvent
  refine State.Apart.trans ?_ (State.evaluateAxis_apart other _)
  split
  · rw [State.applyPending_eq]
    exact ((State.applyPendingOf_apart other s .p1).trans (State.applyPendingOf_apart other _ .p2)).trans
      (State.applyPendingOf_apart other _ .p3)
  · exact .refl y s

/-! ### The parts of a count event -/

/-- What a part of a count event of an axis does at most: nothing at another axis, and at its own but to the capture log. -/
structure State.Part (x : AxisId) (s t : State) : Prop where
  reach : CountOnly s t
  apart : ∀ y, y ≠ x → State.Apart y s t
  axis : t.axis x = { s.axis x with log := (t.axis x).log, lost := (t.axis x).lost, lossReported := (t.axis x).lossReported }
  claims : s.ClaimsStand t

namespace State.Part

theorem refl (x : AxisId) (s : State) : State.Part x s s := ⟨.refl s, fun y _ => .refl y s, rfl, .of_eq rfl⟩

theorem trans (h : State.Part x s t) (k : State.Part x t u) : State.Part x s u := by
  refine ⟨h.reach.trans k.reach, fun y other => (h.apart y other).trans (k.apart y other), ?_, h.claims.trans k.claims⟩
  rw [k.axis, h.axis]

theorem of_gen {k : Nat} (h : GenOnly g k s t) : State.Part x s t :=
  ⟨h.move.toCountOnly, fun y _ => h.apart y, by rw [State.axis_congr h.move.axes], h.claimsStand⟩

theorem of_ports (h : PortsOnly s t) : State.Part x s t :=
  ⟨h.toMoveOnly.toCountOnly, fun y _ => .of_eq h.axes h.compares h.commits h.slots y, by rw [State.axis_congr h.axes], .of_eq h.claims⟩

theorem chosen (x : AxisId) (s : State) : State.Part x s s.choose :=
  ⟨⟨rfl⟩, fun y _ => .of_eq (s := s) (t := s.choose) rfl rfl rfl rfl y, rfl, .of_eq rfl⟩

end State.Part

theorem State.fire_part (s : State) (x : AxisId) (d : AxisDir) (e : CompareEntry) : State.Part x s (s.fire x d e) := by
  refine ⟨s.fire_reach x d e, fun y other => State.fire_apart other d e, ?_, (s.fire_slots x d e).2.2⟩
  rw [State.fire_axis]
  split
  · exact Axis.logged_keeps _ _ _ _
  · rfl

theorem State.compareEvent_part (s : State) (x : AxisId) (d : AxisDir) : State.Part x s (s.compareEvent x d) :=
  State.compareEvent_all (State.Part x s) (fun t e p _ => p.trans (t.fire_part x d e)) (.refl x s)

theorem State.followEvent_part (s : State) (x y : AxisId) (d : AxisDir) (g : GenId) : State.Part y s (s.followEvent x d g) := by
  obtain ⟨_, only⟩ := s.followEvent_only x d g
  exact .of_gen only

theorem State.evaluateAxis_part (s : State) (x : AxisId) : State.Part x s (s.evaluateAxis x) := by
  have reach := State.evaluateAxis_reach s x
  exact ⟨(s.evaluateAxis_keeps x).reach, fun y other => State.evaluateAxis_apart other s, by rw [State.axis_congr reach.axes],
    .of_eq reach.claims⟩

theorem State.camEvent_part (s : State) (x : AxisId) (rollover : Bool) : State.Part x s (s.camEvent x rollover) := by
  have reach := s.camEvent_reach x rollover
  exact ⟨(s.camEvent_keeps x rollover).reach, fun y other => State.camEvent_apart other s rollover,
    by rw [State.axis_congr reach.axes], .of_eq reach.claims⟩

theorem State.takeParts_part (parts : List (Bool × (State → State))) (h : ∀ f ∈ parts, ∀ t, State.Part x t (f.2 t)) (s : State) :
    State.Part x s (takeParts parts s) :=
  takeParts_all (State.Part x s) parts (fun f hf _ p => p.trans (h f hf _)) (fun _ p => p.trans (.chosen x _)) (.refl x s)

/-! ### A count event at a generator that hears nothing of it -/

theorem State.followEvent_same (quiet : ∀ y, (s.gen g).followsNow y = true → y ≠ x) (d : AxisDir) (h : GenId) :
    (s.followEvent x d h).gen g = s.gen g := by
  by_cases e : g = h
  · subst h
    rw [State.followEvent_of_not s d (Bool.eq_false_iff.mpr fun k => quiet x k rfl)]
  · obtain ⟨_, only⟩ := s.followEvent_only x d h
    exact only.others g e

theorem Generator.Deaf.quiet {n : Generator} (h : n.Deaf x) : ∀ y, n.followsNow y = true → y ≠ x := fun _ k e => by
  rw [e, h.not_following] at k
  cases k

/-- A count event leaves a generator that hears nothing of it, but for its pending trigger. -/
theorem State.countEvent_triggered (deaf : (s.gen g).Deaf x) (d : AxisDir) : (s.gen g).Triggered ((s.countEvent x d).gen g) := by
  have follow (u : State) : ∀ f ∈ u.followParts x d, ∀ t, (s.gen g).Triggered (t.gen g) → (s.gen g).Triggered ((f.2 t).gen g) := by
    intro f hf t p
    obtain ⟨h, -, rfl⟩ := List.mem_map.mp hf
    exact p.trans (.of_eq (State.followEvent_same (deaf.triggered p).quiet d h))
  unfold State.countEvent
  dsimp only
  split
  · exact takeParts_all (fun t => (s.gen g).Triggered (t.gen g)) _ (follow _) (fun _ p => p) (.refl _)
  · refine takeParts_all (fun t => (s.gen g).Triggered (t.gen g)) _ (fun f hf t p => ?_) (fun _ p => p) (.refl _)
    rcases List.mem_cons.mp hf with rfl | hf
    · exact p.trans (.of_eq (State.gen_congr (t.camEvent_reach x _).gens g))
    rcases List.mem_cons.mp hf with rfl | hf
    · exact p.trans (State.compareEvent_triggered (deaf.triggered p).not_armed x d)
    exact follow _ f hf t p
  · refine takeParts_all (fun t => (s.gen g).Triggered (t.gen g)) _ (fun f hf t p => ?_) (fun _ p => p) (.refl _)
    rcases List.mem_cons.mp hf with rfl | hf
    · exact p.trans (.of_eq (State.gen_congr (State.evaluateAxis_reach t x).gens g))
    rcases List.mem_cons.mp hf with rfl | hf
    · exact p.trans (.of_eq (State.gen_congr (State.broadcast_reach _ _ _).gens g))
    exact follow _ f hf t p

/-! ### A count event and the events of axis V, elsewhere -/

/-- What a count event of an axis leaves (R9): the other axes with what belongs to them, and the claims. -/
structure State.Beside (x : AxisId) (s t : State) : Prop where
  reach : CountOnly s t
  apart : ∀ y, y ≠ x → State.Apart y s t
  claims : s.ClaimsStand t

theorem State.Part.beside (h : State.Part x s t) : State.Beside x s t := ⟨h.reach, h.apart, h.claims⟩

theorem State.Beside.refl (x : AxisId) (s : State) : State.Beside x s s := (State.Part.refl x s).beside

theorem State.Beside.trans (h : State.Beside x s t) (k : State.Beside x t u) : State.Beside x s u :=
  ⟨h.reach.trans k.reach, fun y other => (h.apart y other).trans (k.apart y other), h.claims.trans k.claims⟩

theorem State.modAxis_beside (s : State) (x : AxisId) (f : Axis → Axis) : State.Beside x s (s.modAxis x f) :=
  ⟨⟨rfl⟩, fun y other => ⟨State.modAxis_axis_other s x y f other, rfl, fun _ => rfl, fun _ _ => rfl, fun _ _ => .inl rfl⟩, .of_eq rfl⟩

theorem State.followParts_part (s : State) (x y : AxisId) (d : AxisDir) : ∀ f ∈ s.followParts x d, ∀ t, State.Part y t (f.2 t) := by
  intro f hf t
  obtain ⟨g, -, rfl⟩ := List.mem_map.mp hf
  exact t.followEvent_part x y d g

theorem State.countEvent_beside (s : State) (x : AxisId) (d : AxisDir) : State.Beside x s (s.countEvent x d) := by
  unfold State.countEvent
  dsimp only
  split
  · exact (s.modAxis_beside x _).trans (State.takeParts_part _ (State.followParts_part _ x x d) _).beside
  · refine ((s.modAxis_beside x _).trans (State.modAxis_beside _ x _)).trans (State.takeParts_part _ (fun f hf t => ?_) _).beside
    rcases List.mem_cons.mp hf with rfl | hf
    · exact t.camEvent_part x _
    rcases List.mem_cons.mp hf with rfl | hf
    · exact t.compareEvent_part x d
    exact State.followParts_part _ x x d f hf t
  · refine ((s.modAxis_beside x _).trans (State.modAxis_beside _ x _)).trans (State.takeParts_part _ (fun f hf t => ?_) _).beside
    rcases List.mem_cons.mp hf with rfl | hf
    · exact t.evaluateAxis_part x
    rcases List.mem_cons.mp hf with rfl | hf
    · exact .of_ports (State.broadcast_reach _ _ _)
    exact State.followParts_part _ x x d f hf t

theorem State.frame_beside (s : State) (v : List AxisDir) (taking : Bool) : State.Beside x s { s with vEvents := v, vTaking := taking } :=
  ⟨⟨rfl⟩, fun y _ => .of_eq (s := s) (t := { s with vEvents := v, vTaking := taking }) rfl rfl rfl rfl y, .of_eq rfl⟩

theorem State.deferredStep_beside (s : State) : State.Beside x s s.deferredStep := by
  unfold State.deferredStep
  split
  · obtain ⟨_, only⟩ := s.takeStep_only .gv
    exact (State.Part.of_gen only).beside
  · exact .refl x s

/-- The count events of axis V taken one after another. -/
theorem State.drain_beside (s : State) : State.Beside .v s s.drain := by
  unfold State.drain
  generalize s.vEvents.length + (s.gen .gv).queue.length + 2 = n
  induction n generalizing s with
  | zero => exact .refl .v s
  | succ n ih =>
    unfold State.drainSteps
    split
    · exact .refl .v s
    · rename_i d rest _
      have taken := (s.frame_beside rest true (x := .v)).trans (State.countEvent_beside _ .v d)
      exact ((taken.trans (State.frame_beside _ _ false)).trans (State.deferredStep_beside _)).trans (ih _)

/-- The count events of axis V at a generator that hears nothing of them; GV has put off no first step. -/
theorem State.drain_triggered (deaf : (s.gen g).Deaf .v) (due : g = .gv → (s.gen g).firstStepDue = false) :
    (s.gen g).Triggered (s.drain.gen g) := by
  unfold State.drain
  generalize s.vEvents.length + (s.gen .gv).queue.length + 2 = n
  induction n generalizing s with
  | zero => exact .refl _
  | succ n ih =>
    unfold State.drainSteps
    split
    · exact .refl _
    · rename_i d rest _
      have taken := State.countEvent_triggered (s := { s with vEvents := rest, vTaking := true }) deaf d
      generalize State.countEvent { s with vEvents := rest, vTaking := true } .v d = t at taken
      have same : ({ t with vTaking := false } : State).deferredStep.gen g = t.gen g := by
        unfold State.deferredStep
        split <;> rename_i owing
        · by_cases e : g = .gv
          · subst e
            have kept : (t.gen .gv).firstStepDue = (s.gen .gv).firstStepDue := taken.of Generator.firstStepDue fun _ => rfl
            change (t.gen .gv).firstStepDue = true at owing
            rw [kept, due rfl] at owing
            cases owing
          · obtain ⟨_, only⟩ := State.takeStep_only { t with vTaking := false } .gv
            exact only.others g e
        · rfl
      have step : (s.gen g).Triggered (({ t with vTaking := false } : State).deferredStep.gen g) := by
        rw [same]
        exact taken
      refine step.trans (ih (deaf.triggered step) fun e => ?_)
      exact (step.of Generator.firstStepDue fun _ => rfl).trans (due e)

end Sys2Proof.Machine
end

section
/-! SUPPORT. The cam engine's part of a count event, slot by slot, and the pending commits at a rollover (R32, R36, R37). -/

namespace Sys2Proof.Machine

variable {s t u : State} {x : AxisId} {p q : PortId} {i : Fin 48}

theorem Slot.evaluated_idem (w : Slot) (a : Axis) : (w.evaluated a).evaluated a = w.evaluated a := by
  unfold Slot.evaluated
  by_cases counts : w.status.counts = true
  · rw [if_pos counts]
    exact if_pos counts
  · rw [if_neg counts, if_neg counts]

/-! ### The pending commit of one session -/

theorem State.applyPendingOf_slot (s : State) (x : AxisId) (p : PortId) (i : Fin 48) :
    (s.applyPendingOf x p).slots[i] =
      if s.hasCommit p x = true ∧ s.ownWindow p x s.slots[i] = true then s.slots[i].committed.evaluated (s.axis x) else s.slots[i] := by
  unfold State.applyPendingOf
  by_cases commit : s.hasCommit p x = true
  · rw [if_pos commit]
    refine (s.applyCommit_slot p x .atRollover i).trans ?_
    by_cases own : s.ownWindow p x s.slots[i] = true
    · rw [if_pos own, if_pos ⟨commit, own⟩]
    · rw [if_neg own, if_neg fun c => own c.2]
  · rw [if_neg commit, if_neg fun c => commit c.1]

theorem State.applyPendingOf_commits (s : State) (x : AxisId) (p q : PortId) :
    (s.applyPendingOf x p).hasCommit q x = if q = p then false else s.hasCommit q x := by
  unfold State.applyPendingOf
  split <;> rename_i commit
  · rw [State.setCommit_hasCommit]
    by_cases same : q = p
    · rw [if_pos ⟨same, rfl⟩, if_pos same]
    · rw [if_neg fun c => same c.1, if_neg same]
      exact State.hasCommit_congr (s.applyCommit_commits p x _) q x
  · split <;> rename_i same
    · rw [same]
      exact Bool.eq_false_iff.mpr commit
    · rfl

theorem State.applyPendingOf_reach (s : State) (x : AxisId) (p : PortId) : CommitOnly s (s.applyPendingOf x p) := by
  unfold State.applyPendingOf
  split
  · exact (s.applyCommit_reach p x _).trans ⟨rfl⟩
  · exact .refl s

/-- The notice of a pending commit that is applied (R36). -/
theorem State.applyPendingOf_port (s : State) (x : AxisId) (p q : PortId) :
    (s.applyPendingOf x p).port q =
      if q = p ∧ s.hasCommit p x = true then
        (s.port p).tell (.commitDone x .atRollover (s.commitCount p x) (s.axis x).extended) s.now
      else s.port q := by
  unfold State.applyPendingOf
  by_cases commit : s.hasCommit p x = true
  · rw [if_pos commit]
    refine (s.applyCommit_port p q x .atRollover).trans ?_
    by_cases same : q = p
    · rw [if_pos same, if_pos ⟨same, commit⟩]
    · rw [if_neg same, if_neg fun c => same c.1]
  · rw [if_neg commit, if_neg fun c => commit c.2]

/-- A resource has one holder at most. -/
theorem State.holds_unique {r : Resource} (h : s.holds p r = true) (k : s.holds q r = true) : q = p := by
  have one := ((s.holds_iff p r).mp h).2
  rw [((s.holds_iff q r).mp k).2] at one
  exact Option.some.inj one

/-- What the commits of the other sessions leave of a slot, of a session's commit and of the terms both are read in. -/
structure State.Awaits (s : State) (x : AxisId) (p : PortId) (t : State) : Prop where
  axes : t.axes = s.axes
  claims : t.claims = s.claims
  now : t.now = s.now
  commit : t.hasCommit p x = s.hasCommit p x

theorem State.Awaits.refl (s : State) (x : AxisId) (p : PortId) : s.Awaits x p s := ⟨rfl, rfl, rfl, rfl⟩

theorem State.Awaits.other (h : s.Awaits x p t) (other : p ≠ q) : s.Awaits x p (t.applyPendingOf x q) :=
  have reach := t.applyPendingOf_reach x q
  ⟨reach.axes.trans h.axes, reach.claims.trans h.claims, reach.now.trans h.now,
    ((t.applyPendingOf_commits x q p).trans (if_neg other)).trans h.commit⟩

/-! ### All pending commits of an axis -/

/-- What every session's commit keeps stands after them all. -/
theorem State.applyPending_all (P : State → Prop) (each : ∀ t q, P t → P (t.applyPendingOf x q)) (start : P s) : P (s.applyPending x) := by
  rw [State.applyPending_eq]
  exact each _ _ (each _ _ (each _ _ start))

/-- What a session's commit brings about, the others' keeping what it finds and what it leaves, stands after them all. -/
theorem State.applyPending_once (P Q : State → Prop) (p : PortId) (before : ∀ t q, q ≠ p → P t → P (t.applyPendingOf x q))
    (acts : ∀ t, P t → Q (t.applyPendingOf x p)) (after : ∀ t q, q ≠ p → Q t → Q (t.applyPendingOf x q)) (start : P s) :
    Q (s.applyPending x) := by
  rw [State.applyPending_eq]
  cases p with
  | p1 => exact after _ _ (by decide) (after _ _ (by decide) (acts _ start))
  | p2 => exact after _ _ (by decide) (acts _ (before _ _ (by decide) start))
  | p3 => exact acts _ (before _ _ (by decide) (before _ _ (by decide) start))

theorem State.applyPending_commits (s : State) (x : AxisId) (p : PortId) : (s.applyPending x).hasCommit p x = false := by
  refine State.applyPending_once (fun _ => True) (fun t => t.hasCommit p x = false) p (fun _ _ _ _ => trivial) (fun t _ => ?_)
    (fun t q other k => ?_) trivial
  · rw [State.applyPendingOf_commits, if_pos rfl]
  · rw [State.applyPendingOf_commits, if_neg other.symm]
    exact k

/-- A slot on which no session with a pending commit has a claim stands (R29). -/
theorem State.applyPending_slot_kept (unclaimed : ∀ q, s.holds q (.output s.slots[i].output) = true → s.hasCommit q x = false) :
    (s.applyPending x).slots[i] = s.slots[i] := by
  refine (State.applyPending_all
    (fun t => t.slots[i] = s.slots[i] ∧ t.claims = s.claims ∧ ∀ q, t.hasCommit q x = true → s.hasCommit q x = true)
    (fun t q k => ?_) ⟨rfl, rfl, fun _ k => k⟩).1
  obtain ⟨slot, claims, commits⟩ := k
  refine ⟨?_, (t.applyPendingOf_reach x q).claims.trans claims, fun q' k => ?_⟩
  · rw [State.applyPendingOf_slot, if_neg, slot]
    rintro ⟨commit, own⟩
    obtain ⟨-, -, held⟩ := (t.ownWindow_iff q x _).mp own
    rw [slot, State.holds_congr claims] at held
    exact absurd ((unclaimed q held).symm.trans (commits q commit)) (by decide)
  · rw [State.applyPendingOf_commits] at k
    split at k
    · cases k
    · exact commits q' k

/-- A slot that a session does not own its commit leaves. -/
theorem State.applyPendingOf_slot_other (foreign : t.ownWindow q x t.slots[i] = false) : (t.applyPendingOf x q).slots[i] = t.slots[i] := by
  rw [State.applyPendingOf_slot]
  exact if_neg fun c => absurd (foreign.symm.trans c.2) (by decide)

theorem State.ownWindow_other {w : Slot} (h : w.status = .free ∨ t.holds p (.output w.output) = true) (other : q ≠ p) :
    t.ownWindow q x w = false := by
  rw [Bool.eq_false_iff]
  intro own
  obtain ⟨used, -, held⟩ := (t.ownWindow_iff q x w).mp own
  rcases h with free | holds
  · exact used free
  · exact other (State.holds_unique holds held)

/-- A window of a session with a pending commit is as its commit leaves it (R29, R32). -/
theorem State.applyPending_slot_committed (used : s.slots[i].status ≠ .free) (on : s.slots[i].axis = x)
    (held : s.holds p (.output s.slots[i].output) = true) (commit : s.hasCommit p x = true) :
    (s.applyPending x).slots[i] = s.slots[i].committed.evaluated (s.axis x) := by
  have committed : s.slots[i].committed.status = .free ∨ s.slots[i].committed.output = s.slots[i].output := by
    by_cases free : s.slots[i].committed.status = .free
    · exact .inl free
    · exact .inr (Slot.committed_output free).1
  refine (State.applyPending_once (fun t => s.Awaits x p t ∧ t.slots[i] = s.slots[i])
    (fun t => t.claims = s.claims ∧ t.slots[i] = s.slots[i].committed.evaluated (s.axis x)) p (fun t q other k => ?_) (fun t k => ?_)
    (fun t q other k => ?_) ⟨.refl s x p, rfl⟩).2
  · obtain ⟨awaits, slot⟩ := k
    refine ⟨awaits.other other.symm, (State.applyPendingOf_slot_other ?_).trans slot⟩
    refine State.ownWindow_other (p := p) (.inr ?_) other
    rw [slot, State.holds_congr awaits.claims]
    exact held
  · obtain ⟨awaits, slot⟩ := k
    refine ⟨(t.applyPendingOf_reach x p).claims.trans awaits.claims, ?_⟩
    rw [State.applyPendingOf_slot, slot, State.axis_congr awaits.axes, if_pos]
    refine ⟨awaits.commit.trans commit, (t.ownWindow_iff p x _).mpr ⟨used, on, ?_⟩⟩
    rw [State.holds_congr awaits.claims]
    exact held
  · obtain ⟨claims, slot⟩ := k
    refine ⟨(t.applyPendingOf_reach x q).claims.trans claims, (State.applyPendingOf_slot_other ?_).trans slot⟩
    refine State.ownWindow_other (p := p) ?_ other
    rw [slot, Slot.evaluated_status, Slot.evaluated_output, State.holds_congr claims]
    refine committed.imp id fun same => ?_
    rw [same]
    exact held

/-! ### The evaluation that follows -/

theorem State.camEvent_commits (s : State) (x : AxisId) (rollover : Bool) (p : PortId) :
    (s.camEvent x rollover).hasCommit p x = if rollover then false else s.hasCommit p x := by
  unfold State.camEvent
  rw [State.hasCommit_congr (State.evaluateAxis_reach _ x).commits]
  split
  · exact s.applyPending_commits x p
  · rfl

/-- A window on the axis that no commit takes first is evaluated (R37). -/
theorem State.camEvent_slot_kept (on : s.slots[i].axis = x) {rollover : Bool}
    (kept : rollover = false ∨ ∀ q, s.holds q (.output s.slots[i].output) = true → s.hasCommit q x = false) :
    (s.camEvent x rollover).slots[i] = s.slots[i].evaluated (s.axis x) := by
  unfold State.camEvent
  rw [State.evaluateAxis_slot]
  cases rollover with
  | false => exact if_pos on
  | true =>
    have slot := State.applyPending_slot_kept (kept.resolve_left (by decide))
    simp only [if_true]
    rw [slot, State.axis_congr (s.applyPending_reach x).axes, if_pos on]

/-- A window of a session with a pending commit is committed at a rollover and evaluated (R32, R37). -/
theorem State.camEvent_slot_committed (used : s.slots[i].status ≠ .free) (on : s.slots[i].axis = x)
    (held : s.holds p (.output s.slots[i].output) = true) (commit : s.hasCommit p x = true) :
    (s.camEvent x true).slots[i] = s.slots[i].committed.evaluated (s.axis x) := by
  unfold State.camEvent
  rw [State.evaluateAxis_slot]
  simp only [if_true]
  rw [State.applyPending_slot_committed used on held commit, State.axis_congr (s.applyPending_reach x).axes, Slot.evaluated_idem,
    ite_self]

/-! ### The notice of a commit at a rollover (R36) -/

theorem Vector.toList_filter_length {α : Type} {n : Nat} (v : Vector α n) (f : α → Bool) :
    (v.toList.filter f).length = ((List.finRange n).filter fun i => f v[i]).length := by
  have list : v.toList = (List.finRange n).map fun i => v[i] := by
    refine List.ext_getElem (by simp) fun k h _ => ?_
    simp
  rw [list, List.filter_map, List.length_map]
  rfl

/-- The commits of other sessions change no window of a session (R29, R36). -/
theorem State.Awaits.count (h : s.Awaits x p t)
    (slots : ∀ i : Fin 48, (s.ownWindow p x t.slots[i] && t.slots[i].status.changes) = (s.ownWindow p x s.slots[i] && s.slots[i].status.changes)) :
    t.commitCount p x = s.commitCount p x := by
  have own : t.ownWindow p x = s.ownWindow p x := by
    funext w
    unfold State.ownWindow
    rw [State.holds_congr h.claims]
  unfold State.commitCount
  rw [Vector.toList_filter_length, Vector.toList_filter_length, own]
  exact congrArg List.length (List.filter_congr fun i _ => slots i)

/-- A pending commit that is applied at a rollover is reported where there is room (R32, R36). -/
theorem State.applyPending_reported (commit : s.hasCommit p x = true) (isOpen : (s.session p).isOpen = true)
    (room : (s.port p).notices.items.length < 24) :
    ((s.applyPending x).port p).Holds (.commitDone x .atRollover (s.commitCount p x) (s.axis x).extended) := by
  refine State.applyPending_once
    (fun t => s.Awaits x p t ∧ t.port p = s.port p ∧
      ∀ i : Fin 48, (s.ownWindow p x t.slots[i] && t.slots[i].status.changes) = (s.ownWindow p x s.slots[i] && s.slots[i].status.changes))
    (fun t => (t.port p).Holds (.commitDone x .atRollover (s.commitCount p x) (s.axis x).extended)) p
    (fun t q other k => ?_) (fun t k => ?_) (fun t q other k => ?_) ⟨.refl s x p, rfl, fun _ => rfl⟩
  · obtain ⟨awaits, port, slots⟩ := k
    refine ⟨awaits.other other.symm, ((t.applyPendingOf_port x q p).trans (if_neg fun c => other c.1.symm)).trans port, fun i => ?_⟩
    rw [← slots i, State.applyPendingOf_slot]
    split <;> rename_i taken
    · obtain ⟨-, own⟩ := taken
      obtain ⟨-, -, held⟩ := (t.ownWindow_iff q x _).mp own
      rw [State.holds_congr awaits.claims] at held
      have before := State.ownWindow_other (x := x) (w := t.slots[i]) (p := q) (.inr held) other.symm
      have after : s.ownWindow p x (t.slots[i].committed.evaluated (t.axis x)) = false := by
        refine State.ownWindow_other (p := q) ?_ other.symm
        rw [Slot.evaluated_status, Slot.evaluated_output]
        by_cases free : t.slots[i].committed.status = .free
        · exact .inl free
        · rw [(Slot.committed_output free).1]
          exact .inr held
      rw [before, after]
      rfl
    · rfl
  · obtain ⟨awaits, port, slots⟩ := k
    rw [State.applyPendingOf_port, if_pos ⟨rfl, awaits.commit.trans commit⟩, port, awaits.count slots, State.axis_congr awaits.axes]
    exact Port.tell_holds _ _ _ isOpen room
  · rw [State.applyPendingOf_port, if_neg fun c => other c.1.symm]
    exact k

theorem State.camEvent_reported (commit : s.hasCommit p x = true) (isOpen : (s.session p).isOpen = true)
    (room : (s.port p).notices.items.length < 24) :
    ((s.camEvent x true).port p).Holds (.commitDone x .atRollover (s.commitCount p x) (s.axis x).extended) := by
  have reported := State.applyPending_reported commit isOpen room
  unfold State.camEvent
  rw [State.port_congr (State.evaluateAxis_reach _ x).ports]
  exact reported

end Sys2Proof.Machine
end

section
/-! SUPPORT. A count event of an encoder's axis (R3, R5, R6, R9, R10, R37). -/

namespace Sys2Proof.Machine

variable {s t u : State} {x y : AxisId} {d : AxisDir} {g : GenId} {a : Axis}

/-! ### Where a count event takes an axis (Table 1.2) -/

theorem Sense.event_eq (c : Sense) (d : AxisDir) : c.event d = if c = .normal then d else d.opposite := by cases c <;> rfl

theorem Axis.advance_linear (mode : a.mode = .linear) (ahead : if d = .forward then a.position < 2000000000 else -2000000000 < a.position) :
    a.advance d = some (a.turn, if d = .forward then a.position + 1 else a.position - 1, false) := by
  unfold Axis.advance
  rw [mode]
  cases d
  · exact if_pos ahead
  · exact if_pos ahead

theorem Axis.advance_rotary (lawful : a.Lawful) (mode : a.mode = .rotary)
    (ahead : if d = .forward then a.position + 1 < a.cycle ∨ a.turn < 32767 else 0 < a.position ∨ -32768 < a.turn) :
    a.advance d =
      some
        (if d = .forward then (if a.position + 1 = a.cycle then a.turn + 1 else a.turn)
          else if a.position = 0 then a.turn - 1 else a.turn,
        if d = .forward then (if a.position + 1 = a.cycle then 0 else a.position + 1)
          else if a.position = 0 then (a.cycle : Int) - 1 else a.position - 1,
        if d = .forward then decide (a.position + 1 = a.cycle) else decide (a.position = 0)) := by
  have range := lawful.rotary_place mode
  unfold Axis.advance
  rw [mode]
  cases d
  · simp only [if_true] at ahead ⊢
    by_cases edge : a.position + 1 = a.cycle
    · rw [if_neg (by omega), if_pos edge, if_pos edge, if_pos (by omega), decide_eq_true edge]
    · rw [if_pos (by omega), if_neg edge, if_neg edge, decide_eq_false edge]
  · simp only [reduceCtorEq, if_false] at ahead ⊢
    by_cases edge : a.position = 0
    · rw [if_neg (by omega), if_pos edge, if_pos edge, if_pos (by omega), decide_eq_true edge]
    · rw [if_pos (by omega), if_neg edge, if_neg edge, decide_eq_false edge]

/-! ### A count event by its cases (R5 to R8) -/

/-- The state with an axis at the place to which a count event takes it. -/
def State.movedTo (s : State) (x : AxisId) (d : AxisDir) (turn position : Int) : State :=
  (s.modAxis x fun a => a.counted d).modAxis x fun a => { a with turn := turn, position := position }

theorem State.movedTo_axis (s : State) (x : AxisId) (d : AxisDir) (turn position : Int) :
    (s.movedTo x d turn position).axis x = { (s.axis x).counted d with turn := turn, position := position } := by
  unfold State.movedTo
  rw [State.modAxis_axis_same, State.modAxis_axis_same]

/-- The parts of a count event that moves its axis (R9). -/
def State.movedParts (s : State) (x : AxisId) (d : AxisDir) (rollover : Bool) : List (Bool × (State → State)) :=
  (rollover && s.anyCommit x, fun v => v.camEvent x rollover) ::
    (!(s.dueEntries x d).isEmpty, fun v => v.compareEvent x d) :: s.followParts x d

theorem State.countEvent_moves (counting : (s.axis x).status = .counting) {turn position : Int} {rollover : Bool}
    (moves : (s.axis x).advance d = some (turn, position, rollover)) :
    s.countEvent x d = takeParts ((s.movedTo x d turn position).movedParts x d rollover) (s.movedTo x d turn position) := by
  unfold State.countEvent
  dsimp only
  rw [counting, moves]
  rfl

theorem State.movedParts_part (s : State) (x : AxisId) (d : AxisDir) (rollover : Bool) :
    ∀ f ∈ s.movedParts x d rollover, ∀ t, State.Part x t (f.2 t) := by
  intro f hf t
  rcases List.mem_cons.mp hf with rfl | hf
  · exact t.camEvent_part x _
  rcases List.mem_cons.mp hf with rfl | hf
  · exact t.compareEvent_part x d
  exact State.followParts_part _ x x d f hf t

/-- The compare unit and the FOLLOW moves leave the windows and the pending commits. -/
theorem State.later_slots (s : State) (x : AxisId) (d : AxisDir) (b : Bool) :
    ∀ f ∈ (b, fun v : State => v.compareEvent x d) :: s.followParts x d, ∀ t : State,
      (f.2 t).slots = t.slots ∧ (f.2 t).commits = t.commits := by
  intro f hf t
  rcases List.mem_cons.mp hf with rfl | hf
  · exact ⟨(t.compareEvent_slots x d).1, (t.compareEvent_slots x d).2.1⟩
  · obtain ⟨g, -, rfl⟩ := List.mem_map.mp hf
    obtain ⟨_, only⟩ := t.followEvent_only x d g
    exact ⟨only.move.slots, only.move.commits⟩

theorem Slot.evaluated_congr {a b : Axis} (same : b = { a with log := b.log, lost := b.lost, lossReported := b.lossReported }) (w : Slot) :
    w.evaluated b = w.evaluated a := by
  rw [same]
  rfl

/-- What the cam engine brings about from the slots, the commits and the claims that the event finds stands after the event, where
the parts of the event leave it. -/
theorem State.movedParts_cam {s : State} {rollover : Bool} (Q : State → Prop)
    (acts : ∀ v, State.Part x s v → v.slots = s.slots → v.commits = s.commits → Q (v.camEvent x rollover))
    (later : ∀ v w : State, Q v → State.Part x v w → w.slots = v.slots → w.commits = v.commits → Q w) :
    Q (takeParts (s.movedParts x d rollover) s) := by
  have kept (f : Bool × (State → State)) (hf : f ∈ (!(s.dueEntries x d).isEmpty, fun v => v.compareEvent x d) :: s.followParts x d)
      (t : State) : State.Part x t (f.2 t) := State.movedParts_part s x d rollover f (.tail _ hf) t
  refine takeParts_once (fun v => State.Part x s v ∧ v.slots = s.slots ∧ v.commits = s.commits) Q []
    ((!(s.dueEntries x d).isEmpty, fun v => v.compareEvent x d) :: s.followParts x d)
    (rollover && s.anyCommit x, fun v => v.camEvent x rollover) (fun f hf t k => ?_) (fun f hf t k => ?_)
    (fun t k => ⟨k.1.trans (.chosen x t), k.2⟩) (fun t k => later t _ k (.chosen x t) rfl rfl) (fun t k => acts t k.1 k.2.1 k.2.2)
    ⟨.refl x s, rfl, rfl⟩
  · obtain ⟨slots, commits⟩ := s.later_slots x d _ f hf t
    exact ⟨k.1.trans (kept f hf t), slots.trans k.2.1, commits.trans k.2.2⟩
  · obtain ⟨slots, commits⟩ := s.later_slots x d _ f hf t
    exact later t _ k (kept f hf t) slots commits

theorem State.ClaimsStand.holds_output (h : s.ClaimsStand t) (p : PortId) (o : OutputId) : t.holds p (.output o) = s.holds p (.output o) :=
  h.holds_eq p nofun

/-- A window on the axis that no commit takes first is evaluated as the axis leaves the event (R37). -/
theorem State.movedParts_slot_kept {rollover : Bool} {i : Fin 48} (on : s.slots[i].axis = x)
    (kept : rollover = false ∨ ∀ q, s.holds q (.output s.slots[i].output) = true → s.hasCommit q x = false) :
    (takeParts (s.movedParts x d rollover) s).slots[i] = s.slots[i].evaluated (s.axis x) := by
  refine State.movedParts_cam (fun v => v.slots[i] = s.slots[i].evaluated (s.axis x)) (fun v part slots commits => ?_)
    fun v w k _ slots _ => by rw [slots]; exact k
  have slot : v.slots[i] = s.slots[i] := by rw [slots]
  rw [State.camEvent_slot_kept (by rw [slot]; exact on) (kept.imp id fun k q held => ?_), slot, Slot.evaluated_congr part.axis]
  rw [State.hasCommit_congr commits]
  rw [slot, part.claims.holds_output] at held
  exact k q held

/-! ### The capture log (R14, R57) -/

theorem mem_refile {e f : CompareEntry} {again : Option CompareEntry} {l : List CompareEntry} (h : f ∈ refile e again l) :
    f ∈ l ∨ again = some f := by
  cases again with
  | none => exact .inl (mem_removeId.mp h).1
  | some k =>
    rcases List.mem_cons.mp ((insertEntry_perm k _).subset h) with rfl | h
    · exact .inr rfl
    · exact .inl (mem_removeId.mp h).1

theorem CompareEntry.settle_action (e : CompareEntry) (a : Axis) {k : CompareEntry} (h : (e.settle a).2 = some k) :
    k.action = e.action := by
  unfold CompareEntry.settle at h
  split at h
  · cases h
  · split at h
    · cases h
    · split at h <;> cases h
      rfl

/-- No compare entry of the axis is a CAPTURE. -/
def State.NoCaptures (s : State) (x : AxisId) : Prop := ∀ c ∈ s.compareList x, c.action ≠ .capture

theorem State.compareEvent_uncaptured (h : s.NoCaptures x) (d : AxisDir) :
    (s.compareEvent x d).NoCaptures x ∧ (s.compareEvent x d).axis x = s.axis x := by
  refine State.compareEvent_all (fun t => t.NoCaptures x ∧ t.axis x = s.axis x) (fun t e k due => ?_) ⟨h, rfl⟩
  have action : e.action ≠ .capture := h e (List.filter_sublist.subset due)
  refine ⟨fun c mem => ?_, (t.fire_axis x x d e).trans ((if_neg fun c => action c.2).trans k.2)⟩
  rw [State.fire_compareList, if_pos rfl] at mem
  rcases mem_refile mem with mem | again
  · exact k.1 c mem
  · rw [CompareEntry.settle_action _ _ again]
    exact action

theorem State.movedParts_uncaptured (h : s.NoCaptures x) (d : AxisDir) (rollover : Bool) :
    (takeParts (s.movedParts x d rollover) s).axis x = s.axis x := by
  refine (takeParts_all (fun t => t.NoCaptures x ∧ t.axis x = s.axis x) _ (fun f hf t k => ?_) (fun _ k => k) ⟨h, rfl⟩).2
  rcases List.mem_cons.mp hf with rfl | hf
  · have reach := t.camEvent_reach x rollover
    refine ⟨fun c mem => k.1 c ?_, (State.axis_congr reach.axes x).trans k.2⟩
    rw [State.compareList_congr reach.compares] at mem
    exact mem
  rcases List.mem_cons.mp hf with rfl | hf
  · exact (State.compareEvent_uncaptured k.1 d).imp id fun same => same.trans k.2
  · obtain ⟨g, -, rfl⟩ := List.mem_map.mp hf
    obtain ⟨_, only⟩ := t.followEvent_only x d g
    refine ⟨fun c mem => k.1 c ?_, (State.axis_congr only.move.axes x).trans k.2⟩
    rw [State.compareList_congr only.move.compares] at mem
    exact mem

/-! ### The command -/

/-- The state as the levels of an encoder's lines have changed (R3). -/
def State.levelled (s : State) (e : Encoder) (new : EncoderLines) : State := { s with lines := s.lines.setPair e new }

theorem exec_encoderTransition {e : Encoder} {phase1 phase2 : Bool} {d : AxisDir}
    (event : quadrature (s.lines.pair e) { phase1 := phase1, phase2 := phase2 } = some d) :
    exec (.encoderTransition e phase1 phase2) s =
      .next
        ((s.levelled e { phase1 := phase1, phase2 := phase2 }).countEvent e.axis
          (if (s.axis e.axis).sense = .normal then d else d.opposite)).drain := by
  have run : s.encoderLevels e { phase1 := phase1, phase2 := phase2 } =
      ((s.levelled e { phase1 := phase1, phase2 := phase2 }).countEvent e.axis ((s.axis e.axis).sense.event d)).drain := by
    unfold State.encoderLevels
    dsimp only
    rw [event]
    rfl
  rw [Sense.event_eq] at run
  exact congrArg Host.Outcome.next run

theorem Encoder.axis_ne_v (e : Encoder) : e.axis ≠ .v := by cases e <;> decide

theorem Encoder.axis_injective {e f : Encoder} (h : f ≠ e) : f.axis ≠ e.axis := by
  intro same
  refine h ?_
  revert same
  cases e <;> cases f <;> decide

theorem AxisDir.count_eq (d : AxisDir) : d.count = if d = .forward then 1 else -1 := by cases d <;> rfl

/-- Settles O16: the event's parts leave what they find of the axis, but for its capture log. -/
theorem encoderTransitionMovesItsAxis : Obligations.EncoderTransitionMovesItsAxis := by
  refine ⟨fun old new => ?_, fun s e phase1 phase2 d event lawful counting => ?_⟩
  · obtain ⟨o1, o2⟩ := old
    obtain ⟨n1, n2⟩ := new
    revert o1 o2 n1 n2
    decide
  intro a dir up linear rotary
  let x := e.axis
  let l := s.levelled e { phase1 := phase1, phase2 := phase2 }
  obtain ⟨turn, position, rollover, moves, hturn, hposition, hroll⟩ : ∃ turn position rollover,
      a.advance dir = some (turn, position, rollover) ∧
      turn = (match a.mode with
        | .linear => 0
        | .rotary =>
          if up then (if a.position + 1 = a.cycle then a.turn + 1 else a.turn)
          else if a.position = 0 then a.turn - 1 else a.turn) ∧
      position = (match a.mode with
        | .linear => if up then a.position + 1 else a.position - 1
        | .rotary =>
          if up then (if a.position + 1 = a.cycle then 0 else a.position + 1)
          else if a.position = 0 then (a.cycle : Int) - 1 else a.position - 1) ∧
      (turn = a.turn → rollover = false) := by
    have forward : up = true ↔ dir = .forward := decide_eq_true_iff
    cases mode : a.mode with
    | linear =>
      have ahead := linear mode
      simp only [forward] at ahead ⊢
      exact ⟨_, _, _, Axis.advance_linear mode ahead, (lawful.linear_place mode).2.2, rfl, fun _ => rfl⟩
    | rotary =>
      have ahead := rotary mode
      simp only [forward] at ahead ⊢
      refine ⟨_, _, _, Axis.advance_rotary lawful mode ahead, rfl, rfl, fun same => ?_⟩
      split at same
      · rw [if_pos ‹_›]
        exact decide_eq_false fun edge => by rw [if_pos edge] at same; omega
      · rw [if_neg ‹_›]
        exact decide_eq_false fun edge => by rw [if_pos edge] at same; omega
  let m := l.movedTo x dir turn position
  have run : l.countEvent x dir = takeParts (m.movedParts x dir rollover) m := State.countEvent_moves (s := l) counting moves
  have part : State.Part x m (takeParts (m.movedParts x dir rollover) m) := State.takeParts_part _ (State.movedParts_part m x dir rollover) m
  rw [← run] at part
  have after : State.Beside .v (l.countEvent x dir) (l.countEvent x dir).drain := State.drain_beside _
  have whole : State.Beside x l (l.countEvent x dir) := State.countEvent_beside l x dir
  have drained := (after.apart x (Encoder.axis_ne_v e)).axis
  have place : m.axis x = { a.counted dir with turn := turn, position := position } := l.movedTo_axis x dir turn position
  have axis : (l.countEvent x dir).drain.axis x =
      { { a.counted dir with turn := turn, position := position } with
        log := ((l.countEvent x dir).drain.axis x).log, lost := ((l.countEvent x dir).drain.axis x).lost
        lossReported := ((l.countEvent x dir).drain.axis x).lossReported } := by
    rw [drained, ← place]
    exact part.axis
  have accumulation : (a.counted dir).accumulation = max (-2147483647) (min 2147483647 (a.accumulation + if up then 1 else -1)) := by
    have count : dir.count = if up then 1 else -1 := by
      rw [AxisDir.count_eq]
      exact if_congr decide_eq_true_iff.symm rfl rfl
    rw [← count]
    rfl
  have reach : CountOnly l (l.countEvent x dir).drain := whole.reach.trans after.reach
  refine ⟨_, exec_encoderTransition event, reach.lines, (congrArg Axis.position axis).trans hposition, (congrArg Axis.turn axis).trans hturn,
    (congrArg Axis.direction axis).trans rfl, (congrArg Axis.status axis).trans counting, (congrArg Axis.accumulation axis).trans accumulation,
    (congrArg Axis.mode axis).trans rfl, (congrArg Axis.cycle axis).trans rfl, (congrArg Axis.sense axis).trans rfl, (congrArg Axis.gateTime axis).trans rfl,
    (congrArg Axis.gateLeft axis).trans rfl, (congrArg Axis.velocity axis).trans rfl, (congrArg Axis.arming axis).trans rfl, fun uncaptured => ?_, fun i on kept => ?_,
    fun i off offV => ?_, fun f other => ?_, reach.now, reach.halt, fun p => ?_⟩
  · have same : (l.countEvent x dir).drain.axis x = m.axis x := by
      rw [drained, run]
      exact State.movedParts_uncaptured (s := m) uncaptured dir rollover
    rw [place] at same
    exact ⟨(congrArg Axis.log same).trans rfl, (congrArg Axis.lost same).trans rfl, (congrArg Axis.lossReported same).trans rfl⟩
  · have slot : (l.countEvent x dir).slots[i] = s.slots[i].evaluated (m.axis x) := by
      rw [run]
      refine State.movedParts_slot_kept (s := m) on (kept.imp (fun same => hroll ?_) id)
      rw [← same]
      exact (congrArg Axis.turn axis).symm
    have still : (l.countEvent x dir).drain.slots[i] = s.slots[i].evaluated ((l.countEvent x dir).drain.axis x) := by
      rw [(after.apart x (Encoder.axis_ne_v e)).slot i (by rw [slot, Slot.evaluated_axis]; exact on), slot, drained]
      exact (Slot.evaluated_congr part.axis _).symm
    refine ⟨fun counts => still.trans (Slot.evaluated_still counts _), fun w counts active => still.trans (Slot.evaluated_counting counts active _)⟩
  · have first := (whole.apart s.slots[i].axis off).slot i rfl
    exact ((after.apart s.slots[i].axis offV).slot i (by rw [first]; rfl)).trans first
  · exact ((after.apart f.axis (Encoder.axis_ne_v f)).axis).trans (whole.apart f.axis (Encoder.axis_injective other)).axis
  · obtain ⟨_, first⟩ := (l.countEvent_keeps x dir).told
    obtain ⟨_, rest⟩ := (l.countEvent x dir).drain_keeps.told
    exact (rest.session p).trans (first.session p)

end Sys2Proof.Machine
end

section
/-! SUPPORT. How many notices the parts of an event may post before one of them, and the event that leaves an axis's range (R7, R8). -/

namespace Sys2Proof.Machine

variable {s t u : State} {x y : AxisId} {d : AxisDir} {g : GenId} {a : Axis}

/-! ### What a part may tell each port -/

/-- The least number of notices that a part of an event tells a port at most, where it finds a state of a kind. -/
noncomputable def toldMost (P : State → Prop) (f : State → State) : Nat := sInf {n | ∀ t, P t → State.Told (fun _ => True) n t (f t)}

variable {P : State → Prop}

theorem toldMost_le {f : State → State} {n : Nat} (h : ∀ t, P t → State.Told (fun _ => True) n t (f t)) : toldMost P f ≤ n :=
  Nat.sInf_le h

theorem told_toldMost {f : State → State} (h : ∃ n, ∀ t, P t → State.Told (fun _ => True) n t (f t)) (t : State) (p : P t) :
    State.Told (fun _ => True) (toldMost P f) t (f t) := by
  have least : toldMost P f ∈ {n | ∀ t, P t → State.Told (fun _ => True) n t (f t)} := Nat.sInf_mem h
  exact least t p

theorem toldMost_choose : toldMost P State.choose = 0 := Nat.le_zero.mp (toldMost_le fun _ _ => .of_ports _ _ rfl rfl)

/-- Parts taken one after another tell a port no more than each at most. -/
theorem inTurn_told (l : List (State → State)) (keeps : ∀ f ∈ l, ∀ t, P t → P (f t))
    (h : ∀ f ∈ l, ∃ n, ∀ t, P t → State.Told (fun _ => True) n t (f t)) (s : State) (p : P s) :
    State.Told (fun _ => True) (l.map (toldMost P)).sum s (inTurn l s) := by
  unfold inTurn
  induction l generalizing s with
  | nil => exact .refl _ _ _
  | cons f l ih =>
    exact (told_toldMost (h f (.head _)) s p).trans
      (ih (fun g hg => keeps g (.tail _ hg)) (fun g hg => h g (.tail _ hg)) (f s) (keeps f (.head _) s p))

/-- The parts of an event that may be told before one of them tell a port at most what all of them do. -/
def othersTold (P : State → Prop) (parts : List (Bool × (State → State))) (n : Nat) : Prop :=
  (∀ k ∈ parts, ∃ n, ∀ t, P t → State.Told (fun _ => True) n t (k.2 t)) ∧ (parts.map fun k => toldMost P k.2).sum ≤ n

/-- What one part brings about, the others keeping what it finds and what it leaves, and the notices before it counted. -/
theorem takeParts_once_told (P Q : State → Prop) (before after : List (Bool × (State → State))) (f : Bool × (State → State)) {n : Nat}
    (told : othersTold P (before ++ after) n)
    (keepsP : ∀ k ∈ before ++ after, ∀ t, P t → P (k.2 t)) (keepsQ : ∀ k ∈ before ++ after, ∀ t, Q t → Q (k.2 t))
    (choseP : ∀ t, P t → P t.choose) (choseQ : ∀ t, Q t → Q t.choose)
    (acts : ∀ t, State.Told (fun _ => True) n s t → P t → Q (f.2 t)) (start : P s) :
    Q (takeParts (before ++ f :: after) s) := by
  obtain ⟨order, extra, perm, choose, eq⟩ := takeParts_order (before ++ f :: after) s
  rw [List.map_append, List.map_cons, List.append_assoc, List.cons_append] at perm
  have mem : f.2 ∈ order := perm.symm.subset (by simp)
  obtain ⟨k, l, rfl⟩ := List.append_of_mem mem
  have rest : (k ++ l).Perm (before.map (fun f => f.2) ++ (after.map (fun f => f.2) ++ extra)) :=
    List.Perm.cons_inv ((List.perm_middle.symm.trans perm).trans List.perm_middle)
  have part (h : State → State) (hh : h ∈ k ++ l) : (∃ i ∈ before ++ after, h = i.2) ∨ h = State.choose := by
    have m := rest.subset hh
    simp only [List.mem_append, List.mem_map] at m
    rcases m with ⟨i, hi, rfl⟩ | ⟨i, hi, rfl⟩ | m
    · exact .inl ⟨i, List.mem_append_left _ hi, rfl⟩
    · exact .inl ⟨i, List.mem_append_right _ hi, rfl⟩
    · exact .inr (choose h m)
  have most : (k.map (toldMost P)).sum ≤ n := by
    have all := (rest.map (toldMost P)).sum_eq
    have quiet : (extra.map (toldMost P)).sum = 0 := by
      rw [List.sum_eq_zero_iff]
      intro c hc
      obtain ⟨h, hh, rfl⟩ := List.mem_map.mp hc
      rw [choose h hh, toldMost_choose]
    have others := told.2
    simp only [List.map_append, List.sum_append, List.map_map] at all others
    simp only [Function.comp_def] at all
    omega
  have toldBefore : State.Told (fun _ => True) n s (inTurn k s) := by
    refine (inTurn_told k (fun h hh => ?_) (fun h hh => ?_) s start).mono most
    · rcases part h (List.mem_append_left _ hh) with ⟨i, hi, rfl⟩ | rfl
      · exact keepsP i hi
      · exact choseP
    · rcases part h (List.mem_append_left _ hh) with ⟨i, hi, rfl⟩ | rfl
      · exact told.1 i hi
      · exact ⟨0, fun _ _ => .of_ports _ _ rfl rfl⟩
  rw [eq, inTurn_append]
  refine inTurn_keeps Q l (fun h hh t q => ?_) _ (acts _ toldBefore (inTurn_keeps P k (fun h hh t p => ?_) s start))
  · rcases part h (List.mem_append_right _ hh) with ⟨i, hi, rfl⟩ | rfl
    · exact keepsQ i hi t q
    · exact choseQ t q
  · rcases part h (List.mem_append_left _ hh) with ⟨i, hi, rfl⟩ | rfl
    · exact keepsP i hi t p
    · exact choseP t p

/-! ### The notices of the parts of a count event -/

/-- A source event at a generator tells a port three notices at most: QUEUE_FLUSHED, MOVE_ENDED, and that of a claim handed on. -/
theorem State.followEvent_told (s : State) (x : AxisId) (d : AxisDir) (g : GenId) :
    State.Told (fun _ => True) 3 s (s.followEvent x d g) := by
  cases now : (s.gen g).followsNow x with
  | false =>
    rw [State.followEvent_of_not s d now]
    exact .refl _ _ _
  | true =>
    obtain ⟨state, m, num, den, limit, hm, kind⟩ := (Generator.followsNow_iff _ x).mp now
    have empty : (((s.flush g).closeMove g .followOverspeed).gen g).queue = [] := by
      rw [State.closeMove_queue, State.flush_gen]
    have ended : GenOnly g 3 s ((s.flush g).endMove g .followOverspeed) :=
      ((s.flush_only g).trans (State.closeMove_only _ g _)).trans (State.nextMove_only_nil _ g empty)
    rw [State.followEvent_of_follows s d state hm kind]
    split
    · exact .of_ports _ _ rfl rfl
    · exact ended.told.weaken fun _ _ => trivial

theorem othersTold_cons {b : Bool} {f : State → State} {n k : Nat} {parts : List (Bool × (State → State))}
    (first : ∀ t, P t → State.Told (fun _ => True) k t (f t)) (rest : othersTold P parts n) : othersTold P ((b, f) :: parts) (k + n) := by
  refine ⟨fun i hi => ?_, ?_⟩
  · rcases List.mem_cons.mp hi with rfl | hi
    · exact ⟨k, first⟩
    · exact rest.1 i hi
  · rw [List.map_cons, List.sum_cons]
    exact Nat.add_le_add (toldMost_le first) rest.2

theorem othersTold_map {α : Type} {k : Nat} {F : α → State → State} (may : α → Bool)
    (h : ∀ a t, P t → State.Told (fun _ => True) k t (F a t)) (l : List α) : othersTold P (l.map fun a => (may a, F a)) (k * l.length) := by
  induction l with
  | nil => exact ⟨nofun, le_refl _⟩
  | cons a l ih =>
    have more := othersTold_cons (b := may a) (h a) ih
    exact ⟨more.1, more.2.trans (by rw [List.length_cons, Nat.mul_succ]; omega)⟩

theorem othersTold_append {k n : Nat} {l r : List (Bool × (State → State))} (h : othersTold P l k) (j : othersTold P r n) :
    othersTold P (l ++ r) (k + n) := by
  refine ⟨fun f hf => (List.mem_append.mp hf).elim (h.1 f) (j.1 f), ?_⟩
  rw [List.map_append, List.sum_append]
  exact Nat.add_le_add h.2 j.2

theorem State.followParts_told (s : State) (x : AxisId) (d : AxisDir) : othersTold P (s.followParts x d) 9 :=
  othersTold_map _ (fun g t _ => t.followEvent_told x d g) allGens

theorem State.evaluateAxis_told (s : State) (x : AxisId) : State.Told (fun _ => True) 0 s (s.evaluateAxis x) :=
  (State.evaluateAxis_reach s x).told _ _

/-- The cam engine's part tells a port a notice for each session at most. -/
theorem State.camEvent_told (s : State) (x : AxisId) (rollover : Bool) : State.Told (fun _ => True) 3 s (s.camEvent x rollover) := by
  have one (t : State) (p : PortId) : State.Told (fun _ => True) 1 t (t.applyPendingOf x p) := by
    unfold State.applyPendingOf
    split
    · exact State.Told.trans (m := 1) (n := 0) (t.applyCommit_told p x .atRollover fun _ _ => trivial) (.of_ports _ 0 rfl rfl)
    · exact .refl _ _ _
  unfold State.camEvent
  refine State.Told.trans (m := 3) (n := 0) ?_ (State.evaluateAxis_told _ x)
  split
  · rw [State.applyPending_eq]
    exact ((one _ .p1).trans (one _ .p2)).trans (one _ .p3)
  · exact .refl _ _ _

/-! ### The event that would leave the range (R7) -/

/-- The state with an axis that a count event has brought into OVERRANGE. -/
def State.overrun (s : State) (x : AxisId) (d : AxisDir) : State :=
  (s.modAxis x fun a => a.counted d).modAxis x fun a => { a with status := .overrange }

theorem State.overrun_axis (s : State) (x : AxisId) (d : AxisDir) :
    (s.overrun x d).axis x = { (s.axis x).counted d with status := .overrange } := by
  unfold State.overrun
  rw [State.modAxis_axis_same, State.modAxis_axis_same]

/-- The parts of a count event that leaves the range (R7, R9). -/
def State.overrunParts (s : State) (x : AxisId) (d : AxisDir) : List (Bool × (State → State)) :=
  (false, fun v => v.evaluateAxis x) :: (true, fun v => v.postOverrange x d) :: s.followParts x d

theorem State.countEvent_overruns (counting : (s.axis x).status = .counting) (stays : (s.axis x).advance d = none) :
    s.countEvent x d = takeParts ((s.overrun x d).overrunParts x d) (s.overrun x d) := by
  unfold State.countEvent
  dsimp only
  rw [counting, stays]
  rfl

/-- A count event of an axis in OVERRANGE reaches the FOLLOW moves alone (R8, R9). -/
theorem State.countEvent_overrange (overrange : (s.axis x).status = .overrange) :
    s.countEvent x d = takeParts ((s.modAxis x fun a => a.counted d).followParts x d) (s.modAxis x fun a => a.counted d) := by
  unfold State.countEvent
  dsimp only
  rw [overrange]

theorem State.overrunParts_part (s : State) (x : AxisId) (d : AxisDir) : ∀ f ∈ s.overrunParts x d, ∀ t, State.Part x t (f.2 t) := by
  intro f hf t
  rcases List.mem_cons.mp hf with rfl | hf
  · exact t.evaluateAxis_part x
  rcases List.mem_cons.mp hf with rfl | hf
  · exact .of_ports (State.broadcast_reach _ _ _)
  exact State.followParts_part _ x x d f hf t

theorem State.followParts_stands (s : State) (x : AxisId) (d : AxisDir) : ∀ f ∈ s.followParts x d, ∀ t : State, MoveOnly t (f.2 t) := by
  intro f hf t
  obtain ⟨g, -, rfl⟩ := List.mem_map.mp hf
  obtain ⟨_, only⟩ := t.followEvent_only x d g
  exact only.move

theorem State.overrunParts_compares (s : State) (x : AxisId) (d : AxisDir) :
    (takeParts (s.overrunParts x d) s).compares = s.compares := by
  refine takeParts_all (fun t => t.compares = s.compares) _ (fun f hf t k => ?_) (fun _ k => k) rfl
  rcases List.mem_cons.mp hf with rfl | hf
  · exact (State.evaluateAxis_reach t x).compares.trans k
  rcases List.mem_cons.mp hf with rfl | hf
  · exact (State.broadcast_reach _ _ _).compares.trans k
  exact (State.followParts_stands s x d f hf t).compares.trans k

/-- No window of an axis that counts is inside. -/
def State.AllOutside (x : AxisId) (s : State) : Prop :=
  ∀ i : Fin 48, s.slots[i].axis = x → s.slots[i].status.counts = true → s.slots[i].inside = false

theorem State.AllOutside.congr (h : s.AllOutside x) (slots : t.slots = s.slots) : t.AllOutside x := fun i => by
  rw [slots]
  exact h i

theorem Slot.evaluated_outside {w : Slot} (overrange : a.status = .overrange) (counts : (w.evaluated a).status.counts = true) :
    (w.evaluated a).inside = false := by
  rw [Slot.evaluated_status] at counts
  have outside (c : WindowCopy) : c.insideOn a = false := by
    unfold WindowCopy.insideOn
    rw [overrange]
    rfl
  unfold Slot.evaluated
  rw [if_pos counts]
  cases w.active with
  | none => rfl
  | some c => exact outside c

theorem State.evaluateAxis_outside (overrange : (s.axis x).status = .overrange) : (s.evaluateAxis x).AllOutside x := by
  intro i
  have slot := s.evaluateAxis_slot x i
  split at slot <;> rename_i on
  · rw [slot]
    exact fun _ counts => Slot.evaluated_outside overrange counts
  · rw [slot]
    exact fun on' => absurd on' on

theorem State.overrunParts_outside (overrange : (s.axis x).status = .overrange) (d : AxisDir) :
    (takeParts (s.overrunParts x d) s).AllOutside x := by
  have kept (f : Bool × (State → State)) (hf : f ∈ (true, fun v : State => v.postOverrange x d) :: s.followParts x d) (t : State) :
      (f.2 t).axes = t.axes ∧ (f.2 t).slots = t.slots := by
    rcases List.mem_cons.mp hf with rfl | hf
    · exact ⟨(State.broadcast_reach _ _ _).axes, (State.broadcast_reach _ _ _).slots⟩
    · have move := State.followParts_stands s x d f hf t
      exact ⟨move.axes, move.slots⟩
  exact takeParts_once (fun t => (t.axis x).status = .overrange) (State.AllOutside x) []
    ((true, fun v => v.postOverrange x d) :: s.followParts x d) (false, fun v => v.evaluateAxis x)
    (fun f hf t k => by rw [State.axis_congr (kept f hf t).1]; exact k) (fun f hf t k => k.congr (kept f hf t).2)
    (fun _ k => k) (fun _ k => k) (fun t k => State.evaluateAxis_outside k) overrange

/-- A broadcast reaches an open session that has subscribed, where there is room (R164). -/
theorem State.broadcast_holds {p : PortId} {wants : Subscriptions → Bool} (isOpen : (s.session p).isOpen = true)
    (subscribed : wants (s.session p).subs = true) (room : (s.port p).notices.items.length < 24) (k : NoticeKind) :
    ((s.broadcast wants k).port p).Holds k := by
  rw [State.broadcast_port, isOpen, subscribed]
  exact Port.tell_holds _ _ _ isOpen room

/-- AXIS_OVERRANGE reaches a session that has subscribed to it (R7). -/
theorem State.overrunParts_posted {p : PortId} (isOpen : (s.session p).isOpen = true) (subscribed : (s.session p).subs.axisOverrange = true)
    (room : (s.port p).notices.items.length ≤ 12) :
    ((takeParts (s.overrunParts x d) s).port p).Holds (.axisOverrange x (s.axis x).extended d) := by
  have others (f : Bool × (State → State)) (hf : f ∈ [(false, fun v : State => v.evaluateAxis x)] ++ s.followParts x d) (t : State) :
      (f.2 t).axes = t.axes ∧ ∃ n, State.Told (fun _ => True) n t (f.2 t) := by
    rcases List.mem_cons.mp hf with rfl | hf
    · exact ⟨(State.evaluateAxis_reach t x).axes, _, t.evaluateAxis_told x⟩
    · obtain ⟨n, told⟩ := (State.followParts_told (P := fun _ => True) s x d).1 f hf
      exact ⟨(State.followParts_stands s x d f hf t).axes, n, told t trivial⟩
  refine takeParts_once_told (n := 0 + 9) (fun t => t.axis x = s.axis x)
    (fun t => (t.port p).Holds (.axisOverrange x (s.axis x).extended d)) [(false, fun v => v.evaluateAxis x)] (s.followParts x d)
    (true, fun v => v.postOverrange x d) ?_ (fun f hf t k => (State.axis_congr (others f hf t).1 x).trans k)
    (fun f hf t k => ?_) (fun _ k => k) (fun _ k => k) (fun t told k => ?_) rfl
  · exact othersTold_cons (fun t _ => t.evaluateAxis_told x) (State.followParts_told s x d)
  · obtain ⟨-, n, told⟩ := others f hf t
    exact told.holds k
  · unfold State.postOverrange
    dsimp only
    rw [k]
    have session := told.session p
    exact State.broadcast_holds (by rw [session]; exact isOpen) (by rw [session]; exact subscribed)
      (lt_of_le_of_lt (told.length_le p) (by omega)) _

/-! ### The kinds of notices that events elsewhere post -/

/-- A notice that is not AXIS_OVERRANGE of an axis. -/
def ElseThanOverrange (x : AxisId) (k : NoticeKind) : Prop := ∀ place way, k ≠ .axisOverrange x place way

theorem GenOnly.elsewhere {n : Nat} (h : GenOnly g n s t) (x : AxisId) : State.Told (ElseThanOverrange x) n s t :=
  h.told.weaken fun k notice place way same => by
    rw [same] at notice
    exact notice

/-- Two states between which ports have been told notices of a kind. -/
def State.Tells (K : NoticeKind → Prop) (s t : State) : Prop := ∃ n, State.Told K n s t

theorem State.Tells.refl (K : NoticeKind → Prop) (s : State) : State.Tells K s s := ⟨0, .refl _ _ _⟩

theorem State.Tells.trans {K : NoticeKind → Prop} (h : State.Tells K s t) (k : State.Tells K t u) : State.Tells K s u := by
  obtain ⟨_, h⟩ := h
  obtain ⟨_, k⟩ := k
  exact ⟨_, h.trans k⟩

theorem State.followEvent_elsewhere (s : State) (x y : AxisId) (d : AxisDir) (g : GenId) :
    State.Tells (ElseThanOverrange x) s (s.followEvent y d g) := by
  obtain ⟨_, only⟩ := s.followEvent_only y d g
  exact ⟨_, only.elsewhere x⟩

theorem State.fire_elsewhere (s : State) (x y : AxisId) (d : AxisDir) (e : CompareEntry) :
    State.Tells (ElseThanOverrange x) s (s.fire y d e) := by
  have out (p : PortId) (o : OutputId) (f : Channel → Channel) : State.Tells (ElseThanOverrange x) s (s.outAction p o f).1 :=
    ⟨0, (s.outAction_reach p o f).told _ _⟩
  have action : State.Tells (ElseThanOverrange x) s (s.fireAction y e).1 := by
    unfold State.fireAction
    split
    · exact .refl _ s
    · exact out _ _ _
    · exact out _ _ _
    · exact out _ _ _
    · exact out _ _ _
    · split
      · obtain ⟨_, only⟩ := s.trigger_only ‹GenId› .compare
        exact ⟨_, only.elsewhere x⟩
      · exact .refl _ s
    · exact ⟨_, s.logCapture_told y .compare e.target nofun⟩
  have fired (a : Axis) (result : CompareResult) (disposition : Disposition) (again : Option CompareEntry) :
      ElseThanOverrange x (e.firedNotice y a d result disposition again) := by
    intro place way same
    unfold CompareEntry.firedNotice at same
    cases again <;> cases same
  rw [State.fire_eq]
  exact (action.trans ⟨0, State.setCompareList_told _ _ 0 y _⟩).trans ⟨1, State.post_told _ _ (fired _ _ _ _)⟩

theorem State.compareEvent_elsewhere (s : State) (x y : AxisId) (d : AxisDir) : State.Tells (ElseThanOverrange x) s (s.compareEvent y d) :=
  State.compareEvent_all (State.Tells (ElseThanOverrange x) s) (fun t e k _ => k.trans (t.fire_elsewhere x y d e)) (.refl _ s)

theorem State.camEvent_elsewhere (s : State) (x y : AxisId) (rollover : Bool) :
    State.Tells (ElseThanOverrange x) s (s.camEvent y rollover) := by
  have one (t : State) (p : PortId) : State.Tells (ElseThanOverrange x) t (t.applyPendingOf y p) := by
    unfold State.applyPendingOf
    split
    · exact State.Tells.trans ⟨1, t.applyCommit_told p y .atRollover nofun⟩ ⟨0, .of_ports _ _ rfl rfl⟩
    · exact .refl _ t
  have evaluated (t : State) : State.Tells (ElseThanOverrange x) t (t.evaluateAxis y) := ⟨0, (State.evaluateAxis_reach t y).told _ _⟩
  unfold State.camEvent
  split
  · rw [State.applyPending_eq]
    exact (((one _ .p1).trans (one _ .p2)).trans (one _ .p3)).trans (evaluated _)
  · exact evaluated s

theorem State.takeParts_elsewhere (x : AxisId) (parts : List (Bool × (State → State)))
    (h : ∀ f ∈ parts, ∀ t, State.Tells (ElseThanOverrange x) t (f.2 t)) (s : State) :
    State.Tells (ElseThanOverrange x) s (takeParts parts s) :=
  takeParts_all (State.Tells (ElseThanOverrange x) s) parts (fun f hf _ k => k.trans (h f hf _))
    (fun _ k => k.trans ⟨0, .of_ports _ _ rfl rfl⟩) (.refl _ s)

/-- A count event posts no AXIS_OVERRANGE of another axis. -/
theorem State.countEvent_elsewhere (other : x ≠ y) (s : State) (d : AxisDir) :
    State.Tells (ElseThanOverrange x) s (s.countEvent y d) := by
  have axis (t : State) (f : Axis → Axis) : State.Tells (ElseThanOverrange x) t (t.modAxis y f) := ⟨0, .of_ports _ _ rfl rfl⟩
  have follow (t : State) : ∀ f ∈ t.followParts y d, ∀ v, State.Tells (ElseThanOverrange x) v (f.2 v) := by
    intro f hf v
    obtain ⟨g, -, rfl⟩ := List.mem_map.mp hf
    exact v.followEvent_elsewhere x y d g
  unfold State.countEvent
  dsimp only
  split
  · exact (axis s _).trans (State.takeParts_elsewhere x _ (follow _) _)
  · refine ((axis s _).trans (axis _ _)).trans (State.takeParts_elsewhere x _ (fun f hf t => ?_) _)
    rcases List.mem_cons.mp hf with rfl | hf
    · exact t.camEvent_elsewhere x y _
    rcases List.mem_cons.mp hf with rfl | hf
    · exact t.compareEvent_elsewhere x y d
    exact follow _ f hf t
  · refine ((axis s _).trans (axis _ _)).trans (State.takeParts_elsewhere x _ (fun f hf t => ?_) _)
    rcases List.mem_cons.mp hf with rfl | hf
    · exact ⟨0, (State.evaluateAxis_reach t y).told _ _⟩
    rcases List.mem_cons.mp hf with rfl | hf
    · refine ⟨1, State.broadcast_told _ _ fun place way same => ?_⟩
      cases same
      exact other rfl
    exact follow _ f hf t

theorem State.drain_elsewhere (other : x ≠ .v) (s : State) : State.Tells (ElseThanOverrange x) s s.drain := by
  unfold State.drain
  generalize s.vEvents.length + (s.gen .gv).queue.length + 2 = n
  induction n generalizing s with
  | zero => exact .refl _ s
  | succ n ih =>
    unfold State.drainSteps
    split
    · exact .refl _ s
    · rename_i d rest _
      have frame (t : State) (v : List AxisDir) (b : Bool) :
          State.Tells (ElseThanOverrange x) t { t with vEvents := v, vTaking := b } := ⟨0, .of_ports _ _ rfl rfl⟩
      have step (t : State) : State.Tells (ElseThanOverrange x) t t.deferredStep := by
        unfold State.deferredStep
        split
        · obtain ⟨_, only⟩ := t.takeStep_only .gv
          exact ⟨_, only.elsewhere x⟩
        · exact .refl _ t
      exact ((((frame s rest true).trans (State.countEvent_elsewhere other _ d)).trans (frame _ _ false)).trans (step _)).trans (ih _)

/-- A count event that would leave the range takes the axis nowhere (R7). -/
theorem Axis.advance_none (linear : a.mode = .linear → a.position = if d = .forward then 2000000000 else -2000000000)
    (rotary : a.mode = .rotary → if d = .forward then a.position + 1 = a.cycle ∧ a.turn = 32767 else a.position = 0 ∧ a.turn = -32768) :
    a.advance d = none := by
  unfold Axis.advance
  cases mode : a.mode with
  | linear =>
    have edge := linear mode
    cases d
    · exact if_neg (by rw [edge]; decide)
    · exact if_neg (by rw [edge]; decide)
  | rotary =>
    have edge := rotary mode
    cases d
    · obtain ⟨position, turn⟩ : a.position + 1 = a.cycle ∧ a.turn = 32767 := edge
      exact (if_neg (by omega)).trans (if_neg (by omega))
    · obtain ⟨position, turn⟩ : a.position = 0 ∧ a.turn = -32768 := edge
      exact (if_neg (by omega)).trans (if_neg (by omega))

theorem Axis.extended_eq (a : Axis) :
    a.extended =
      match a.mode with
      | .linear => a.position
      | .rotary => a.turn * a.cycle + a.position := by
  unfold Axis.extended Axis.extendedOf
  cases a.mode <;> rfl

theorem Axis.counted_accumulation (a : Axis) (d : AxisDir) :
    (a.counted d).accumulation = max (-2147483647) (min 2147483647 (a.accumulation + if d = .forward then 1 else -1)) := by
  rw [← AxisDir.count_eq]
  rfl

/-- Settles O18: the entry into OVERRANGE with its broadcast, and the event there. -/
theorem overrangeEntryAndStay : Obligations.OverrangeEntryAndStay := by
  refine ⟨fun s e phase1 phase2 d event lawful counting => ?_, fun s e phase1 phase2 d event overrange => ?_⟩
  · intro a dir linear rotary
    let x := e.axis
    let l := s.levelled e { phase1 := phase1, phase2 := phase2 }
    have stays : a.advance dir = none := Axis.advance_none linear rotary
    let m := l.overrun x dir
    have run : l.countEvent x dir = takeParts (m.overrunParts x dir) m := State.countEvent_overruns (s := l) counting stays
    have place : m.axis x = { a.counted dir with status := .overrange } := l.overrun_axis x dir
    have part : State.Part x m (l.countEvent x dir) := by
      rw [run]
      exact State.takeParts_part _ (State.overrunParts_part m x dir) m
    have after : State.Apart x (l.countEvent x dir) (l.countEvent x dir).drain := (State.drain_beside _).apart x (Encoder.axis_ne_v e)
    have axis := after.axis.trans part.axis
    rw [place] at axis
    refine ⟨_, exec_encoderTransition event, (congrArg Axis.status axis).trans rfl, (congrArg Axis.position axis).trans rfl,
      (congrArg Axis.turn axis).trans rfl, (congrArg Axis.direction axis).trans rfl, (congrArg Axis.accumulation axis).trans ?_, ?_,
      fun i on counts => ?_, fun p _ isOpen subscribed room => ?_⟩
    · exact Axis.counted_accumulation a dir
    · refine after.compares.trans ?_
      rw [run]
      exact State.compareList_congr (m.overrunParts_compares x dir) x
    · have outside : (l.countEvent x dir).AllOutside x := by
        rw [run]
        exact State.overrunParts_outside (by rw [place]) dir
      rcases after.comes i on with same | free
      · rw [same] at on counts ⊢
        exact outside i on counts
      · rw [free] at counts
        cases counts
    · have holds : ((takeParts (m.overrunParts x dir) m).port p).Holds (.axisOverrange x (m.axis x).extended dir) :=
        State.overrunParts_posted (s := m) isOpen subscribed room
      rw [← run, place, Axis.extended_eq] at holds
      obtain ⟨_, told⟩ := (l.countEvent x dir).drain_keeps.told
      exact told.holds holds
  · intro a dir
    let x := e.axis
    let l := s.levelled e { phase1 := phase1, phase2 := phase2 }
    let m := l.modAxis x fun a => a.counted dir
    have run : l.countEvent x dir = takeParts (m.followParts x dir) m := State.countEvent_overrange (s := l) overrange
    have place : m.axis x = a.counted dir := l.modAxis_axis_same x _
    obtain ⟨axes, compares, slots⟩ : (l.countEvent x dir).axes = m.axes ∧ (l.countEvent x dir).compares = m.compares ∧
        (l.countEvent x dir).slots = m.slots := by
      rw [run]
      refine takeParts_all (fun t => t.axes = m.axes ∧ t.compares = m.compares ∧ t.slots = m.slots) _ (fun f hf t k => ?_)
        (fun _ k => k) ⟨rfl, rfl, rfl⟩
      have move := State.followParts_stands m x dir f hf t
      exact ⟨move.axes.trans k.1, move.compares.trans k.2.1, move.slots.trans k.2.2⟩
    have after : State.Apart x (l.countEvent x dir) (l.countEvent x dir).drain := (State.drain_beside _).apart x (Encoder.axis_ne_v e)
    have axis := after.axis.trans ((State.axis_congr axes x).trans place)
    refine ⟨_, exec_encoderTransition event, (congrArg Axis.status axis).trans overrange, (congrArg Axis.position axis).trans rfl,
      (congrArg Axis.turn axis).trans rfl, (congrArg Axis.direction axis).trans rfl, (congrArg Axis.velocity axis).trans rfl,
      (congrArg Axis.accumulation axis).trans (Axis.counted_accumulation a dir), after.compares.trans (State.compareList_congr compares x),
      fun i on => ?_, fun p n mem kind => ?_⟩
    · have first : (l.countEvent x dir).slots[i] = s.slots[i] := by
        rw [slots]
        rfl
      exact (after.slot i (by rw [first]; exact on)).trans first
    · have followed : State.Tells (ElseThanOverrange x) m (l.countEvent x dir) := by
        rw [run]
        refine State.takeParts_elsewhere x _ (fun f hf t => ?_) m
        obtain ⟨g, -, rfl⟩ := List.mem_map.mp hf
        exact t.followEvent_elsewhere x x dir g
      obtain ⟨_, told⟩ := followed.trans (State.drain_elsewhere (Encoder.axis_ne_v e) _)
      obtain ⟨place, way, same⟩ := kind
      rcases (told.port p).mem mem with old | new
      · exact old
      · exact absurd same (new place way)

end Sys2Proof.Machine
end

section
/-! SUPPORT. A generator in STOPPING (R102). -/

namespace Sys2Proof.Machine

variable {s t u : State} {g : GenId} {m : CurrentMove} {p : PortId}

/-! ### The end of a move with nothing behind it, and the events of axis V after it -/

/-- A generator at rest stands as it is, but for a trigger, through the events of axis V that its last step brings about. -/
theorem State.endMove_drained (hm : (s.gen g).current = some m) (empty : (s.gen g).queue = []) (trigger : (s.gen g).pendingTrigger = false)
    (cause : EndCause) :
    ((s.gen g).atStandstill (if (s.gen g).halt then .halted else .idle)).Triggered ((s.endMove g cause).drain.gen g) := by
  have gen := State.endMove_gen hm empty (fun _ => .inr trigger) cause
  have deaf : ((s.endMove g cause).gen g).Deaf .v := by
    rw [gen]
    refine Generator.deaf_of_state ?_ ?_ .v <;> (change (if _ then GenState.halted else .idle) ≠ _; split <;> decide)
  rw [← gen]
  exact State.drain_triggered deaf fun _ => by rw [gen]; rfl

theorem State.endMove_drained_told (hm : (s.gen g).current = some m) (held : s.holds p (.generator g) = true)
    (isOpen : (s.session p).isOpen = true) (room : (s.port p).notices.items.length < 24) (cause : EndCause) :
    ((s.endMove g cause).drain.port p).Holds
      (.moveEnded g m.record.tag m.record.kind cause (s.gen g).counter m.started (m.endSearch cause)) := by
  obtain ⟨_, told⟩ := (s.endMove g cause).drain_keeps.told
  exact told.holds (State.endMove_told hm held isOpen room cause)

/-! ### The ramp timer in STOPPING -/

theorem Generator.stopDecelNow_eq (n : Generator) : n.stopDecelNow = if n.stopRate = some .halt then n.haltDecel else n.stopDecel := by
  unfold Generator.stopDecelNow
  cases n.stopRate with
  | none => rfl
  | some r => cases r <;> rfl

theorem Generator.stopCause_eq (n : Generator) (m : CurrentMove) :
    n.stopCause m =
      if n.stopRate = some .halt then .halted
      else if (m.search.bind SearchRecord.mark).isSome then .notFound else .stopped := by
  unfold Generator.stopCause
  cases n.stopRate with
  | none => cases m.search.bind SearchRecord.mark <;> rfl
  | some r => cases r <;> cases m.search.bind SearchRecord.mark <;> rfl

theorem Generator.atFloor_iff {n : Generator} (hm : n.current = some m) : n.atFloor = true ↔ n.speed ≤ m.record.kind.floor := by
  unfold Generator.atFloor
  rw [hm]
  exact decide_eq_true_iff

/-- The state in which a ramp timer has set a speed and started its next millisecond. -/
def State.slowed (s : State) (g : GenId) (v : Nat) : State := s.modGen g fun n => { n with speed := v, rampLeft := some 1 }

theorem State.slowed_gen (s : State) (g : GenId) (v : Nat) : (s.slowed g v).gen g = { s.gen g with speed := v, rampLeft := some 1 } :=
  State.modGen_gen_same _ _ _

/-- The end of motion of a stopping generator that has come to its floor (R102). -/
def State.floorEnds (s : State) (g : GenId) : State := if (s.gen g).atFloor then (s.closeStopped g).nextMove g else s

theorem State.floorEnds_eq (hm : (s.gen g).current = some m) :
    s.floorEnds g =
      if (s.gen g).speed ≤ m.record.kind.floor then s.endMove g ((s.gen g).stopCause m) else s := by
  unfold State.floorEnds
  refine if_congr (Generator.atFloor_iff hm) ?_ rfl
  rw [State.closeStopped_some _ g hm]
  rfl

theorem State.rampTick_floors (stopping : (s.gen g).state = .stopping) :
    s.rampTick g =
      State.floorEnds
        (if ((s.ramping g).gen g).atFloor then s.ramping g
          else (s.ramping g).modGen g fun n => { n with speed := n.speed - ((s.ramping g).gen g).stopDecelNow }) g := by
  have state : ((s.ramping g).gen g).state = .stopping := by rw [s.ramping_gen g]; exact stopping
  unfold State.rampTick
  unfold State.ramping at state ⊢
  dsimp only
  rw [state]
  rfl

/-- A ramp timer expiry in STOPPING: a lower speed, and at the floor the end of the move. -/
theorem State.rampTick_stopping (stopping : (s.gen g).state = .stopping) (hm : (s.gen g).current = some m) :
    ∃ v, v = (if (s.gen g).speed ≤ m.record.kind.floor then (s.gen g).speed else (s.gen g).speed - (s.gen g).stopDecelNow) ∧
      s.rampTick g =
        if v ≤ m.record.kind.floor then (s.slowed g v).endMove g ((s.gen g).stopCause m) else s.slowed g v := by
  have gen := s.ramping_gen g
  have ends (v : Nat) : (s.slowed g v).floorEnds g =
      if v ≤ m.record.kind.floor then (s.slowed g v).endMove g ((s.gen g).stopCause m) else s.slowed g v := by
    have slowed := s.slowed_gen g v
    rw [State.floorEnds_eq (m := m) (by rw [slowed]; exact hm), slowed]
    rfl
  refine ⟨_, rfl, ?_⟩
  rw [← ends, State.rampTick_floors stopping]
  refine congrArg (fun u : State => u.floorEnds g) ?_
  have floor : ((s.ramping g).gen g).atFloor = true ↔ (s.gen g).speed ≤ m.record.kind.floor := by
    rw [Generator.atFloor_iff (m := m) (by rw [gen]; exact hm), gen]
  by_cases low : (s.gen g).speed ≤ m.record.kind.floor
  · rw [if_pos (floor.mpr low), if_pos low]
    exact State.modGen_congr s g rfl
  · rw [if_neg (fun c => low (floor.mp c)), if_neg low, gen]
    unfold State.ramping
    rw [State.modGen_modGen]
    exact State.modGen_congr s g rfl

theorem Generator.stepped_stands (n : Generator) (g : GenId) (m : CurrentMove) :
    (n.stepped g m).current = some (m.stepped (decide (n.state = .searching))) ∧ (n.stepped g m).queue = n.queue ∧
      (n.stepped g m).pendingTrigger = n.pendingTrigger ∧ (n.stepped g m).halt = n.halt ∧
      (n.stepped g m).counter = (n.motion m).move n.counter := by
  cases g <;> exact ⟨rfl, rfl, rfl, rfl, rfl⟩

theorem Generator.stepped_stopCause (search : m.search = none) (n : Generator) (g : GenId) (b : Bool) :
    (n.stepped g m).stopCause (m.stepped b) = n.stopCause m := by
  have rate : (n.stepped g m).stopRate = n.stopRate := by cases g <;> rfl
  rw [Generator.stopCause_eq, Generator.stopCause_eq, rate, CurrentMove.stepped_search_none search, search]

/-- Settles O26: the ramp above the floor, its end there, and the last step. -/
theorem stoppingGeneratorSlowsToItsFloor : Obligations.StoppingGeneratorSlowsToItsFloor := by
  refine ⟨fun k start => ⟨?_, ?_, ?_⟩, fun s g m lawful => ?_⟩
  · rintro mode target peak accel decel rfl
    rfl
  · rintro dir peak accel decel limit rfl
    rfl
  · rintro f rfl
    rfl
  intro n rate floor stopping hm cause ended
  have law := (s.gensLawful_iff.mp lawful.gens g).lawful
  have hrate : n.stopDecelNow = rate := n.stopDecelNow_eq
  have hcause : n.stopCause m = cause := n.stopCause_eq m
  have empty := law.stopping_no_queue stopping
  have trigger := law.stopped_no_trigger (.inr stopping)
  have due := lawful.settled.no_first_step g
  have ends {u : State} {k : CurrentMove} {counter : Int} (gen : (u.gen g).current = some k ∧ (u.gen g).queue = [] ∧
      (u.gen g).pendingTrigger = false ∧ (u.gen g).halt = n.halt ∧ (u.gen g).counter = counter)
      (record : k.record = m.record ∧ k.started = m.started) (claims : u.claims = s.claims) (ports : u.ports = s.ports) :
      ended (u.endMove g cause).drain counter := by
    obtain ⟨current, queue, pending, halt, place⟩ := gen
    have rest := State.endMove_drained current queue pending cause
    rw [halt] at rest
    refine ⟨rest.of Generator.current fun _ => rfl, rest.of Generator.speed fun _ => rfl, (rest.of Generator.counter fun _ => rfl).trans place,
      rest.of Generator.state fun _ => rfl, fun p held room => ?_⟩
    have told := State.endMove_drained_told current (p := p) (by unfold State.holds State.holder State.claim at held ⊢; rw [claims]; exact held)
      (by unfold State.session; rw [State.port_congr ports]; exact lawful.holder_open held) (by rw [State.port_congr ports]; exact room) cause
    rw [record.1, record.2, place] at told
    obtain ⟨c, mem, kind⟩ := told
    exact ⟨c, mem, _, kind⟩
  have moving : n.state.moving = true := by rw [stopping]; rfl
  obtain ⟨v, hv, tick⟩ : ∃ v, v = (if n.speed ≤ floor then n.speed else n.speed - rate) ∧
      s.rampTick g = if v ≤ floor then (s.slowed g v).endMove g cause else s.slowed g v := by
    rw [← hrate, ← hcause]
    exact State.rampTick_stopping stopping hm
  refine ⟨fun expired above => ?_, fun expired low => ?_, fun kind search last ahead => ?_⟩
  · have high : ¬n.speed ≤ floor := by omega
    rw [if_neg high] at hv
    rw [if_neg (by omega)] at tick
    have settled : (s.rampTick g).vEvents = [] := by rw [tick]; exact lawful.settled.no_events
    rw [exec_rampTimerExpiry moving expired, State.drain_settled _ settled, tick, hv]
    exact congrArg Host.Outcome.next (State.modGen_congr s g rfl)
  · have reached : v ≤ floor := by split at hv <;> omega
    rw [if_pos reached] at tick
    have x := exec_rampTimerExpiry moving expired
    rw [tick] at x
    have gen := s.slowed_gen g v
    refine ⟨_, x, ends (k := m) ?_ ⟨rfl, rfl⟩ rfl rfl⟩
    rw [gen]
    exact ⟨hm, empty, trigger, rfl, rfl⟩
  · have motion : n.motion m = m.dir := n.motion_of_line kind
    have into : inCountRange ((n.motion m).move n.counter) = true := by
      rw [motion]
      exact StepDir.move_inRange law.counter_range ahead
    have x := exec_generatorStep (s := s) (g := g) moving
    have gen := s.stepIssued_gen g m
    obtain ⟨stepped, queue, pending, halt, counter⟩ := n.stepped_stands g m
    have taken := State.takeStep_last hm into last
    have same : (n.stepped g m).stopCause (m.stepped (decide (n.state = .searching))) = cause := by
      rw [Generator.stepped_stopCause search, ← hcause]
    rw [if_pos stopping, show ((s.gen g).stepped g m).stopCause (m.stepped (decide ((s.gen g).state = .searching))) = cause from same] at taken
    rw [taken] at x
    refine ⟨_, x, ends (k := m.stepped (decide (n.state = .searching))) ?_ ⟨rfl, rfl⟩ rfl rfl⟩
    rw [gen]
    exact ⟨stepped, queue.trans empty, pending.trans trigger, halt, counter.trans (by rw [motion, StepDir.move_eq])⟩

end Sys2Proof.Machine
end

section
/-! SUPPORT. FOLLOW moves at the count events of their source axis (R98 to R100), and the steps of G1 and G2 (R84). -/

namespace Sys2Proof.Machine

variable {s t u : State} {x : AxisId} {d : AxisDir} {g : GenId} {m : CurrentMove} {p : PortId}

/-! ### The backlog as a signed count (R99) -/

/-- A count of steps with the sign of their direction. -/
def StepDir.signed (dir : StepDir) (k : Nat) : Int := if dir = .up then (k : Int) else -k

/-- The backlog of a signed count, an empty one with direction UP; none past 64 steps. -/
def backlogOf (h : Int) : Option (Nat × StepDir) :=
  if -64 ≤ h ∧ h ≤ 64 then some (h.natAbs, if 0 ≤ h then .up else .down) else none

theorem backlogOf_up {h : Int} {k : Nat} (e : h = k) (places : k ≤ 64) : backlogOf h = some (k, .up) := by
  subst e
  unfold backlogOf
  rw [if_pos (by omega), if_pos (by omega), Int.natAbs_natCast]

theorem backlogOf_down {h : Int} {k : Nat} (e : h = -k) (some_steps : 0 < k) (places : k ≤ 64) : backlogOf h = some (k, .down) := by
  subst e
  unfold backlogOf
  rw [if_pos (by omega), if_neg (by omega), Int.natAbs_neg, Int.natAbs_natCast]

theorem backlogOf_none {h : Int} (past : h < -64 ∨ 64 < h) : backlogOf h = none := if_neg (by omega)

theorem StepDir.signed_up (k : Nat) : StepDir.up.signed k = k := rfl

theorem StepDir.signed_down (k : Nat) : StepDir.down.signed k = -k := rfl

/-- A lawful backlog is that of its signed count. -/
theorem BacklogLawful.backlogOf {b : Nat × StepDir} (h : BacklogLawful b) : backlogOf (b.2.signed b.1) = some b := by
  obtain ⟨k, way⟩ := b
  obtain ⟨places, up⟩ := h
  cases way with
  | up => exact backlogOf_up rfl places
  | down => exact backlogOf_down rfl (Nat.pos_of_ne_zero fun z => by cases up z) places

theorem signed_of_backlogOf {h : Int} {b : Nat × StepDir} (e : backlogOf h = some b) : b.2.signed b.1 = h := by
  unfold Machine.backlogOf at e
  split at e
  · cases e
    unfold StepDir.signed
    by_cases up : 0 ≤ h
    · rw [if_pos up, if_pos rfl]
      omega
    · rw [if_neg up, if_neg (nofun)]
      omega
  · cases e

/-- One due step joins the backlog, or would be the 65th (R99). -/
theorem joinBacklog_eq {dir : StepDir} {b : Nat × StepDir} (h : BacklogLawful b) :
    joinBacklog dir b = Machine.backlogOf (b.2.signed b.1 + dir.signed 1) := by
  obtain ⟨k, way⟩ := b
  obtain ⟨places, up⟩ := h
  dsimp only at places up
  unfold joinBacklog backlogDirection Config.backlogPlaces
  dsimp only
  cases way <;> cases dir <;> simp only [StepDir.signed_up, StepDir.signed_down, reduceCtorEq, or_true, or_false, if_true]
  · by_cases room : k + 1 ≤ 64
    · rw [if_pos room, backlogOf_up (k := k + 1) (by omega) room]
    · rw [if_neg room, backlogOf_none (by omega)]
  · by_cases zero : k = 0
    · rw [if_pos zero, if_pos (by omega), backlogOf_down (k := k + 1) (by omega) (by omega) (by omega)]
    · rw [if_neg zero, backlogOf_up (k := k - 1) (by omega) (by omega), ite_self]
  · have positive : k ≠ 0 := fun z => by cases up z
    rw [if_neg positive]
    by_cases one : k = 1
    · subst one
      rfl
    · rw [if_neg (by omega), backlogOf_down (k := k - 1) (by omega) (by omega) (by omega)]
  · have positive : k ≠ 0 := fun z => by cases up z
    by_cases room : k + 1 ≤ 64
    · rw [if_pos room, backlogOf_down (k := k + 1) (by omega) (by omega) room]
    · rw [if_neg room, backlogOf_none (by omega)]

theorem StepDir.signed_succ (dir : StepDir) (k : Nat) : dir.signed (k + 1) = dir.signed 1 + dir.signed k := by
  cases dir <;> simp only [StepDir.signed_up, StepDir.signed_down] <;> omega

/-- Steps that are due join the backlog one after another, opposite ones cancelling (R99). -/
theorem joinMany_eq (dir : StepDir) (k : Nat) {b : Nat × StepDir} (h : BacklogLawful b) :
    joinMany dir k b = Machine.backlogOf (b.2.signed b.1 + dir.signed k) := by
  induction k generalizing b with
  | zero =>
    have none_due : dir.signed 0 = 0 := by cases dir <;> rfl
    rw [none_due, Int.add_zero, h.backlogOf]
    rfl
  | succ k ih =>
    have one := joinBacklog_eq (dir := dir) h
    rw [StepDir.signed_succ, ← Int.add_assoc]
    unfold joinMany
    cases e : joinBacklog dir b with
    | some c =>
      dsimp only
      rw [ih (joinBacklog_lawful h e), signed_of_backlogOf (one.symm.trans e)]
    | none =>
      have places := h.1
      have past : b.2.signed b.1 + dir.signed 1 < -64 ∨ 64 < b.2.signed b.1 + dir.signed 1 := by
        by_contra within
        rw [e] at one
        unfold Machine.backlogOf at one
        rw [if_pos (by omega)] at one
        cases one
      refine (backlogOf_none ?_).symm
      generalize b.2 = way at past ⊢
      cases way <;> cases dir <;> simp only [StepDir.signed_up, StepDir.signed_down] at past ⊢ <;> omega

/-! ### What the parts of a count event leave of a generator they do not speak to -/

/-- What a part of a count event of an axis does at most, where it is not the source event at a generator. -/
structure State.Spares (x : AxisId) (g : GenId) (f : State → State) : Prop where
  part : ∀ t, State.Part x t (f t)
  triggered : ∀ t : State, (t.gen g).state ≠ .armed → (t.gen g).Triggered ((f t).gen g)
  unlisted : ∀ t : State, t.compareList x = [] → (f t).compareList x = []
  told : ∀ t, ∃ n, State.Told (fun _ => True) n t (f t)

theorem State.compareEvent_unlisted (h : s.compareList x = []) (d : AxisDir) : s.compareEvent x d = s := by
  unfold State.compareEvent State.dueEntries
  rw [h]
  rfl

theorem State.compareEvent_spares (x : AxisId) (d : AxisDir) (g : GenId) : State.Spares x g fun v => v.compareEvent x d :=
  ⟨fun t => t.compareEvent_part x d, fun _ armed => State.compareEvent_triggered armed x d,
    fun t h => by rw [State.compareEvent_unlisted h]; exact h, fun t => (t.compareEvent_keeps x d).told⟩

theorem State.camEvent_spares (x : AxisId) (rollover : Bool) (g : GenId) : State.Spares x g fun v => v.camEvent x rollover :=
  ⟨fun t => t.camEvent_part x rollover, fun t _ => .of_eq (State.gen_congr (t.camEvent_reach x rollover).gens g),
    fun t h => by rw [State.compareList_congr (t.camEvent_reach x rollover).compares]; exact h, fun t => ⟨3, t.camEvent_told x rollover⟩⟩

theorem State.evaluateAxis_spares (x : AxisId) (g : GenId) : State.Spares x g fun v => v.evaluateAxis x :=
  ⟨fun t => t.evaluateAxis_part x, fun t _ => .of_eq (State.gen_congr (State.evaluateAxis_reach t x).gens g),
    fun t h => by rw [State.compareList_congr (State.evaluateAxis_reach t x).compares]; exact h, fun t => ⟨0, t.evaluateAxis_told x⟩⟩

theorem State.postOverrange_told (s : State) (x : AxisId) (d : AxisDir) : State.Told (fun _ => True) 1 s (s.postOverrange x d) :=
  State.broadcast_told _ _ trivial

theorem State.postOverrange_spares (x : AxisId) (d : AxisDir) (g : GenId) : State.Spares x g fun v => v.postOverrange x d :=
  ⟨fun _ => .of_ports (State.broadcast_reach _ _ _), fun _ _ => .of_eq (State.gen_congr (State.broadcast_reach _ _ _).gens g),
    fun _ h => (State.compareList_congr (State.broadcast_reach _ _ _).compares x).trans h, fun t => ⟨1, t.postOverrange_told x d⟩⟩

theorem State.followEvent_spares {h : GenId} (other : h ≠ g) (x : AxisId) (d : AxisDir) : State.Spares x g fun v => v.followEvent x d h :=
  ⟨fun t => t.followEvent_part x x d h, fun t _ => by
      obtain ⟨_, only⟩ := t.followEvent_only x d h
      exact .of_eq (only.others g other.symm),
    fun t h' => by
      obtain ⟨_, only⟩ := t.followEvent_only x d h
      rw [State.compareList_congr only.move.compares]
      exact h',
    fun t => ⟨3, t.followEvent_told x d h⟩⟩

theorem State.choose_spares (x : AxisId) (g : GenId) : State.Spares x g State.choose :=
  ⟨.chosen x, fun _ _ => .refl _, fun _ h => h, fun _ => ⟨0, .of_ports _ _ rfl rfl⟩⟩

/-- A count event is the source events at the generators behind parts that speak to none of them. -/
theorem State.countEvent_parts (s : State) (x : AxisId) (d : AxisDir) :
    ∃ u lead, s.countEvent x d = takeParts (lead ++ u.followParts x d) u ∧ u.gens = s.gens ∧ u.claims = s.claims ∧
      u.ports = s.ports ∧ u.now = s.now ∧ u.compareList x = s.compareList x ∧ (∀ f ∈ lead, ∀ g, State.Spares x g f.2) ∧
      ∀ (P : State → Prop) rest n, (∀ t, P t → t.compareList x = []) → othersTold P rest n → othersTold P (lead ++ rest) (3 + n) := by
  cases status : (s.axis x).status with
  | overrange =>
    exact ⟨_, [], State.countEvent_overrange status, rfl, rfl, rfl, rfl, rfl, nofun, fun P rest n _ told => ⟨told.1, told.2.trans (by omega)⟩⟩
  | counting =>
    cases moves : (s.axis x).advance d with
    | some place =>
      obtain ⟨turn, position, rollover⟩ := place
      refine ⟨_, [(_, fun v => v.camEvent x rollover), (_, fun v => v.compareEvent x d)], State.countEvent_moves status moves, rfl, rfl, rfl, rfl,
        rfl, fun f hf g => ?_, fun P rest n unlisted told => ?_⟩
      · rcases List.mem_cons.mp hf with rfl | hf
        · exact State.camEvent_spares x rollover g
        · obtain rfl := List.mem_singleton.mp hf
          exact State.compareEvent_spares x d g
      · rw [← Nat.zero_add n]
        refine othersTold_cons (fun t _ => t.camEvent_told x rollover) (othersTold_cons (fun t h => ?_) told)
        rw [State.compareEvent_unlisted (unlisted t h)]
        exact .refl _ _ _
    | none =>
      refine ⟨_, [(_, fun v => v.evaluateAxis x), (_, fun v => v.postOverrange x d)], State.countEvent_overruns status moves, rfl, rfl, rfl, rfl,
        rfl, fun f hf g => ?_, fun P rest n unlisted told => ?_⟩
      · rcases List.mem_cons.mp hf with rfl | hf
        · exact State.evaluateAxis_spares x g
        · obtain rfl := List.mem_singleton.mp hf
          exact State.postOverrange_spares x d g
      · obtain ⟨each, sum⟩ := othersTold_cons (b := false) (fun t _ => t.evaluateAxis_told x)
          (othersTold_cons (b := true) (fun t _ => t.postOverrange_told x d) told)
        exact ⟨each, sum.trans (by omega)⟩

theorem allGens_split (g : GenId) :
    ∃ before after, allGens = before ++ g :: after ∧ (before ++ after).length = 2 ∧ ∀ h ∈ before ++ after, h ≠ g := by
  cases g
  · exact ⟨[], [.g2, .gv], rfl, rfl, by decide⟩
  · exact ⟨[.g1], [.gv], rfl, rfl, by decide⟩
  · exact ⟨[.g1, .g2], [], rfl, rfl, by decide⟩

/-- What the source event at a generator brings about in a count event, the other parts keeping what it finds and what it leaves;
where no compare entry stands on the axis, they tell a port nine notices at most. -/
theorem State.countEvent_followed (P Q : State → Prop)
    (start : ∀ u, u.gens = s.gens → u.claims = s.claims → u.ports = s.ports → P u)
    (keepsP : ∀ f, State.Spares x g f → ∀ t, P t → P (f t)) (keepsQ : ∀ f, State.Spares x g f → ∀ t, Q t → Q (f t))
    (acts : ∀ t, (s.compareList x = [] → State.Told (fun _ => True) 9 s t) → P t → Q (t.followEvent x d g)) :
    Q (s.countEvent x d) := by
  obtain ⟨u, lead, run, gens, claims, ports, now, list, spares, told⟩ := s.countEvent_parts x d
  obtain ⟨before, after, split, two, others⟩ := allGens_split g
  have parts : u.followParts x d = before.map (fun h => ((u.gen h).mayFollow x, fun v => v.followEvent x d h)) ++
      ((u.gen g).mayFollow x, fun v => v.followEvent x d g) ::
        after.map (fun h => ((u.gen h).mayFollow x, fun v => v.followEvent x d h)) := by
    unfold State.followParts
    rw [split, List.map_append, List.map_cons]
  have spared (f : Bool × (State → State)) (hf : f ∈ (lead ++ before.map fun h => ((u.gen h).mayFollow x, fun v : State => v.followEvent x d h)) ++
      after.map fun h => ((u.gen h).mayFollow x, fun v : State => v.followEvent x d h)) : State.Spares x g f.2 := by
    rw [List.append_assoc, ← List.map_append] at hf
    rcases List.mem_append.mp hf with hf | hf
    · exact spares f hf g
    · obtain ⟨h, hh, rfl⟩ := List.mem_map.mp hf
      exact State.followEvent_spares (others h hh) x d
  rw [run, parts, ← List.append_assoc]
  by_cases empty : s.compareList x = []
  · refine takeParts_once_told (n := 9) (fun t => P t ∧ t.compareList x = []) Q _ _ _ ?_ (fun f hf t k => ⟨keepsP _ (spared f hf) t k.1, ?_⟩)
      (fun f hf t k => keepsQ _ (spared f hf) t k) (fun t k => ⟨keepsP _ (State.choose_spares x g) t k.1, k.2⟩)
      (fun t k => keepsQ _ (State.choose_spares x g) t k) (fun t told k => acts t (fun _ => ?_) k.1) ⟨start u gens claims ports, list.trans empty⟩
    · have rest := othersTold_map (P := fun t => P t ∧ t.compareList x = []) (fun h => (u.gen h).mayFollow x)
        (fun h t _ => t.followEvent_told x d h) (before ++ after)
      rw [two, List.map_append] at rest
      rw [List.append_assoc]
      exact told _ _ _ (fun t k => k.2) rest
    · exact (spared f hf).unlisted t k.2
    · exact (State.Told.of_ports (s := s) (t := u) _ 0 now ports).trans told
  · exact takeParts_once P Q _ _ _ (fun f hf t k => keepsP _ (spared f hf) t k) (fun f hf t k => keepsQ _ (spared f hf) t k)
      (fun t k => keepsP _ (State.choose_spares x g) t k) (fun t k => keepsQ _ (State.choose_spares x g) t k)
      (fun t k => acts t (fun e => absurd e empty) k) (start u gens claims ports)

/-! ### The source event of a FOLLOW move (R98, R99) -/

/-- The backlog, with its sign, after a source event. -/
def Generator.heldAfter (n : Generator) (num : Int) (den : Nat) (d : AxisDir) : Int :=
  n.backlogDir.signed n.backlog + (n.accumulator + d.count * num) / (den : Int)

theorem followReduce_joins {n : Generator} (h : BacklogLawful (n.backlog, n.backlogDir)) (num : Int) (den : Nat) (d : AxisDir) :
    joinMany (followReduce n.accumulator num den d).2.2 (followReduce n.accumulator num den d).2.1 (n.backlog, n.backlogDir) =
      backlogOf (n.heldAfter num den d) := by
  rw [joinMany_eq _ _ h]
  refine congrArg (fun i : Int => backlogOf (n.backlogDir.signed n.backlog + i)) ?_
  have due (q : Int) : (if 0 ≤ q then StepDir.up else .down).signed q.natAbs = q := by
    split
    · rw [StepDir.signed_up]
      omega
    · rw [StepDir.signed_down]
      omega
  exact due _

/-- The record of a FOLLOW move that a source event reaches, and that goes on. -/
def Generator.followed (n : Generator) (num : Int) (den : Nat) (d : AxisDir) (backlog : Nat) (dir : StepDir) : Generator :=
  { n with accumulator := (followReduce n.accumulator num den d).1, backlog := backlog, backlogDir := dir }

variable {n : Generator} {num : Int} {den : Nat} {limit : Option Nat}

theorem State.followEvent_within (trig : n.Triggered (s.gen g)) (state : n.state = .following) (hm : n.current = some m)
    (kind : m.record.kind = .follow x num den limit) (lawful : BacklogLawful (n.backlog, n.backlogDir)) {count : Nat} {dir : StepDir}
    (joined : backlogOf (n.heldAfter num den d) = some (count, dir)) :
    (n.followed num den d count dir).Triggered ((s.followEvent x d g).gen g) := by
  have joins := followReduce_joins lawful num den d
  rw [joined] at joins
  have event := s.followEvent_of_follows d ((trig.of Generator.state fun _ => rfl).trans state)
    ((trig.of Generator.current fun _ => rfl).trans hm) kind
  have accumulator := trig.of Generator.accumulator fun _ => rfl
  have backlog := trig.of Generator.backlog fun _ => rfl
  have way := trig.of Generator.backlogDir fun _ => rfl
  rw [accumulator, backlog, way, joins] at event
  rw [event, State.modGen_gen_same]
  unfold Generator.Triggered at trig ⊢
  rw [trig]
  rfl

/-- A backlog that would exceed 64 ends the move, its queue flushed (R99). -/
theorem State.followEvent_past (trig : n.Triggered (s.gen g)) (state : n.state = .following) (hm : n.current = some m)
    (kind : m.record.kind = .follow x num den limit) (lawful : BacklogLawful (n.backlog, n.backlogDir))
    (joined : backlogOf (n.heldAfter num den d) = none) : s.followEvent x d g = (s.flush g).endMove g .followOverspeed := by
  have joins := followReduce_joins lawful num den d
  rw [joined] at joins
  have event := s.followEvent_of_follows d ((trig.of Generator.state fun _ => rfl).trans state)
    ((trig.of Generator.current fun _ => rfl).trans hm) kind
  have accumulator := trig.of Generator.accumulator fun _ => rfl
  have backlog := trig.of Generator.backlog fun _ => rfl
  have way := trig.of Generator.backlogDir fun _ => rfl
  rw [accumulator, backlog, way, joins] at event
  exact event

theorem State.flush_endMove_gen (hm : (s.gen g).current = some m) (halt : (s.gen g).halt = false)
    (stands : (s.claim (.generator g)).state ≠ .releasing) (cause : EndCause) :
    ((s.flush g).endMove g cause).gen g = { s.gen g with queue := [] }.atStandstill .idle := by
  have flushed := s.flush_gen g
  have ended := State.endMove_gen (s := s.flush g) (g := g) (m := m) (by rw [flushed]; exact hm) (by rw [flushed])
    (fun k => absurd (by rw [← State.flush_claim s g]; exact k) stands) cause
  rw [flushed] at ended
  rw [ended]
  dsimp only
  rw [halt]
  rfl

theorem CurrentMove.stepped_left (left : ∀ k, m.remaining = some k → 2 ≤ k) (b : Bool) : (m.stepped b).remaining ≠ some 0 := by
  intro none_left
  obtain ⟨k, remaining, last⟩ := Option.map_eq_some_iff.mp none_left
  have := left k remaining
  omega

/-- A step of G1 or G2 with which the move goes on, with nothing after it (R84). -/
theorem State.takeStep_drained (off : g ≠ .gv) (settled : s.vEvents = []) (hm : (s.gen g).current = some m)
    (into : inCountRange (((s.gen g).motion m).move (s.gen g).counter) = true)
    (goes : (m.stepped (decide ((s.gen g).state = .searching))).stepEnd (decide ((s.gen g).state = .searching)) = .goesOn)
    {n : Generator} (same : (s.gen g).stepped g m = n) : (s.takeStep g).drain = s.modGen g fun _ => n := by
  have taken := State.takeStep_goesOn off hm into goes
  have quiet : (s.takeStep g).vEvents = [] := by rw [taken]; exact settled
  rw [State.drain_settled _ quiet, taken]
  exact State.modGen_congr s g same

/-- What triggers make of a generator that is not ARMED stands through the other parts of a count event. -/
theorem Generator.Triggered.spared {k : Generator} (armed : k.state ≠ .armed) {f : State → State} (spares : State.Spares x g f) {t : State}
    (record : k.Triggered (t.gen g)) : k.Triggered ((f t).gen g) :=
  record.trans (spares.triggered t (by rw [record.of Generator.state fun _ => rfl]; exact armed))

/-- A count event of its source at a FOLLOW move that goes on (R98, R99). -/
theorem State.countEvent_within (following : (s.gen g).state = .following) (hm : (s.gen g).current = some m)
    (kind : m.record.kind = .follow x num den limit) (lawful : BacklogLawful ((s.gen g).backlog, (s.gen g).backlogDir)) {count : Nat}
    {dir : StepDir} (joined : backlogOf ((s.gen g).heldAfter num den d) = some (count, dir)) :
    ((s.gen g).followed num den d count dir).Triggered ((s.countEvent x d).gen g) := by
  have armed : (s.gen g).state ≠ .armed := by rw [following]; decide
  exact State.countEvent_followed (fun t => (s.gen g).Triggered (t.gen g))
    (fun t => ((s.gen g).followed num den d count dir).Triggered (t.gen g)) (fun u gens _ _ => .of_eq (State.gen_congr gens g))
    (fun f spares t trig => trig.spared armed spares) (fun f spares t trig => trig.spared (k := (s.gen g).followed num den d count dir) armed spares)
    fun t _ trig => State.followEvent_within trig following hm kind lawful joined

/-- One at a FOLLOW move whose backlog would exceed 64 steps (R99). -/
theorem State.countEvent_past (following : (s.gen g).state = .following) (hm : (s.gen g).current = some m)
    (kind : m.record.kind = .follow x num den limit) (lawful : BacklogLawful ((s.gen g).backlog, (s.gen g).backlogDir))
    (halt : (s.gen g).halt = false) (stands : (s.claim (.generator g)).state ≠ .releasing)
    (joined : backlogOf ((s.gen g).heldAfter num den d) = none) :
    ({ s.gen g with queue := [] }.atStandstill .idle).Triggered ((s.countEvent x d).gen g) ∧
      ∀ p, s.holds p (.generator g) = true → (s.session p).isOpen = true → s.compareList x = [] →
        (s.port p).notices.items.length ≤ 12 →
        ((s.countEvent x d).port p).Holds
          (.moveEnded g m.record.tag m.record.kind .followOverspeed (s.gen g).counter m.started none) := by
  have armed : (s.gen g).state ≠ .armed := by rw [following]; decide
  have idle : ({ s.gen g with queue := [] }.atStandstill .idle).state ≠ .armed := by
    change GenState.idle ≠ .armed
    decide
  refine State.countEvent_followed (fun t => (s.gen g).Triggered (t.gen g) ∧ s.ClaimsStand t) (fun t =>
      ({ s.gen g with queue := [] }.atStandstill .idle).Triggered (t.gen g) ∧
      ∀ p, s.holds p (.generator g) = true → (s.session p).isOpen = true → s.compareList x = [] →
        (s.port p).notices.items.length ≤ 12 →
        (t.port p).Holds (.moveEnded g m.record.tag m.record.kind .followOverspeed (s.gen g).counter m.started none))
    (fun u gens claims _ => ⟨.of_eq (State.gen_congr gens g), .of_eq claims⟩)
    (fun f spares t r => ⟨r.1.spared armed spares, r.2.trans (spares.part t).claims⟩)
    (fun f spares t r => ⟨r.1.spared idle spares, fun p held isOpen empty room => ?_⟩) fun t told r => ?_
  · obtain ⟨_, told⟩ := spares.told t
    exact told.holds (r.2 p held isOpen empty room)
  · obtain ⟨trig, claims⟩ := r
    have current : (t.gen g).current = some m := (trig.of Generator.current fun _ => rfl).trans hm
    have counter : (t.gen g).counter = (s.gen g).counter := trig.of Generator.counter fun _ => rfl
    rw [State.followEvent_past trig following hm kind lawful joined]
    refine ⟨?_, fun p held isOpen empty room => ?_⟩
    · rw [State.flush_endMove_gen current ((trig.of Generator.halt fun _ => rfl).trans halt)
        (by rw [claims _ (.inr stands)]; exact stands)]
      unfold Generator.Triggered at trig ⊢
      rw [trig]
      rfl
    · have before := told empty
      have flushed := (t.flush_only g).told
      have ended := State.endMove_told (s := t.flush g) (p := p) (m := m) (by rw [State.flush_gen]; exact current)
        ((State.ClaimsStand.of_eq (t.flush_claims g)).holds (claims.holds held))
        (by rw [flushed.session, before.session]; exact isOpen)
        (by
          have one := before.length_le p
          have two := flushed.length_le p
          omega) .followOverspeed
      rw [State.flush_gen, CurrentMove.endSearch_of_code (by rw [kind]; simp [MoveKind.code])] at ended
      rw [← counter]
      exact ended

/-- Settles O24: the steps of each kind of move, and the source event of a FOLLOW move. -/
theorem stepMovesCounterAndLines : Obligations.StepMovesCounterAndLines := by
  refine ⟨fun s g m off settled => ?_, fun s g m f r off settled => ?_, fun s g m source num den limit off settled => ?_,
    fun s e phase1 phase2 d g m num den limit lawful event positive => ?_⟩
  · intro n state hm search kind left ahead low high
    have moving : n.state.moving = true := by rcases state with e | e <;> rw [e] <;> rfl
    have following : n.state ≠ .following := fun e => by rw [e] at moving; cases moving
    rw [exec_generatorStep moving]
    refine congrArg Host.Outcome.next (State.takeStep_drained off settled hm ?_ ?_ (Generator.stepped_line_move off n following kind search))
    · rw [Generator.motion_of_line _ kind]
      exact StepDir.move_inRange ⟨low, high⟩ ahead
    · exact CurrentMove.stepEnd_goesOn (CurrentMove.stepped_left left _) (CurrentMove.stepped_search_none search _)
  · intro n searching hm kind search unlimited within ahead low high
    have moving : n.state.moving = true := by rw [searching]; rfl
    rw [exec_generatorStep moving]
    refine congrArg Host.Outcome.next (State.takeStep_drained off settled hm ?_ ?_ (Generator.stepped_search off n searching kind search))
    · rw [Generator.motion_of_search _ kind search]
      exact StepDir.move_inRange ⟨low, high⟩ ahead
    · unfold CurrentMove.stepEnd CurrentMove.stepped
      dsimp only
      rw [unlimited, kind, search]
      refine (if_neg nofun).trans (if_neg fun c => ?_)
      rw [show (s.gen g).state = .searching from searching] at c
      exact absurd c.2 (Nat.not_lt.mpr within)
  · intro n following hm search kind backlog left ahead low high
    have code : m.record.kind.code = 2 := by rw [kind]; rfl
    rw [exec_followBacklogStep following backlog]
    refine congrArg Host.Outcome.next (State.takeStep_drained off settled hm ?_ ?_ ?_)
    · rw [Generator.motion_of_follow _ code]
      exact StepDir.move_inRange ⟨low, high⟩ ahead
    · exact CurrentMove.stepEnd_goesOn (CurrentMove.stepped_left left _) (CurrentMove.stepped_search_none search _)
    · rw [Generator.stepped_follow off _ following code search]
      have empty : backlogDirection (n.backlog - 1) n.backlogDir = if n.backlog = 1 then .up else n.backlogDir :=
        if_congr (by omega) rfl rfl
      rw [← empty]
  · intro n following hm kind forward sum held
    let x := e.axis
    let l := s.levelled e { phase1 := phase1, phase2 := phase2 }
    let dir := if (s.axis x).sense = .normal then d else d.opposite
    have law := (s.gensLawful_iff.mp lawful.gens g).lawful
    have backlog : BacklogLawful (n.backlog, n.backlogDir) := ⟨law.backlog_places, law.empty_backlog_up⟩
    have unhalted : n.halt = false := lawful.moving_unhalted (g := g) (by rw [following]; decide) (by rw [following]; decide)
    have unreleased : (s.claim (.generator g)).state ≠ .releasing := fun k => by
      rcases lawful.gens.releasing_stops g k with e | e <;> (rw [following] at e; cases e)
    have count : dir.count * num = if forward then num else -num := by
      change (if _ then d else d.opposite).count * num = if decide _ = true then num else -num
      cases (s.axis e.axis).sense <;> cases d <;> simp [AxisDir.count, AxisDir.opposite]
    have after : n.heldAfter num den dir = held := by
      unfold Generator.heldAfter
      rw [count]
      rfl
    have step {k : Generator} (kept : k.firstStepDue = false) (deaf : k.Deaf .v) (record : k.Triggered ((l.countEvent x dir).gen g)) :
        k.Triggered ((l.countEvent x dir).drain.gen g) :=
      record.trans (State.drain_triggered (deaf.triggered record) fun _ => (record.of Generator.firstStepDue fun _ => rfl).trans kept)
    by_cases within : -64 ≤ held ∧ held ≤ 64
    · have joined : backlogOf (n.heldAfter num den dir) = some (held.natAbs, if 0 ≤ held then .up else .down) := by
        rw [after]
        exact if_pos within
      have other : n.followsNow .v = false := Bool.eq_false_iff.mpr fun follows => by
        obtain ⟨-, m', _, _, _, hm', kind'⟩ := (Generator.followsNow_iff _ _).mp follows
        cases hm.symm.trans hm'
        rw [kind] at kind'
        exact Encoder.axis_ne_v e (MoveKind.follow.inj kind').1
      have record := step (k := n.followed num den dir _ _) (lawful.settled.no_first_step g) ⟨show n.state ≠ .armed by rw [following]; decide, other⟩
        (State.countEvent_within (s := l) following hm kind backlog joined)
      have accumulator : ((n.followed num den dir held.natAbs (if 0 ≤ held then .up else .down)).accumulator : Int) = sum % den := by
        change ((Int.emod (n.accumulator + dir.count * num) den).toNat : Int) = _
        rw [count]
        exact Int.toNat_of_nonneg (Int.emod_nonneg _ (by omega))
      exact ⟨_, exec_encoderTransition event, record.of Generator.counter fun _ => rfl,
        fun _ _ => ⟨(record.of Generator.state fun _ => rfl).trans following, (record.of Generator.current fun _ => rfl).trans hm,
          record.of Generator.queue fun _ => rfl, (congrArg Nat.cast (record.of Generator.accumulator fun _ => rfl)).trans accumulator,
          record.of Generator.backlog fun _ => rfl, record.of Generator.backlogDir fun _ => rfl⟩,
        fun past => absurd within (by omega)⟩
    · have joined : backlogOf (n.heldAfter num den dir) = none := by
        rw [after]
        exact backlogOf_none (by omega)
      obtain ⟨ended, told⟩ := State.countEvent_past (s := l) following hm kind backlog unhalted unreleased joined
      have record := step (k := { n with queue := [] }.atStandstill .idle) rfl
        (Generator.deaf_of_state (show GenState.idle ≠ .armed from nofun) (show GenState.idle ≠ .following from nofun) .v) ended
      obtain ⟨_, later⟩ := (l.countEvent x dir).drain_keeps.told
      exact ⟨_, exec_encoderTransition event, record.of Generator.counter fun _ => rfl, fun low high => absurd ⟨low, high⟩ within,
        fun _ => ⟨record.of Generator.state fun _ => rfl, record.of Generator.current fun _ => rfl, record.of Generator.queue fun _ => rfl,
          record.of Generator.accumulator fun _ => rfl, record.of Generator.backlog fun _ => rfl,
          fun p held empty room => later.holds (told p held (lawful.holder_open held) empty room)⟩⟩

end Sys2Proof.Machine
end

section
/-! SUPPORT. A step of GV and the count event of axis V that it is (R4, R9). -/

namespace Sys2Proof.Machine

variable {s t u : State} {x : AxisId} {d : AxisDir} {g : GenId} {m : CurrentMove} {a : Axis}

/-! ### GV while axis V takes its event -/

/-- GV at a counter, with no move that a trigger would start and no first step put off; the count events of axis V still to be taken. -/
structure State.Poised (counter : Int) (events : List AxisDir) (s : State) : Prop where
  not_armed : (s.gen .gv).state ≠ .armed
  at_counter : (s.gen .gv).counter = counter
  not_due : (s.gen .gv).firstStepDue = false
  to_take : s.vEvents = events

namespace State.Poised

variable {c : Int} {l : List AxisDir}

theorem of_triggered (h : s.Poised c l) (gen : (s.gen .gv).Triggered (t.gen .gv)) (events : t.vEvents = s.vEvents) : t.Poised c l := by
  unfold Generator.Triggered at gen
  refine ⟨?_, ?_, ?_, events.trans h.to_take⟩ <;> rw [gen]
  · exact h.not_armed
  · exact h.at_counter
  · exact h.not_due

theorem congr (h : s.Poised c l) (gens : t.gens = s.gens) (events : t.vEvents = s.vEvents) : t.Poised c l :=
  h.of_triggered (.of_eq (State.gen_congr gens .gv)) events

theorem trigger (h : s.Poised c l) (g : GenId) (source : TriggerSource) : (s.trigger g source).Poised c l := by
  refine h.of_triggered (State.trigger_triggered h.not_armed g source) ?_
  by_cases e : g = .gv
  · subst e
    by_cases lost : (s.gen .gv).state = .stopping ∨ (s.gen .gv).state = .halted
    · rw [State.trigger_lost source lost, State.postGen_vEvents]
    · rw [State.trigger_kept source h.not_armed (fun k => lost (.inl k)) fun k => lost (.inr k)]
      split
      · exact State.postGen_vEvents _ _ _
      · rfl
  · obtain ⟨_, only⟩ := s.trigger_only g source
    obtain ⟨more, events, none⟩ := only.events
    rw [events, none e, List.append_nil]

theorem settle (h : s.Poised c l) : (s.settle .gv).Poised c l := by
  have set (b : GenState) (armed : b ≠ .armed) : (s.modGen .gv fun n => { n with state := b }).Poised c l := by
    refine ⟨?_, ?_, ?_, h.to_take⟩ <;> rw [State.modGen_gen_same]
    · exact armed
    · exact h.at_counter
    · exact h.not_due
  unfold State.settle
  split
  · exact set .halted (by decide)
  · refine (set .idle (by decide)).of_triggered ?_ (State.reportIdle_vEvents _ _)
    rw [State.reportIdle_gen]
    split
    · exact rfl
    · exact .refl _

theorem endMove (h : s.Poised c l) (empty : (s.gen .gv).queue = []) (hm : (s.gen .gv).current = some m) (cause : EndCause) :
    (s.endMove .gv cause).Poised c l := by
  unfold State.endMove
  rw [State.nextMove_empty _ _ (by rw [State.closeMove_queue]; exact empty)]
  have gen := s.closeMove_gen .gv cause hm
  refine State.Poised.settle ⟨?_, ?_, ?_, (State.closeMove_vEvents s .gv cause).trans h.to_take⟩ <;> rw [gen]
  · exact h.not_armed
  · exact h.at_counter
  · rfl

theorem followEvent (h : s.Poised c l) (x : AxisId) (d : AxisDir) (g : GenId) : (s.followEvent x d g).Poised c l := by
  by_cases e : g = .gv
  · subst e
    cases now : (s.gen .gv).followsNow x with
    | false =>
      rw [State.followEvent_of_not s d now]
      exact h
    | true =>
      obtain ⟨state, m, num, den, limit, hm, kind⟩ := (Generator.followsNow_iff _ x).mp now
      have gen := s.flush_gen .gv
      rw [State.followEvent_of_follows s d state hm kind]
      split
      · refine ⟨?_, ?_, ?_, h.to_take⟩ <;> rw [State.modGen_gen_same]
        · exact h.not_armed
        · exact h.at_counter
        · exact h.not_due
      · have flushed : (s.flush .gv).Poised c l := by
          refine ⟨?_, ?_, ?_, (s.flush_vEvents .gv).trans h.to_take⟩ <;> rw [gen]
          · exact h.not_armed
          · exact h.at_counter
          · exact h.not_due
        exact flushed.endMove (m := m) (by rw [gen]) (by rw [gen]; exact hm) _
  · obtain ⟨_, only⟩ := s.followEvent_only x d g
    obtain ⟨more, events, none⟩ := only.events
    refine h.of_triggered (.of_eq (only.others .gv (Ne.symm e))) ?_
    rw [events, none e, List.append_nil]

theorem compareEvent (h : s.Poised c l) (x : AxisId) (d : AxisDir) : (s.compareEvent x d).Poised c l := by
  have out (t : State) (k : t.Poised c l) (p : PortId) (o : OutputId) (f : Channel → Channel) : (t.outAction p o f).1.Poised c l :=
    have reach := t.outAction_reach p o f
    k.congr reach.gens reach.vEvents
  have action (t : State) (k : t.Poised c l) (e : CompareEntry) : (t.fireAction x e).1.Poised c l := by
    unfold State.fireAction
    split
    · exact k
    · exact out t k _ _ _
    · exact out t k _ _ _
    · exact out t k _ _ _
    · exact out t k _ _ _
    · split
      · exact k.trigger _ _
      · exact k
    · have reach := t.logCapture_reach x .compare e.target
      exact k.congr reach.gens reach.vEvents
  refine State.compareEvent_all (State.Poised c l) (fun t e k _ => ?_) h
  rw [State.fire_eq]
  exact (action t k e).congr (State.post_reach _ _ _).gens (State.post_reach _ _ _).vEvents

/-- A count event leaves GV at its counter. -/
theorem countEvent (h : s.Poised c l) (x : AxisId) (d : AxisDir) : (s.countEvent x d).Poised c l := by
  have follow (u : State) : ∀ f ∈ u.followParts x d, ∀ t : State, t.Poised c l → (f.2 t).Poised c l := by
    intro f hf t k
    obtain ⟨g, -, rfl⟩ := List.mem_map.mp hf
    exact k.followEvent x d g
  unfold State.countEvent
  dsimp only
  split
  · exact takeParts_all (State.Poised c l) _ (follow _) (fun _ k => k.congr rfl rfl) (h.congr rfl rfl)
  · refine takeParts_all (State.Poised c l) _ (fun f hf t k => ?_) (fun _ k => k.congr rfl rfl) (h.congr rfl rfl)
    rcases List.mem_cons.mp hf with rfl | hf
    · exact k.congr (t.camEvent_reach x _).gens (t.camEvent_reach x _).vEvents
    rcases List.mem_cons.mp hf with rfl | hf
    · exact k.compareEvent x d
    exact follow _ f hf t k
  · refine takeParts_all (State.Poised c l) _ (fun f hf t k => ?_) (fun _ k => k.congr rfl rfl) (h.congr rfl rfl)
    rcases List.mem_cons.mp hf with rfl | hf
    · exact k.congr (State.evaluateAxis_reach t x).gens (State.evaluateAxis_reach t x).vEvents
    rcases List.mem_cons.mp hf with rfl | hf
    · exact k.congr (State.broadcast_reach _ _ _).gens (State.broadcast_reach _ _ _).vEvents
    exact follow _ f hf t k

end State.Poised

/-- The state as axis V takes its one event. -/
def State.taking (s : State) : State := { s with vEvents := [], vTaking := true }

theorem State.drainSteps_nil (n : Nat) (settled : s.vEvents = []) : State.drainSteps n s = s := by
  cases n with
  | zero => rfl
  | succ n =>
    unfold State.drainSteps
    rw [settled]

/-- The one count event of axis V that a step of GV brings about is taken, and no other (R4). -/
theorem State.drain_once {c : Int} (poised : s.Poised c [d]) : s.drain = { s.taking.countEvent .v d with vTaking := false } := by
  have taking : s.taking.Poised c [] := ⟨poised.not_armed, poised.at_counter, poised.not_due, rfl⟩
  have after := taking.countEvent .v d
  have still : State.deferredStep { s.taking.countEvent .v d with vTaking := false } = { s.taking.countEvent .v d with vTaking := false } :=
    if_neg (Bool.eq_false_iff.mp after.not_due)
  unfold State.drain
  rw [poised.to_take]
  change State.drainSteps ((1 + (s.gen .gv).queue.length + 1) + 1) s = _
  unfold State.drainSteps
  rw [poised.to_take]
  dsimp only
  change State.drainSteps _ (State.deferredStep { s.taking.countEvent .v d with vTaking := false }) = _
  rw [still]
  exact State.drainSteps_nil _ after.to_take

/-! ### The step (R84) -/

theorem CurrentMove.stepEnd_plain {b : Bool} (left : m.remaining ≠ some 0) (plain : m.record.kind.code ≠ 4) : m.stepEnd b = .goesOn := by
  unfold CurrentMove.stepEnd
  rw [if_neg left]
  cases kind : m.record.kind with
  | home f => exact absurd (by rw [kind]; rfl) plain
  | _ => rfl

/-- A step that GV issues, where no record takes the place of a move that ends with it: GV stands at the new counter, and axis V has
its count event to take. -/
theorem State.takeStep_poised (hm : (s.gen .gv).current = some m)
    (into : inCountRange (((s.gen .gv).motion m).move (s.gen .gv).counter) = true) (moves : (s.gen .gv).state ≠ .armed)
    (settled : s.vEvents = [])
    (goes : (m.stepped (decide ((s.gen .gv).state = .searching))).stepEnd (decide ((s.gen .gv).state = .searching)) = .goesOn ∨
      m.remaining = some 1 ∧ (s.gen .gv).queue = []) :
    (s.takeStep .gv).Poised (((s.gen .gv).motion m).move (s.gen .gv).counter)
        [(s.gen .gv).sense.stepEvent ((s.gen .gv).motion m)] ∧ (s.takeStep .gv).axes = s.axes := by
  have issued : (s.stepIssued .gv m).Poised (((s.gen .gv).motion m).move (s.gen .gv).counter)
      [(s.gen .gv).sense.stepEvent ((s.gen .gv).motion m)] := by
    refine ⟨?_, ?_, ?_, ?_⟩
    · rw [State.stepIssued_gen, Generator.stepped_state]
      exact moves
    · rw [State.stepIssued_gen]
      exact ((s.gen .gv).stepped_stands .gv m).2.2.2.2
    · rw [State.stepIssued_gen]
      exact ((s.gen .gv).stepped_paced .gv m).2.2
    · change s.vEvents ++ _ = _
      rw [settled]
      rfl
  rcases goes with goes | ⟨last, empty⟩
  · have step : s.takeStep .gv = s.stepIssued .gv m := by
      unfold State.takeStep
      rw [State.issueStep_in s .gv hm into, goes]
      rfl
    rw [step]
    exact ⟨issued, rfl⟩
  · rw [State.takeStep_last hm into last]
    have stands := (s.gen .gv).stepped_stands .gv m
    refine ⟨issued.endMove (by rw [State.stepIssued_gen]; exact stands.2.1.trans empty)
      (by rw [State.stepIssued_gen]; exact stands.1) _, ?_⟩
    obtain ⟨_, only⟩ := (s.stepIssued .gv m).endMove_only .gv _
    exact only.move.axes

/-! ### Axis V -/

theorem Sense.stepEvent_eq (c : Sense) (dir : StepDir) :
    c.stepEvent dir = if (dir = .up ↔ c = .normal) then .forward else .reverse := by
  cases c <;> cases dir <;> rfl

/-- Where a count event takes an axis that stays within its range (R5, R6), by division with remainder. -/
theorem Axis.advance_within (lawful : a.Lawful) {count : Int} (sign : count = if d = .forward then 1 else -1)
    (linear : a.mode = .linear → -2000000000 ≤ a.position + count ∧ a.position + count ≤ 2000000000)
    (rotary : a.mode = .rotary → if 0 < count then a.position + 1 < a.cycle ∨ a.turn < 32767 else 0 < a.position ∨ -32768 < a.turn) :
    ∃ turn position rollover, a.advance d = some (turn, position, rollover) ∧
      position = (match a.mode with
        | .linear => a.position + count
        | .rotary => (a.position + count) % a.cycle) ∧
      turn = (match a.mode with
        | .linear => 0
        | .rotary => a.turn + (a.position + count) / a.cycle) := by
  cases mode : a.mode with
  | linear =>
    have range := linear mode
    have place := lawful.linear_place mode
    refine ⟨_, _, _, Axis.advance_linear mode ?_, ?_, place.2.2⟩
    · cases d <;> simp only [reduceCtorEq, if_true, if_false] at sign ⊢ <;> omega
    · cases d <;> simp only [reduceCtorEq, if_true, if_false] at sign ⊢ <;> omega
  | rotary =>
    have range := rotary mode
    have place := lawful.rotary_place mode
    have cycle := lawful.cycle_range.1
    refine ⟨_, _, _, Axis.advance_rotary lawful mode ?_, ?_⟩
    · cases d <;> simp only [reduceCtorEq, if_true, if_false] at sign ⊢ <;> subst sign <;> simpa using range
    · have divides (q r : Int) (sum : r + a.cycle * q = a.position + count) (low : 0 ≤ r) (high : r < a.cycle) :
          r = (a.position + count) % a.cycle ∧ a.turn + q = a.turn + (a.position + count) / a.cycle := by
        obtain ⟨hq, hr⟩ := (Int.ediv_emod_unique (show (0 : Int) < a.cycle by omega)).mpr ⟨sum, low, high⟩
        exact ⟨hr.symm, by rw [hq]⟩
      cases d
      · simp only [if_true] at sign ⊢
        by_cases edge : a.position + 1 = a.cycle
        · rw [if_pos edge, if_pos edge]
          exact divides 1 0 (by omega) (by omega) (by omega)
        · rw [if_neg edge, if_neg edge]
          have := divides 0 (a.position + 1) (by omega) (by omega) (by omega)
          exact ⟨this.1, by rw [← this.2, Int.add_zero]⟩
      · simp only [reduceCtorEq, if_false] at sign ⊢
        by_cases edge : a.position = 0
        · rw [if_pos edge, if_pos edge]
          exact divides (-1) (a.cycle - 1) (by omega) (by omega) (by omega)
        · rw [if_neg edge, if_neg edge]
          have := divides 0 (a.position - 1) (by omega) (by omega) (by omega)
          exact ⟨this.1, by rw [← this.2, Int.add_zero]⟩

/-- Settles O21: the step hands axis V its event, and the drain takes it. -/
theorem gvStepMovesAxisV : Obligations.GvStepMovesAxisV := by
  intro s m c dir lawful n v hm left command ahead count counting linear rotary
  have law := (s.gensLawful_iff.mp lawful.gens .gv).lawful
  have motion : n.motion m = dir := by
    rcases command with ⟨-, -, -, kind, rfl⟩ | ⟨-, -, f, r, kind, search, -, rfl⟩ | ⟨-, -, kind, -, rfl⟩
    · exact n.motion_of_line kind
    · exact n.motion_of_search kind search
    · exact n.motion_of_follow kind
  have into : inCountRange ((n.motion m).move n.counter) = true := by
    rw [motion]
    exact StepDir.move_inRange law.counter_range ahead
  have moves : n.state ≠ .armed := by
    rcases command with ⟨-, state | state, -⟩ | ⟨-, state | state, -⟩ | ⟨-, state, -⟩ <;> rw [state] <;> decide
  have goes : (m.stepped (decide (n.state = .searching))).stepEnd (decide (n.state = .searching)) = .goesOn ∨
      m.remaining = some 1 ∧ n.queue = [] := by
    by_cases last : m.remaining = some 1
    · exact .inr ⟨last, (left 1 last).elim (fun k => absurd k (by decide)) fun k => k.2⟩
    · have some_left : (m.stepped (decide (n.state = .searching))).remaining ≠ some 0 := fun none_left => by
        obtain ⟨k, remaining, zero⟩ := Option.map_eq_some_iff.mp none_left
        rcases left k remaining with more | ⟨rfl, -⟩
        · omega
        · exact last remaining
      left
      rcases command with ⟨-, -, -, kind, -⟩ | ⟨-, -, f, r, kind, search, within, -⟩ | ⟨-, -, kind, -⟩
      · exact CurrentMove.stepEnd_plain some_left (by rcases kind with e | e <;> (change m.record.kind.code ≠ 4; rw [e]; decide))
      · unfold CurrentMove.stepEnd
        rw [if_neg some_left]
        unfold CurrentMove.stepped
        dsimp only
        rw [kind, search]
        refine if_neg fun exceeds => ?_
        obtain ⟨searching, past⟩ := exceeds
        dsimp only at past
        rw [if_pos searching] at past
        exact absurd past (Nat.not_lt.mpr (within (of_decide_eq_true searching)))
      · exact CurrentMove.stepEnd_plain some_left (by change m.record.kind.code ≠ 4; rw [kind]; decide)
  have x : exec c s = .next (s.takeStep .gv).drain := by
    rcases command with ⟨rfl, state, -⟩ | ⟨rfl, state, -⟩ | ⟨rfl, state, -, backlog, -⟩
    · exact exec_generatorStep (show n.state.moving = true by rcases state with e | e <;> rw [e] <;> rfl)
    · exact exec_generatorStep (show n.state.moving = true by rcases state with e | e <;> rw [e] <;> rfl)
    · exact exec_followBacklogStep state backlog
  obtain ⟨poised, axes⟩ := State.takeStep_poised hm into moves lawful.settled.no_events goes
  rw [show (s.gen .gv).motion m = dir from motion] at poised
  let d := n.sense.stepEvent dir
  have way : d = if (dir = .up ↔ n.sense = .normal) then .forward else .reverse := n.sense.stepEvent_eq dir
  have sign : count = if d = .forward then 1 else -1 := by
    rw [way]
    by_cases up : dir = .up ↔ n.sense = .normal
    · rw [if_pos up, if_pos rfl]
      exact if_pos up
    · rw [if_neg up, if_neg (by decide)]
      exact if_neg up
  have drained := State.drain_once poised
  obtain ⟨turn, position, rollover, advance, hposition, hturn⟩ := Axis.advance_within (lawful.axes.each .v) sign linear rotary
  let l := (s.takeStep .gv).taking
  have axisV : l.axis .v = v := State.axis_congr axes .v
  let w := l.movedTo .v d turn position
  have run : l.countEvent .v d = takeParts (w.movedParts .v d rollover) w :=
    State.countEvent_moves (s := l) (by rw [axisV]; exact counting) (by rw [axisV]; exact advance)
  have part := (State.takeParts_part _ (State.movedParts_part w .v d rollover) w).axis
  rw [← run, State.movedTo_axis, axisV] at part
  have beside := l.countEvent_beside .v d
  have after : State.Poised (dir.move n.counter) [] (l.countEvent .v d) :=
    State.Poised.countEvent (s := l) ⟨poised.not_armed, poised.at_counter, poised.not_due, rfl⟩ .v d
  rw [drained] at x
  refine ⟨_, x, after.at_counter.trans (StepDir.move_eq dir n.counter), (congrArg Axis.position part).trans hposition, (congrArg Axis.turn part).trans hturn,
    (congrArg Axis.status part).trans counting, (congrArg Axis.direction part).trans ?_,
    ((beside.apart .a nofun).axis).trans (State.axis_congr axes .a), ((beside.apart .b nofun).axis).trans (State.axis_congr axes .b)⟩
  change d = _
  rw [sign]
  cases d <;> rfl

end Sys2Proof.Machine
end

section
/-! SUPPORT. An edge of a marker or a reference line: the capture at an axis beside the other captures and the searches (R13 to R15). -/

namespace Sys2Proof.Machine

variable {s t u : State} {x y : AxisId} {g : GenId} {m : CaptureArming} {a : Axis} {source : CaptureSource} {rising : Bool} {p : PortId}
  {P : State → Prop}

/-! ### The capture of an edge, by its cases -/

theorem State.captureEdge_room (armed : (s.axis x).armedFor source rising = some m) (room : (s.axis x).log.length < 8) :
    ∃ u : State, u.axis x = (s.axis x).captured source rising s.now ∧ u.now = s.now ∧ u.ports = s.ports ∧ u.claims = s.claims ∧
      s.captureEdge x source rising =
        if m.less.isNone then u.postHolder (.axis x) (.captureDone x source ((s.axis x).log.length + 1)) else u := by
  refine ⟨(s.modAxis x fun a => { a with log := a.log ++ [a.recordAt source (s.axis x).extended s.now] }).modAxis x
    fun a => { a with arming := m.less }, ?_, rfl, rfl, rfl, ?_⟩
  · rw [State.modAxis_axis_same, State.modAxis_axis_same]
    unfold Axis.captured Axis.logged
    rw [armed]
    dsimp only
    rw [if_pos (show _ < Config.capturePlaces from room), if_pos (show _ < Config.capturePlaces from room)]
  · have length : (((s.modAxis x fun a => { a with log := a.log ++ [a.recordAt source (s.axis x).extended s.now] }).modAxis x
        fun a => { a with arming := m.less }).axis x).log.length = (s.axis x).log.length + 1 := by
      rw [State.modAxis_axis_same, State.modAxis_axis_same]
      exact List.length_append
    unfold State.captureEdge State.logCapture
    rw [armed]
    dsimp only
    rw [if_pos (show _ < Config.capturePlaces from room)]
    dsimp only
    rw [if_pos rfl, length]

theorem State.captureEdge_full (armed : (s.axis x).armedFor source rising = some m) (full : 8 ≤ (s.axis x).log.length) :
    ∃ u : State, u.now = s.now ∧ u.ports = s.ports ∧ u.claims = s.claims ∧
      s.captureEdge x source rising = if (s.axis x).lossReported then u else u.postHolder (.axis x) (.captureLost x source) := by
  refine ⟨s.modAxis x fun a => { a with lost := count16 (a.lost + 1), lossReported := true }, rfl, rfl, rfl, ?_⟩
  unfold State.captureEdge State.logCapture
  rw [armed]
  dsimp only
  rw [if_neg (show ¬_ < Config.capturePlaces from Nat.not_lt.mpr full)]
  rfl

/-- An edge posts one notice at most. -/
theorem State.captureEdge_told_one (s : State) (x : AxisId) (source : CaptureSource) (rising : Bool) :
    State.Told (fun _ => True) 1 s (s.captureEdge x source rising) := by
  have still {u : State} (now : u.now = s.now) (ports : u.ports = s.ports) : State.Told (fun _ => True) 0 s u := .of_ports _ _ now ports
  cases armed : (s.axis x).armedFor source rising with
  | none =>
    unfold State.captureEdge
    rw [armed]
    exact .refl _ _ _
  | some m =>
    by_cases room : (s.axis x).log.length < 8
    · obtain ⟨u, -, now, ports, -, edge⟩ := State.captureEdge_room armed room
      rw [edge]
      split
      · exact (still now ports).trans (State.postHolder_told _ _ trivial)
      · exact (still now ports).mono (by omega)
    · obtain ⟨u, now, ports, -, edge⟩ := State.captureEdge_full armed (Nat.not_lt.mp room)
      rw [edge]
      split
      · exact (still now ports).mono (by omega)
      · exact (still now ports).trans (State.postHolder_told _ _ trivial)

theorem State.captureEdge_same (s : State) (x : AxisId) (source : CaptureSource) (rising : Bool) :
    (s.captureEdge x source rising).axis x = (s.axis x).captured source rising s.now := by
  rw [State.axis_congr (s.captureEdge_axes x source rising), State.modAxis_axis_same]

theorem State.captureEdge_other (other : y ≠ x) (s : State) (source : CaptureSource) (rising : Bool) :
    (s.captureEdge x source rising).axis y = s.axis y := by
  rw [State.axis_congr (s.captureEdge_axes x source rising), State.modAxis_axis_other _ _ _ _ other]

/-! ### The fields of an axis after an edge it is armed for -/

theorem Axis.armedFor_some (arming : a.arming = some m) (same : m.source = source) (takes : m.edge.takes rising = true) :
    a.armedFor source rising = some m := by
  unfold Axis.armedFor
  rw [arming]
  exact if_pos ⟨same, takes⟩

theorem Axis.captured_room (armed : a.armedFor source rising = some m) (room : a.log.length < 8) (now : Word) :
    a.captured source rising now =
      { a with
        log := a.log ++ [{ source := source, position := a.extended, velocity := a.velocity, time := now }]
        arming := if m.remaining ≤ 1 then none else some { m with remaining := m.remaining - 1 } } := by
  unfold Axis.captured Axis.logged
  rw [armed]
  dsimp only
  rw [if_pos (show _ < Config.capturePlaces from room), if_pos (show _ < Config.capturePlaces from room)]
  rfl

theorem Axis.captured_full (armed : a.armedFor source rising = some m) (full : 8 ≤ a.log.length) (now : Word) :
    a.captured source rising now = { a with lost := min (a.lost + 1) 65535, lossReported := true } := by
  unfold Axis.captured Axis.logged
  rw [armed]
  dsimp only
  rw [if_neg (show ¬_ < Config.capturePlaces from Nat.not_lt.mpr full), if_neg (show ¬_ < Config.capturePlaces from Nat.not_lt.mpr full)]
  rfl

/-! ### The other parts of an edge -/

/-- A state in which no generator searches. -/
def State.NoSearch (s : State) : Prop := ∀ g, (s.gen g).state ≠ .searching

/-- What a part of an edge does at most, where it is not the capture at an axis: nothing at the axis, and a search's part nothing where
there is none. -/
structure State.EdgePart (x : AxisId) (f : State → State) : Prop where
  axis : ∀ t : State, (f t).axis x = t.axis x ∧ (f t).now = t.now
  told : ∀ t, ∃ n, State.Told (fun _ => True) n t (f t)
  at_gv : ∀ t : State, (t.gen .gv).state ≠ .searching → (f t).gen .gv = t.gen .gv ∧ (f t).vEvents = t.vEvents
  unsearched : ∀ t : State, t.NoSearch → (f t).gens = t.gens ∧ (f t).claims = t.claims

theorem State.captureEdge_part (other : y ≠ x) (source : CaptureSource) (rising : Bool) :
    State.EdgePart y fun u => u.captureEdge x source rising := by
  have reach (t : State) := t.captureEdge_reach x source rising
  exact ⟨fun t => ⟨State.captureEdge_other other t source rising, (reach t).now⟩, fun t => ⟨1, t.captureEdge_told_one x source rising⟩,
    fun t _ => ⟨State.gen_congr (reach t).gens .gv, (reach t).vEvents⟩, fun t _ => ⟨(reach t).gens, (reach t).claims⟩⟩

theorem Generator.searchNow_none {n : Generator} (h : n.state ≠ .searching) : n.searchNow = none := if_neg h

/-- A part that speaks to the search of a generator. -/
theorem State.EdgePart.of_search {f : State → State} (only : ∀ t, ∃ n, GenOnly g n t (f t))
    (none : ∀ t : State, (t.gen g).searchNow = none → f t = t) : State.EdgePart x f := by
  refine ⟨fun t => ?_, fun t => ?_, fun t h => ?_, fun t h => ?_⟩
  · obtain ⟨_, only⟩ := only t
    exact ⟨State.axis_congr only.move.axes x, only.told.now⟩
  · obtain ⟨n, only⟩ := only t
    exact ⟨n, only.told.weaken fun _ _ => trivial⟩
  · by_cases e : g = .gv
    · subst e
      rw [none t (Generator.searchNow_none h)]
      exact ⟨rfl, rfl⟩
    · obtain ⟨_, only⟩ := only t
      obtain ⟨more, events, quiet⟩ := only.events
      rw [events, quiet e, List.append_nil]
      exact ⟨only.others .gv (Ne.symm e), rfl⟩
  · rw [none t (Generator.searchNow_none (h g))]
    exact ⟨rfl, rfl⟩

theorem State.markerEdgeAt_none (h : (s.gen g).searchNow = none) (e : Encoder) : s.markerEdgeAt e g = s := by
  unfold State.markerEdgeAt
  rw [h]

theorem State.refEdgeAt_none (h : (s.gen g).searchNow = none) (l : RefLine) (high : Bool) : s.refEdgeAt l high g = s := by
  unfold State.refEdgeAt
  rw [h]

theorem State.markerEdgeAt_part (e : Encoder) (g : GenId) : State.EdgePart x fun u => u.markerEdgeAt e g :=
  .of_search (fun t => t.markerEdgeAt_only e g) fun _ h => State.markerEdgeAt_none h e

theorem State.refEdgeAt_part (l : RefLine) (high : Bool) (g : GenId) : State.EdgePart x fun u => u.refEdgeAt l high g :=
  .of_search (fun t => t.refEdgeAt_only l high g) fun _ h => State.refEdgeAt_none h l high

theorem State.NoSearch.congr (h : s.NoSearch) (gens : t.gens = s.gens) : t.NoSearch := fun g => by
  rw [State.gen_congr gens]
  exact h g

/-! ### The edge as a whole -/

variable {before after : List (Bool × (State → State))} {b : Bool}

/-- The axis that an edge is a capture at, after all parts of the edge. -/
theorem State.edgeParts_axis (others : ∀ f ∈ before ++ after, State.EdgePart x f.2) (s : State) :
    (takeParts (before ++ (b, fun u => u.captureEdge x source rising) :: after) s).axis x = (s.axis x).captured source rising s.now :=
  takeParts_once (fun t => t.axis x = s.axis x ∧ t.now = s.now) (fun t => t.axis x = (s.axis x).captured source rising s.now) before after _
    (fun f hf t k => ⟨((others f hf).axis t).1.trans k.1, ((others f hf).axis t).2.trans k.2⟩)
    (fun f hf t k => ((others f hf).axis t).1.trans k) (fun _ k => k) (fun _ k => k)
    (fun t k => by rw [State.captureEdge_same, k.1, k.2]) ⟨rfl, rfl⟩

/-- A notice that the capture posts in whatever state it finds, where no generator searches. -/
theorem State.edgeParts_holds (others : ∀ f ∈ before ++ after, State.EdgePart x f.2)
    (told : ∀ P : State → Prop, (∀ t, P t → t.NoSearch) → othersTold P (before ++ after) 2) (unsearched : s.NoSearch)
    (held : s.holds p (.axis x) = true) (isOpen : (s.session p).isOpen = true) (room : (s.port p).notices.items.length ≤ 20) {k : NoticeKind}
    (posts : ∀ t : State, t.axis x = s.axis x → t.holds p (.axis x) = true → (t.session p).isOpen = true →
      (t.port p).notices.items.length < 24 → ((t.captureEdge x source rising).port p).Holds k) :
    ((takeParts (before ++ (b, fun u => u.captureEdge x source rising) :: after) s).port p).Holds k := by
  refine takeParts_once_told (fun t => t.axis x = s.axis x ∧ t.NoSearch ∧ t.claims = s.claims) (fun t => (t.port p).Holds k) before after _
    (told _ fun t k => k.2.1) (fun f hf t r => ?_) (fun f hf t r => ?_) (fun _ r => r) (fun _ r => r) (fun t before r => ?_)
    ⟨rfl, unsearched, rfl⟩
  · obtain ⟨axis, quiet, claims⟩ := r
    obtain ⟨gens, stands⟩ := (others f hf).unsearched t quiet
    exact ⟨((others f hf).axis t).1.trans axis, quiet.congr gens, stands.trans claims⟩
  · obtain ⟨_, more⟩ := (others f hf).told t
    exact more.holds r
  · obtain ⟨axis, -, claims⟩ := r
    have length := before.length_le p
    exact posts t axis ((State.ClaimsStand.of_eq claims).holds held) (by rw [before.session]; exact isOpen) (by omega)

/-- CAPTURE_DONE where the edge removes the arming (R13). -/
theorem State.captureEdge_done (armed : (s.axis x).armedFor source rising = some m) (room : (s.axis x).log.length < 8) (last : m.remaining ≤ 1)
    (held : s.holds p (.axis x) = true) (isOpen : (s.session p).isOpen = true) (places : (s.port p).notices.items.length < 24) :
    ((s.captureEdge x source rising).port p).Holds (.captureDone x source ((s.axis x).log.length + 1)) := by
  obtain ⟨u, -, -, ports, claims, edge⟩ := State.captureEdge_room armed room
  have removed : m.less.isNone = true := by
    unfold CaptureArming.less
    rw [if_pos last]
    rfl
  rw [edge, if_pos removed]
  have port := State.port_congr ports p
  exact State.postHolder_holds ((State.ClaimsStand.of_eq claims).holds held) (by unfold State.session; rw [port]; exact isOpen)
    (by rw [port]; exact places) _

/-- CAPTURE_LOST where the edge is the first that finds the log full (R15). -/
theorem State.captureEdge_lost (armed : (s.axis x).armedFor source rising = some m) (full : 8 ≤ (s.axis x).log.length)
    (first : (s.axis x).lossReported = false) (held : s.holds p (.axis x) = true) (isOpen : (s.session p).isOpen = true)
    (places : (s.port p).notices.items.length < 24) : ((s.captureEdge x source rising).port p).Holds (.captureLost x source) := by
  obtain ⟨u, -, ports, claims, edge⟩ := State.captureEdge_full armed full
  rw [edge, if_neg (by rw [first]; decide)]
  have port := State.port_congr ports p
  exact State.postHolder_holds ((State.ClaimsStand.of_eq claims).holds held) (by unfold State.session; rw [port]; exact isOpen)
    (by rw [port]; exact places) _

/-- An edge that an axis is armed for, as MatchingEdgesAreCaptured states it of the state after. -/
structure State.Captured (s : State) (x : AxisId) (m : CaptureArming) (t : State) : Prop where
  axis : ∃ source rising, source = m.source ∧ (s.axis x).armedFor source rising = some m ∧
    t.axis x = (s.axis x).captured source rising s.now
  posted : ∀ p, s.holds p (.axis x) = true → (s.session p).isOpen = true → (s.port p).notices.items.length ≤ 20 → s.NoSearch →
    ((s.axis x).log.length < 8 → m.remaining ≤ 1 → (t.port p).Holds (.captureDone x m.source ((s.axis x).log.length + 1))) ∧
    (8 ≤ (s.axis x).log.length → (s.axis x).lossReported = false → (t.port p).Holds (.captureLost x m.source))

theorem State.edgeParts_captured (others : ∀ f ∈ before ++ after, State.EdgePart x f.2)
    (told : ∀ P : State → Prop, (∀ t, P t → t.NoSearch) → othersTold P (before ++ after) 2)
    (arming : (s.axis x).arming = some m) (takes : m.edge.takes rising = true)
    (still : x = .v → s.vEvents = [] ∧ (s.gen .gv).state ≠ .searching) :
    s.Captured x m (takeParts (before ++ (b, fun u => u.captureEdge x m.source rising) :: after) s).drain := by
  have armed := Axis.armedFor_some arming rfl takes
  have axis := State.edgeParts_axis (source := m.source) (rising := rising) (b := b) others s
  refine ⟨⟨m.source, rising, rfl, armed, ?_⟩, fun p held isOpen room unsearched => ?_⟩
  · rw [← axis]
    by_cases atV : x = .v
    · obtain ⟨settled, quiet⟩ := still atV
      have reach (t : State) := t.captureEdge_reach x m.source rising
      have events : (takeParts (before ++ (b, fun u => u.captureEdge x m.source rising) :: after) s).vEvents = [] := by
        refine (takeParts_all (fun t => t.vEvents = [] ∧ (t.gen .gv).state ≠ .searching) _ (fun f hf t k => ?_) (fun _ k => k) ⟨settled, quiet⟩).1
        have part (h : f ∈ before ++ after) : (f.2 t).vEvents = [] ∧ ((f.2 t).gen .gv).state ≠ .searching := by
          obtain ⟨gen, events⟩ := (others f h).at_gv t k.2
          rw [gen, events]
          exact k
        rcases List.mem_append.mp hf with h | h
        · exact part (List.mem_append_left _ h)
        rcases List.mem_cons.mp h with rfl | h
        · exact ⟨(reach t).vEvents.trans k.1, by rw [State.gen_congr (reach t).gens]; exact k.2⟩
        · exact part (List.mem_append_right _ h)
      rw [State.drain_settled _ events]
    · exact ((State.drain_beside _).apart x atV).axis
  · obtain ⟨_, later⟩ := (takeParts (before ++ (b, fun u => u.captureEdge x m.source rising) :: after) s).drain_keeps.told
    refine ⟨fun free last => later.holds (State.edgeParts_holds others told unsearched held isOpen room fun t same held isOpen places => ?_),
      fun full first => later.holds (State.edgeParts_holds others told unsearched held isOpen room fun t same held isOpen places => ?_)⟩
    · rw [← same] at armed free ⊢
      exact State.captureEdge_done armed free last held isOpen places
    · rw [← same] at armed full first
      exact State.captureEdge_lost armed full first held isOpen places

/-! ### The commands -/

theorem allAxes_split (x : AxisId) :
    ∃ before after, allAxes = before ++ x :: after ∧ (before ++ after).length = 2 ∧ ∀ y ∈ before ++ after, y ≠ x := by
  cases x
  · exact ⟨[], [.b, .v], rfl, rfl, by decide⟩
  · exact ⟨[.a], [.v], rfl, rfl, by decide⟩
  · exact ⟨[.a, .b], [], rfl, rfl, by decide⟩

/-- The state as a marker line has changed, and the parts of the edge (R13, R119). -/
def State.marked (s : State) (e : Encoder) (active : Bool) : State := { s with lines := s.lines.setMarker e active }

def State.markerSearches (s : State) (e : Encoder) (active : Bool) : List (Bool × (State → State)) :=
  if active then allGens.map fun g => ((s.gen g).searchNow.isSome, fun u => u.markerEdgeAt e g) else []

def State.markerParts (s : State) (e : Encoder) (active : Bool) : List (Bool × (State → State)) :=
  (s.captures e.axis .marker active, fun u => u.captureEdge e.axis .marker active) :: s.markerSearches e active

theorem exec_markerEdge {e : Encoder} {active : Bool} (change : s.lines.marker e ≠ active) :
    exec (.markerEdge e active) s =
      .next (takeParts ((s.marked e active).markerParts e active) (s.marked e active)).drain := by
  have edge : s.markerLevel e active = (takeParts ((s.marked e active).markerParts e active) (s.marked e active)).drain := if_neg change
  exact congrArg Host.Outcome.next edge

theorem State.mem_markerSearches {e : Encoder} {active : Bool} {f : Bool × (State → State)} (hf : f ∈ s.markerSearches e active) :
    ∃ g b, f = (b, fun u => u.markerEdgeAt e g) := by
  unfold State.markerSearches at hf
  split at hf
  · obtain ⟨g, -, rfl⟩ := List.mem_map.mp hf
    exact ⟨g, _, rfl⟩
  · cases hf

theorem State.markerParts_lines (s : State) (e : Encoder) (active : Bool) :
    (takeParts (s.markerParts e active) s).drain.lines = s.lines := by
  have parts : s.Keeps (takeParts (s.markerParts e active) s) := by
    refine State.Keeps.takeParts _ (fun f hf t => ?_) s
    rcases List.mem_cons.mp hf with rfl | hf
    · exact t.captureEdge_keeps _ _ _
    · obtain ⟨g, _, rfl⟩ := State.mem_markerSearches hf
      exact t.markerEdgeAt_keeps e g
  exact (parts.trans (State.drain_keeps _)).reach.lines

/-- The state as a reference line has changed, and the parts of the edge (R13, R117 to R119). -/
def State.referred (s : State) (l : RefLine) (high : Bool) : State := { s with lines := s.lines.setRef l high }

def State.refSearches (s : State) (l : RefLine) (high : Bool) : List (Bool × (State → State)) :=
  allGens.map fun g => ((s.gen g).searchNow.isSome, fun u => u.refEdgeAt l high g)

def State.refParts (s : State) (l : RefLine) (high : Bool) : List (Bool × (State → State)) :=
  (allAxes.map fun x => (s.captures x (.ref l) high, fun u => u.captureEdge x (.ref l) high)) ++ s.refSearches l high

theorem exec_referenceLineEdge {l : RefLine} {high : Bool} (change : s.lines.ref l ≠ high) :
    exec (.referenceLineEdge l high) s =
      .next (takeParts ((s.referred l high).refParts l high) (s.referred l high)).drain := by
  have edge : s.refLevel l high = (takeParts ((s.referred l high).refParts l high) (s.referred l high)).drain := if_neg change
  exact congrArg Host.Outcome.next edge

theorem State.refParts_lines (s : State) (l : RefLine) (high : Bool) :
    (takeParts (s.refParts l high) s).drain.lines = s.lines := by
  have parts : s.Keeps (takeParts (s.refParts l high) s) := by
    refine State.Keeps.takeParts _ (fun f hf t => ?_) s
    rcases List.mem_append.mp hf with hf | hf
    · obtain ⟨x, -, rfl⟩ := List.mem_map.mp hf
      exact t.captureEdge_keeps _ _ _
    · obtain ⟨g, -, rfl⟩ := List.mem_map.mp hf
      exact t.refEdgeAt_keeps l high g
  exact (parts.trans (State.drain_keeps _)).reach.lines

theorem exec_markerEdge_captured {e : Encoder} {active : Bool} (change : s.lines.marker e ≠ active)
    (arming : (s.axis e.axis).arming = some m) (source : m.source = .marker) (takes : m.edge.takes active = true) :
    ∃ t, exec (.markerEdge e active) s = .next t ∧ t.lines = s.lines.setMarker e active ∧ s.Captured e.axis m t := by
  let u := s.marked e active
  have h : u.Captured e.axis m (takeParts (u.markerParts e active) u).drain := by
    unfold State.markerParts
    rw [← source]
    refine State.edgeParts_captured (before := []) (fun f hf => ?_) (fun P quiet => ?_) arming takes
      fun atV => absurd atV (Encoder.axis_ne_v e)
    · obtain ⟨g, _, rfl⟩ := State.mem_markerSearches hf
      exact State.markerEdgeAt_part e g
    · unfold State.markerSearches
      split
      · have none := othersTold_map (P := P) (k := 0) (F := fun g u => u.markerEdgeAt e g) (fun g => (u.gen g).searchNow.isSome)
          (fun g t p => by
            rw [State.markerEdgeAt_none (Generator.searchNow_none (quiet t p g))]
            exact .refl _ _ _) allGens
        exact ⟨none.1, none.2.trans (by omega)⟩
      · exact ⟨nofun, Nat.zero_le _⟩
  exact ⟨_, exec_markerEdge change, u.markerParts_lines e active, h.axis, h.posted⟩

theorem exec_referenceLineEdge_captured {l : RefLine} {high : Bool} (change : s.lines.ref l ≠ high)
    (arming : (s.axis x).arming = some m) (source : m.source = .ref l) (takes : m.edge.takes high = true)
    (still : x = .v → s.vEvents = [] ∧ (s.gen .gv).state ≠ .searching) :
    ∃ t, exec (.referenceLineEdge l high) s = .next t ∧ t.lines = s.lines.setRef l high ∧ s.Captured x m t := by
  let u := s.referred l high
  obtain ⟨before, after, split, two, others⟩ := allAxes_split x
  let capture (y : AxisId) : Bool × (State → State) := (u.captures y (.ref l) high, fun v => v.captureEdge y (.ref l) high)
  have parts : u.refParts l high = before.map capture ++ capture x :: (after.map capture ++ u.refSearches l high) := by
    unfold State.refParts
    rw [split, List.map_append, List.map_cons, List.append_assoc, List.cons_append]
  have h : u.Captured x m (takeParts (u.refParts l high) u).drain := by
    rw [parts]
    change u.Captured x m (takeParts (_ ++ (_, fun v => v.captureEdge x (.ref l) high) :: _) u).drain
    rw [← source]
    refine State.edgeParts_captured (fun f hf => ?_) (fun P quiet => ?_) arming takes still
    · rw [← List.append_assoc, ← List.map_append] at hf
      rcases List.mem_append.mp hf with hf | hf
      · obtain ⟨y, hy, rfl⟩ := List.mem_map.mp hf
        exact State.captureEdge_part (others y hy).symm _ _
      · obtain ⟨g, -, rfl⟩ := List.mem_map.mp hf
        exact State.refEdgeAt_part l high g
    · rw [← List.append_assoc, ← List.map_append]
      have captures := othersTold_map (P := P) (k := 1) (F := fun y v => v.captureEdge y (.ref l) high)
        (fun y => u.captures y (.ref l) high) (fun y t _ => t.captureEdge_told_one y _ _) (before ++ after)
      have none := othersTold_map (P := P) (k := 0) (F := fun g u => u.refEdgeAt l high g) (fun g => (u.gen g).searchNow.isSome)
        (fun g t p => by
          rw [State.refEdgeAt_none (Generator.searchNow_none (quiet t p g))]
          exact .refl _ _ _) allGens
      have all := othersTold_append captures none
      rw [two] at all
      exact ⟨all.1, all.2.trans (by omega)⟩
  exact ⟨_, exec_referenceLineEdge change, u.refParts_lines l high, h.axis, h.posted⟩

/-- Settles O20: the captures and searches of an edge, one of them at the axis. -/
theorem matchingEdgesAreCaptured : Obligations.MatchingEdgesAreCaptured := by
  intro s x m a arming still captured
  have all (t : State) (h : s.Captured x m t) : captured t := by
    obtain ⟨⟨source, rising, same, armed, axis⟩, posted⟩ := h
    have keeps := Axis.captured_keeps a source rising s.now
    rw [← axis] at keeps
    refine ⟨(congrArg Axis.position keeps).trans rfl, (congrArg Axis.turn keeps).trans rfl, (congrArg Axis.velocity keeps).trans rfl,
      (congrArg Axis.mode keeps).trans rfl, fun room => ?_, fun full => ?_, fun p held isOpen room _ unsearched => posted p held isOpen room unsearched⟩
    · rw [axis, Axis.captured_room armed room, same]
      exact ⟨rfl, rfl, rfl, rfl⟩
    · rw [axis, Axis.captured_full armed full]
      exact ⟨rfl, arming, rfl, rfl⟩
  refine ⟨fun e active atE source change takes => ?_, fun l high source change takes => ?_⟩
  · subst atE
    obtain ⟨t, run, lines, h⟩ := exec_markerEdge_captured change arming source takes
    exact ⟨t, run, lines, all t h⟩
  · obtain ⟨t, run, lines, h⟩ := exec_referenceLineEdge_captured change arming source takes still
    exact ⟨t, run, lines, all t h⟩

end Sys2Proof.Machine
end

section
/-! SUPPORT. Reference searches at the edges of their line and of their marker, and their failure (R116 to R121). -/

namespace Sys2Proof.Machine

variable {s t u : State} {g : GenId} {m : CurrentMove} {n : Generator} {f : HomeFields} {r : SearchRecord} {l : RefLine} {high : Bool}

/-! ### A search that fails (R121) -/

/-- A move at or below its floor ends at once with a stop (R102). -/
theorem State.brake_ends (hm : (s.gen g).current = some m) (low : (s.gen g).speed ≤ m.record.kind.floor) (rate : StopRate) :
    State.thenNext (s.brake g rate) g =
      (s.modGen g fun n => n.braking rate).endMove g (((s.gen g).braking rate).stopCause m) := by
  have gen : (s.modGen g fun n => n.braking rate).gen g = (s.gen g).braking rate := State.modGen_gen_same _ _ _
  have current : ((s.modGen g fun n => n.braking rate).gen g).current = some m := by rw [gen]; exact hm
  have atFloor : ((s.gen g).braking rate).atFloor = true := (Generator.atFloor_iff hm).mpr low
  rw [State.brake_eq, if_pos atFloor, State.closeStopped_some _ g current, gen]
  rfl

/-- A generator that slows down after its search has failed (R121). -/
def Generator.failing (n : Generator) (m : CurrentMove) (r : SearchRecord) (k : NotFound) : Generator :=
  { n with
    queue := [], pendingTrigger := false, state := .stopping, phase := none, stopRate := some .stop
    current := some { m with search := some { r with mark := some k } } }

/-- A failed search: queue and trigger gone, and STOPPING at the stop rate, or the end of the move at the creep speed. -/
theorem State.failSearch_gen (hm : (s.gen g).current = some m) (search : m.search = some r) (halt : (s.gen g).halt = false) (k : NotFound) :
    (m.record.kind.floor < (s.gen g).speed →
      (State.thenNext (s.failSearch g k) g).gen g = (s.gen g).failing m r k) ∧
    ((s.gen g).speed ≤ m.record.kind.floor →
      (State.thenNext (s.failSearch g k) g).gen g = { s.gen g with queue := [], pendingTrigger := false }.atStandstill .idle) := by
  let u := (s.modGen g fun n => n.markSearch k).flushAll g
  have marked : (s.gen g).markSearch k = { s.gen g with current := some { m with search := some { r with mark := some k } } } := by
    unfold Generator.markSearch Generator.modMove
    rw [hm, Option.map_some, search]
    rfl
  have gen : u.gen g =
      { s.gen g with
        current := some { m with search := some { r with mark := some k } }, queue := [], pendingTrigger := false } := by
    have flushed := State.flushAll_gen (s.modGen g fun n => n.markSearch k) g
    rw [State.modGen_gen_same, marked] at flushed
    exact flushed
  have current : (u.gen g).current = some { m with search := some { r with mark := some k } } := by rw [gen]
  refine ⟨fun above => ?_, fun low => ?_⟩
  · have slows := State.brake_slows (s := u) current (by rw [gen]; exact above) .stop
    unfold State.failSearch
    rw [slows]
    change (u.modGen g fun n => n.braking .stop).gen g = _
    rw [State.modGen_gen_same, gen]
    rfl
  · have braking : (u.modGen g fun n => n.braking .stop).gen g = (u.gen g).braking .stop := State.modGen_gen_same _ _ _
    unfold State.failSearch
    rw [State.brake_ends (s := u) current (by rw [gen]; exact low) .stop,
      State.endMove_gen (m := { m with search := some { r with mark := some k } }) (by rw [braking]; exact current)
        (by rw [braking, gen]; rfl) (fun _ => .inr (by rw [braking, gen]; rfl)), braking, gen]
    unfold Generator.braking
    dsimp only
    rw [halt]
    rfl

/-! ### A search that is done (R120) -/

theorem State.searchDone_gen (hm : (s.gen g).current = some m) (empty : (s.gen g).queue = []) (halt : (s.gen g).halt = false)
    (stands : (s.claim (.generator g)).state ≠ .releasing) (f : HomeFields) :
    (s.searchDone g f).gen g = { s.gen g with counter := f.home }.atStandstill .idle := by
  have gen : (s.modGen g fun n => { n with counter := f.home }).gen g = { s.gen g with counter := f.home } := State.modGen_gen_same _ _ _
  unfold State.searchDone
  rw [State.endMove_gen (m := m) (by rw [gen]; exact hm) (by rw [gen]; exact empty)
    (fun k => absurd (by rw [← State.modGen_claim s g fun n => { n with counter := f.home }]; exact k) stands), gen]
  dsimp only
  rw [halt]
  rfl

/-! ### The search of a generator among the parts of an edge -/

/-- What a part of an edge does at most to a generator, where it does not speak to the generator's search. -/
structure State.Past (g : GenId) (f : State → State) : Prop where
  gen : ∀ t, (f t).gen g = t.gen g
  claims : ∀ t : State, t.ClaimsStand (f t)

theorem State.captureEdge_past (x : AxisId) (source : CaptureSource) (rising : Bool) (g : GenId) :
    State.Past g fun u => u.captureEdge x source rising :=
  ⟨fun t => State.gen_congr (t.captureEdge_reach x source rising).gens g, fun t => .of_eq (t.captureEdge_reach x source rising).claims⟩

theorem State.Past.of_only {h : GenId} {f : State → State} (other : h ≠ g) (only : ∀ t, ∃ n, GenOnly h n t (f t)) : State.Past g f :=
  ⟨fun t => by
    obtain ⟨_, only⟩ := only t
    exact only.others g other.symm,
  fun t => by
    obtain ⟨_, only⟩ := only t
    exact only.claimsStand⟩

/-- What the part that speaks to a generator's search makes of the generator. -/
theorem State.takeParts_gen {before after : List (Bool × (State → State))} {b : Bool} {h : State → State}
    (others : ∀ f ∈ before ++ after, State.Past g f.2)
    (acts : ∀ t : State, t.gen g = s.gen g → s.ClaimsStand t → (h t).gen g = n) :
    (takeParts (before ++ (b, h) :: after) s).gen g = n :=
  takeParts_once (fun t => t.gen g = s.gen g ∧ s.ClaimsStand t) (fun t => t.gen g = n) before after _
    (fun f hf t k => ⟨((others f hf).gen t).trans k.1, k.2.trans ((others f hf).claims t)⟩) (fun f hf t k => ((others f hf).gen t).trans k)
    (fun _ k => k) (fun _ k => k) (fun t k => acts t k.1 k.2) ⟨rfl, .of_eq rfl⟩

theorem State.refParts_gen (acts : ∀ t : State, t.gen g = s.gen g → s.ClaimsStand t → (t.refEdgeAt l high g).gen g = n) :
    (takeParts (s.refParts l high) s).gen g = n := by
  obtain ⟨before, after, split, -, others⟩ := allGens_split g
  unfold State.refParts State.refSearches
  rw [split, List.map_append, List.map_cons, ← List.append_assoc]
  refine State.takeParts_gen (fun f hf => ?_) acts
  rw [List.append_assoc, ← List.map_append] at hf
  rcases List.mem_append.mp hf with hf | hf
  · obtain ⟨x, -, rfl⟩ := List.mem_map.mp hf
    exact State.captureEdge_past x _ _ g
  · obtain ⟨h, hh, rfl⟩ := List.mem_map.mp hf
    exact .of_only (others h hh) fun t => t.refEdgeAt_only l high h

theorem State.markerParts_gen {e : Encoder} (acts : ∀ t : State, t.gen g = s.gen g → s.ClaimsStand t → (t.markerEdgeAt e g).gen g = n) :
    (takeParts (s.markerParts e true) s).gen g = n := by
  obtain ⟨before, after, split, -, others⟩ := allGens_split g
  unfold State.markerParts State.markerSearches
  rw [if_pos rfl, split, List.map_append, List.map_cons, ← List.cons_append]
  refine State.takeParts_gen (fun f hf => ?_) acts
  rw [List.cons_append, ← List.map_append] at hf
  rcases List.mem_cons.mp hf with rfl | hf
  · exact State.captureEdge_past e.axis _ _ g
  · obtain ⟨h, hh, rfl⟩ := List.mem_map.mp hf
    exact .of_only (others h hh) fun t => t.markerEdgeAt_only e h

/-- The state of a generator that no event of axis V moves. -/
structure Generator.Settles (n : Generator) : Prop where
  not_armed : n.state ≠ .armed
  not_following : n.state ≠ .following
  not_due : n.firstStepDue = false

theorem Generator.failing_settles (due : n.firstStepDue = false) (m : CurrentMove) (r : SearchRecord) (k : NotFound) :
    (n.failing m r k).Settles :=
  ⟨show GenState.stopping ≠ _ from nofun, show GenState.stopping ≠ _ from nofun, due⟩

theorem Generator.idle_settles (n : Generator) : (n.atStandstill .idle).Settles :=
  ⟨show GenState.idle ≠ _ from nofun, show GenState.idle ≠ _ from nofun, rfl⟩

theorem Generator.Settles.drained (h : (s.gen g).Settles) : (s.gen g).Triggered (s.drain.gen g) :=
  State.drain_triggered (Generator.deaf_of_state h.not_armed h.not_following .v) fun _ => h.not_due

/-- What an edge of a reference line makes of a generator, by its part. -/
theorem State.refLevel_gen (change : s.lines.ref l ≠ high) (settles : n.Settles)
    (acts : ∀ t : State, t.gen g = s.gen g → s.ClaimsStand t → (t.refEdgeAt l high g).gen g = n) :
    n.Triggered ((s.refLevel l high).gen g) := by
  have gen : (takeParts ((s.referred l high).refParts l high) (s.referred l high)).gen g = n := State.refParts_gen (s := s.referred l high) acts
  have edge : s.refLevel l high = (takeParts ((s.referred l high).refParts l high) (s.referred l high)).drain := if_neg change
  rw [edge]
  rw [← gen] at settles ⊢
  exact settles.drained

/-- What a rising edge of a marker makes of a generator, by its part. -/
theorem State.markerLevel_gen {e : Encoder} (change : s.lines.marker e = false) (settles : n.Settles)
    (acts : ∀ t : State, t.gen g = s.gen g → s.ClaimsStand t → (t.markerEdgeAt e g).gen g = n) :
    n.Triggered ((s.markerLevel e true).gen g) := by
  have gen : (takeParts ((s.marked e true).markerParts e true) (s.marked e true)).gen g = n := State.markerParts_gen (s := s.marked e true) acts
  have edge : s.markerLevel e true = (takeParts ((s.marked e true).markerParts e true) (s.marked e true)).drain :=
    if_neg (by rw [change]; decide)
  rw [edge]
  rw [← gen] at settles ⊢
  exact settles.drained

/-! ### The step past the search limit (R121) -/

theorem State.takeStep_overLimit (hm : (s.gen g).current = some m) (searching : (s.gen g).state = .searching) (kind : m.record.kind = .home f)
    (search : m.search = some r) (unlimited : m.remaining = none) (last : r.steps = f.limit)
    (into : inCountRange (r.motion.move (s.gen g).counter) = true) :
    s.takeStep g = State.thenNext ((s.stepIssued g m).failSearch g .limit) g := by
  have past : (m.stepped (decide ((s.gen g).state = .searching))).stepEnd (decide ((s.gen g).state = .searching)) = .overLimit := by
    unfold CurrentMove.stepEnd CurrentMove.stepped
    dsimp only
    rw [unlimited, kind, search, decide_eq_true searching]
    refine (if_neg nofun).trans (if_pos ⟨rfl, ?_⟩)
    change f.limit < r.steps + 1
    omega
  unfold State.takeStep
  rw [State.issueStep_in s g hm (by rw [Generator.motion_of_search _ kind search]; exact into), past]
  rfl

/-- The fields of a generator whose search has failed, triggers apart. -/
theorem Generator.failed_fields {k b : Generator} {inForce : Bool} {floor : Nat} {mark : NotFound} (lawful : k.Lawful inForce)
    (above : floor < b.speed → (b.failing m r mark).Triggered k)
    (below : b.speed ≤ floor → Generator.Triggered ({ b with queue := [], pendingTrigger := false }.atStandstill .idle) k) :
    (k.queue = [] ∧
      (floor < b.speed →
        k.state = .stopping ∧ k.stopRate = some .stop ∧ k.speed = b.speed ∧ k.pendingTrigger = false ∧
          k.current.bind CurrentMove.search = some { r with mark := some mark }) ∧
      (b.speed ≤ floor → k.state = .idle ∧ k.speed = 0 ∧ k.current = none)) ∧ k.counter = b.counter := by
  refine ⟨⟨?_, fun high => ?_, fun low => ?_⟩, ?_⟩
  · rcases Nat.lt_or_ge floor b.speed with high | low
    · exact (above high).of Generator.queue fun _ => rfl
    · exact (below low).of Generator.queue fun _ => rfl
  · have record := above high
    have state := record.of Generator.state fun _ => rfl
    exact ⟨state, record.of Generator.stopRate fun _ => rfl, record.of Generator.speed fun _ => rfl, lawful.stopped_no_trigger (.inr state),
      record.of (fun n => n.current.bind CurrentMove.search) fun _ => rfl⟩
  · have record := below low
    exact ⟨record.of Generator.state fun _ => rfl, record.of Generator.speed fun _ => rfl, record.of Generator.current fun _ => rfl⟩
  · rcases Nat.lt_or_ge floor b.speed with high | low
    · exact (above high).of Generator.counter fun _ => rfl
    · exact (below low).of Generator.counter fun _ => rfl

/-- Settles O28: the start, each edge by its part, and the step past the limit. -/
theorem finalEdgeCompletesTheSearch : Obligations.FinalEdgeCompletesTheSearch := by
  refine ⟨fun s p seq gen g raw r f off h lawful hg held idle hr immediate kind => ?_, fun s g m f r lawful => ?_⟩
  · intro n high low line up
    obtain ⟨t, x, tgen, axes⟩ := exec_appendMove_home off h lawful hg held idle hr immediate kind low high
    refine ⟨t, x, ?_, axes⟩
    have stepped := Generator.stepped_search (f := f) off
      (m := { record := r, started := true, issued := 0, remaining := none, dir := f.direction,
              search := some (f.startSearch (s.lines.ref f.line)) })
      ((s.gen g).started r s.lines) (by rw [Generator.started_home kind]) kind rfl
    rw [HomeFields.startSearch_motion, Generator.started_home kind] at stepped
    rw [tgen, Generator.started_home kind, stepped]
    have motion := f.startSearch_motion (s.lines.ref f.line)
    unfold HomeFields.startSearch at motion ⊢
    change _ = if up = true then StepDir.up else .down at motion
    change Generator.afterStepOn _ _ (if up = true then StepDir.up else .down) = _
    have heads : (if up = true then StepDir.up else .down) = .up ↔ up = true := by cases up <;> decide
    unfold Generator.afterStepOn
    simp only [heads]
    rw [← motion]
    rfl
  intro n searching hm kind search goesOn homed failed
  have law := (s.gensLawful_iff.mp lawful.gens g).lawful
  have due : n.firstStepDue = false := lawful.settled.no_first_step g
  have unhalted : n.halt = false := lawful.moving_unhalted (g := g) (by rw [searching]; decide) (by rw [searching]; decide)
  have unreleased : (s.claim (.generator g)).state ≠ .releasing := fun k => by
    rcases lawful.gens.releasing_stops g k with e | e <;> (rw [searching] at e; cases e)
  have now : n.searchNow = some (m, f, r) := Generator.searchNow_some.mpr ⟨searching, hm, kind, search⟩
  have still (r' : SearchRecord) : (n.setSearch r').Settles ∧ (n.setSearch r').current = some { m with search := some r' } :=
    ⟨⟨by change n.state ≠ _; rw [searching]; decide, by change n.state ≠ _; rw [searching]; decide, due⟩, by
      change n.current.map _ = _
      rw [hm]
      rfl⟩
  have goes {t : State} {r' : SearchRecord} (record : (n.setSearch r').Triggered (t.gen g)) : goesOn t r' :=
    ⟨(record.of Generator.current fun _ => rfl).trans (still r').2, (record.of Generator.state fun _ => rfl).trans searching,
      record.of Generator.speed fun _ => rfl, record.of Generator.counter fun _ => rfl, record.of Generator.queue fun _ => rfl⟩
  have done {t : State} (record : ({ n with counter := f.home }.atStandstill .idle).Triggered (t.gen g)) : homed t :=
    ⟨record.of Generator.counter fun _ => rfl, record.of Generator.state fun _ => rfl, record.of Generator.current fun _ => rfl,
      record.of Generator.speed fun _ => rfl⟩
  have homes (t : State) (gen : t.gen g = n) (claims : s.ClaimsStand t) (empty : n.queue = []) :
      (t.searchDone g f).gen g = { n with counter := f.home }.atStandstill .idle := by
    rw [State.searchDone_gen (m := m) (by rw [gen]; exact hm) (by rw [gen]; exact empty) (by rw [gen]; exact unhalted)
      (by rw [claims _ (.inr unreleased)]; exact unreleased), gen]
  refine ⟨fun clearing line => ?_, fun seek unfound line => ?_, fun seek found line => ⟨_, rfl, fun markers => ?_, fun markers => ?_⟩,
    fun e creep axis more line => ?_, fun creep empty markers line => ?_, fun e creep empty axis some_markers last line => ?_,
    fun last unlimited low high => ?_⟩
  · exact ⟨_, rfl, goes (State.refLevel_gen (by rw [line]; decide) (still _).1 fun t gen _ => by
      unfold State.refEdgeAt
      rw [gen, now]
      dsimp only
      rw [if_pos rfl, clearing]
      dsimp only
      rw [State.modGen_gen_same, gen])⟩
  · exact ⟨_, rfl, goes (State.refLevel_gen (by rw [line]; decide) (still _).1 fun t gen _ => by
      unfold State.refEdgeAt
      rw [gen, now]
      dsimp only
      rw [if_pos rfl, seek, unfound]
      dsimp only
      rw [if_neg nofun, State.modGen_gen_same, gen])⟩
  · have same : n.setSearch r = n := by
      change { n with current := n.current.map fun m => { m with search := some r } } = n
      rw [hm, Option.map_some, ← search, ← hm]
    refine goes ?_
    rw [same]
    refine State.refLevel_gen (by rw [line]; decide) (same ▸ (still r).1) fun t gen _ => ?_
    unfold State.refEdgeAt
    rw [gen, now]
    dsimp only
    rw [if_pos rfl, seek]
    dsimp only
    rw [if_neg (by omega), gen]
  · have edge (t : State) (gen : t.gen g = n) : t.refEdgeAt f.line false g = State.thenNext (t.failSearch g .overrun) g := by
      unfold State.refEdgeAt
      rw [gen, now]
      dsimp only
      rw [if_pos rfl, seek]
      dsimp only
      rw [if_pos ⟨found, markers⟩]
    have fails (t : State) (gen : t.gen g = n) := State.failSearch_gen (s := t) (by rw [gen]; exact hm) search (by rw [gen]; exact unhalted) .overrun
    refine Generator.failed_fields (b := n) (m := m) (floor := f.creepSpeed) ((lawful.sound.refLevel f.line false).gens g).lawful
      (fun above => State.refLevel_gen (by rw [line]; decide) (Generator.failing_settles due _ _ _) fun t gen _ => ?_)
      fun below => State.refLevel_gen (by rw [line]; decide) (Generator.idle_settles _) fun t gen _ => ?_
    · rw [edge t gen, (fails t gen).1 (by rw [gen, kind]; exact above), gen]
    · rw [edge t gen, (fails t gen).2 (by rw [gen, kind]; exact below), gen]
  · refine ⟨_, rfl, goes (State.markerLevel_gen line (still _).1 fun t gen _ => ?_)⟩
    unfold State.markerEdgeAt
    rw [gen, now]
    dsimp only
    rw [if_pos ⟨axis, creep, by omega⟩, if_neg (by omega), State.modGen_gen_same, gen]
  · refine ⟨_, rfl, done (State.refLevel_gen (by rw [line]; decide) (Generator.idle_settles _) fun t gen claims => ?_)⟩
    have edge : t.refEdgeAt f.line false g = t.searchDone g f := by
      unfold State.refEdgeAt
      rw [gen, now]
      dsimp only
      rw [if_pos rfl, creep]
      dsimp only
      rw [if_pos markers]
    rw [edge, homes t gen claims empty]
  · refine ⟨_, rfl, done (State.markerLevel_gen line (Generator.idle_settles _) fun t gen claims => ?_)⟩
    have counted := State.modGen_gen_same t g fun n => n.setSearch { r with markers := r.markers + 1 }
    rw [gen] at counted
    have edge : t.markerEdgeAt e g = (t.modGen g fun n => n.setSearch { r with markers := r.markers + 1 }).searchDone g f := by
      unfold State.markerEdgeAt
      rw [gen, now]
      dsimp only
      rw [if_pos ⟨axis, creep, some_markers⟩, if_pos last]
    rw [edge, State.searchDone_gen (by rw [counted]; exact (still _).2) (by rw [counted]; exact empty) (by rw [counted]; exact unhalted)
      (by rw [State.modGen_claim, claims _ (.inr unreleased)]; exact unreleased), counted]
    rfl
  · have into : inCountRange (r.motion.move n.counter) = true := StepDir.move_inRange ⟨low.le, high.le⟩ (by split <;> assumption)
    have step := State.takeStep_overLimit hm searching kind search unlimited last into
    have moving : n.state.moving = true := by rw [searching]; rfl
    have x := exec_generatorStep (s := s) (g := g) moving
    have run : s.stepNow g = (s.takeStep g).drain := if_pos moving
    have lawfulAfter := ((s.stepNow_keeps g).sound _ lawful.sound).gens g
    rw [run] at lawfulAfter
    rw [step] at x lawfulAfter
    have gen := s.stepIssued_gen g m
    obtain ⟨current, queue, pending, halt, counter⟩ := n.stepped_stands g m
    have speed : (n.stepped g m).speed = n.speed := by cases g <;> rfl
    have stepped : (m.stepped (decide (n.state = .searching))).search = some { r with steps := f.limit + 1 } := by
      unfold CurrentMove.stepped
      rw [search, decide_eq_true searching, ← last]
      rfl
    have fails := State.failSearch_gen (s := s.stepIssued g m) (g := g) (by rw [gen]; exact current) stepped (by rw [gen]; exact halt.trans unhalted) .limit
    rw [gen] at fails
    have fields := Generator.failed_fields (b := n.stepped g m) (floor := f.creepSpeed)
      (m := m.stepped (decide (n.state = .searching))) (r := { r with steps := f.limit + 1 }) (mark := .limit) lawfulAfter.lawful
      (fun above => ?_) fun below => ?_
    · rw [speed] at fields
      refine ⟨_, x, fields.2.trans (counter.trans ?_), fields.1⟩
      rw [n.motion_of_search kind search, StepDir.move_eq]
    · have record := fails.1 (by rw [show (m.stepped (decide (n.state = .searching))).record = m.record from rfl, kind]; exact above)
      rw [← record]
      exact Generator.Settles.drained (record ▸ Generator.failing_settles (n.stepped_paced g m).2.2 _ _ _)
    · have record := fails.2 (by rw [show (m.stepped (decide (n.state = .searching))).record = m.record from rfl, kind]; exact below)
      rw [← record]
      exact Generator.Settles.drained (record ▸ Generator.idle_settles _)

end Sys2Proof.Machine
end

section
/-! SUPPORT. Pending commits at a rollover of an encoder's axis (R32, R36). -/

namespace Sys2Proof.Machine

variable {s t u : State} {x : AxisId} {d : AxisDir} {a : Axis} {p : PortId} {i : Fin 48}

/-- A count event rolls over where it changes the turn, and moves the extended position by one (R2, R6). -/
theorem Axis.advance_extended {turn position : Int} {rollover : Bool} (lawful : a.Lawful)
    (e : a.advance d = some (turn, position, rollover)) :
    (rollover = true ↔ turn ≠ a.turn) ∧ a.extendedOf turn position = a.extended + d.count := by
  have cycle := lawful.cycle_range
  have rotary (t p : Int) (m : a.mode = .rotary) : a.extendedOf t p = t * a.cycle + p := by unfold Axis.extendedOf; rw [m]
  have linear (t p : Int) (m : a.mode = .linear) : a.extendedOf t p = p := by unfold Axis.extendedOf; rw [m]
  unfold Axis.extended
  unfold Axis.advance at e
  cases m : a.mode with
  | linear =>
    rw [linear _ _ m, linear _ _ m]
    rw [m] at e
    cases d <;> dsimp only at e <;> split at e <;> cases e
    · exact ⟨by simp, rfl⟩
    · exact ⟨by simp, rfl⟩
  | rotary =>
    have place := lawful.rotary_place m
    rw [rotary _ _ m, rotary _ _ m]
    rw [m] at e
    cases d <;> dsimp only at e <;> split at e <;> rename_i inside
    · cases e
      exact ⟨by simp, (Int.add_assoc _ _ _).symm⟩
    · split at e <;> cases e
      exact ⟨by simp, by rw [Int.add_mul]; unfold AxisDir.count; dsimp only; omega⟩
    · cases e
      exact ⟨by simp, (Int.add_assoc _ _ _).symm⟩
    · split at e <;> cases e
      exact ⟨by simp, by rw [Int.sub_mul]; unfold AxisDir.count; dsimp only; omega⟩

/-! ### The commits after a count event -/

theorem State.overrunParts_commits (s : State) (x : AxisId) (d : AxisDir) : (takeParts (s.overrunParts x d) s).commits = s.commits := by
  refine takeParts_all (fun t => t.commits = s.commits) _ (fun f hf t k => ?_) (fun _ k => k) rfl
  rcases List.mem_cons.mp hf with rfl | hf
  · exact (State.evaluateAxis_reach t x).commits.trans k
  rcases List.mem_cons.mp hf with rfl | hf
  · exact (State.broadcast_reach _ _ _).commits.trans k
  exact (State.followParts_stands s x d f hf t).commits.trans k

theorem State.movedParts_commits (s : State) (x : AxisId) (d : AxisDir) (rollover : Bool) (p : PortId) :
    (takeParts (s.movedParts x d rollover) s).hasCommit p x = if rollover then false else s.hasCommit p x :=
  State.movedParts_cam (fun v => v.hasCommit p x = if rollover then false else s.hasCommit p x)
    (fun v _ _ commits => by rw [State.camEvent_commits, State.hasCommit_congr commits])
    fun v w k _ _ commits => by rw [State.hasCommit_congr commits]; exact k

/-- A window of a session with a pending commit is committed at a rollover and evaluated (R29, R32, R37). -/
theorem State.movedParts_slot_committed (used : s.slots[i].status ≠ .free) (on : s.slots[i].axis = x)
    (held : s.holds p (.output s.slots[i].output) = true) (commit : s.hasCommit p x = true) :
    (takeParts (s.movedParts x d true) s).slots[i] = s.slots[i].committed.evaluated (s.axis x) := by
  refine State.movedParts_cam (fun v => v.slots[i] = s.slots[i].committed.evaluated (s.axis x)) (fun v part slots commits => ?_)
    fun v w k _ slots _ => by rw [slots]; exact k
  have slot : v.slots[i] = s.slots[i] := by rw [slots]
  rw [State.camEvent_slot_committed (p := p) (by rw [slot]; exact used) (by rw [slot]; exact on)
    (by rw [slot, part.claims.holds_output]; exact held) (by rw [State.hasCommit_congr commits]; exact commit), slot,
    Slot.evaluated_congr part.axis]

theorem State.commitCount_congr (slots : t.slots = s.slots) (claims : s.ClaimsStand t) (p : PortId) (x : AxisId) :
    t.commitCount p x = s.commitCount p x := by
  have own : t.ownWindow p x = s.ownWindow p x := by
    funext w
    unfold State.ownWindow
    rw [claims.holds_output]
  unfold State.commitCount
  rw [slots, own]

theorem State.compareEvent_quiet (none_due : s.dueEntries x d = []) : s.compareEvent x d = s := by
  unfold State.compareEvent
  rw [none_due]
  rfl

/-- What the FOLLOW moves leave for the cam engine and the compare unit to find. -/
structure State.Unread (x : AxisId) (s v : State) : Prop where
  part : State.Part x s v
  slots : v.slots = s.slots
  commits : v.commits = s.commits
  list : v.compareList x = s.compareList x
  axis : v.axis x = s.axis x

theorem State.Unread.followed (h : State.Unread x s t) {f : Bool × (State → State)} (hf : f ∈ s.followParts x d) :
    State.Unread x s (f.2 t) := by
  have move := State.followParts_stands s x d f hf t
  exact ⟨h.part.trans (State.followParts_part s x x d f hf t), move.slots.trans h.slots, move.commits.trans h.commits,
    (State.compareList_congr move.compares x).trans h.list, (State.axis_congr move.axes x).trans h.axis⟩

theorem State.Unread.quiet (h : State.Unread x s t) (none_due : s.dueEntries x d = []) : t.compareEvent x d = t := by
  refine State.compareEvent_quiet ?_
  unfold State.dueEntries at none_due ⊢
  rw [h.list, h.axis]
  exact none_due

/-- COMMIT_DONE where no entry is due (R36). -/
theorem State.movedParts_reported (none_due : s.dueEntries x d = []) (commit : s.hasCommit p x = true)
    (isOpen : (s.session p).isOpen = true) (room : (s.port p).notices.items.length ≤ 12) :
    ((takeParts (s.movedParts x d true) s).port p).Holds (.commitDone x .atRollover (s.commitCount p x) (s.axis x).extended) := by
  have told : othersTold (State.Unread x s) ((!(s.dueEntries x d).isEmpty, fun v => v.compareEvent x d) :: s.followParts x d) 9 := by
    have all := othersTold_cons (b := !(s.dueEntries x d).isEmpty) (P := State.Unread x s) (k := 0) (f := fun v => v.compareEvent x d)
      (fun v k => by rw [k.quiet none_due]; exact .refl _ _ _) (State.followParts_told s x d)
    exact ⟨all.1, all.2.trans (by omega)⟩
  refine takeParts_once_told (n := 9) (State.Unread x s)
    (fun v => (v.port p).Holds (.commitDone x .atRollover (s.commitCount p x) (s.axis x).extended)) []
    ((!(s.dueEntries x d).isEmpty, fun v => v.compareEvent x d) :: s.followParts x d) (_, fun v => v.camEvent x true) told
    (fun f hf t k => ?_) (fun f hf t k => ?_) (fun t k => ⟨k.part.trans (.chosen x t), k.slots, k.commits, k.list, k.axis⟩) (fun _ k => k)
    (fun t told k => ?_) ⟨.refl x s, rfl, rfl, rfl, rfl⟩
  · rcases List.mem_cons.mp hf with rfl | hf
    · change State.Unread x s (t.compareEvent x d)
      rw [k.quiet none_due]
      exact k
    · exact k.followed hf
  · rcases List.mem_cons.mp hf with rfl | hf
    · obtain ⟨_, told⟩ := (t.compareEvent_keeps x d).told
      exact told.holds k
    · obtain ⟨_, told⟩ := (State.followParts_told (P := fun _ => True) s x d).1 f hf
      exact (told t trivial).holds k
  · have length := told.length_le p
    have reported := State.camEvent_reported (s := t) (p := p) (by rw [State.hasCommit_congr k.commits]; exact commit)
      (by rw [told.session]; exact isOpen) (by omega)
    rw [State.commitCount_congr k.slots k.part.claims, k.axis] at reported
    exact reported

/-! ### The first half of the statement -/

/-- What CountEventReachesCommitsAndCompares states of the pending commits on an encoder's axis. -/
theorem exec_encoderTransition_commits {e : Encoder} {phase1 phase2 : Bool} (lawful : s.Lawful)
    (event : quadrature (s.lines.pair e) { phase1 := phase1, phase2 := phase2 } = some d) (counting : (s.axis e.axis).status = .counting) :
    ∃ t, exec (.encoderTransition e phase1 phase2) s = .next t ∧
      ((t.axis e.axis).turn = (s.axis e.axis).turn → ∀ p, t.hasCommit p e.axis = s.hasCommit p e.axis) ∧
      ((t.axis e.axis).turn ≠ (s.axis e.axis).turn → ∀ p, t.hasCommit p e.axis = false ∧
        (s.hasCommit p e.axis = true →
          (∀ i : Fin 48, s.slots[i].axis = e.axis → s.holds p (.output s.slots[i].output) = true →
            (s.slots[i].status = .retiring → t.slots[i].status = .free) ∧
            ∀ w, s.slots[i].status = .staged ∨ s.slots[i].status = .liveEdited → s.slots[i].staged = some w →
              t.slots[i] =
                { s.slots[i] with
                  status := .live, active := some w, staged := none, inside := w.insideOn (t.axis e.axis) }) ∧
          ((∀ c ∈ s.compareList e.axis, c.target ≠ (t.axis e.axis).extended) → (s.port p).notices.items.length ≤ 12 →
            (t.port p).Holds (.commitDone e.axis .atRollover (s.commitCount p e.axis) (t.axis e.axis).extended)))) := by
  let x := e.axis
  let dir := if (s.axis x).sense = .normal then d else d.opposite
  let l := s.levelled e { phase1 := phase1, phase2 := phase2 }
  have run := exec_encoderTransition event
  have after : State.Beside .v (l.countEvent x dir) (l.countEvent x dir).drain := State.drain_beside _
  have apart := after.apart x (Encoder.axis_ne_v e)
  refine ⟨_, run, ?_⟩
  cases moves : (s.axis x).advance dir with
  | none =>
    let m := l.overrun x dir
    have parts : l.countEvent x dir = takeParts (m.overrunParts x dir) m := State.countEvent_overruns (s := l) counting moves
    have part := (State.takeParts_part _ (State.overrunParts_part m x dir) m).axis
    rw [← parts, State.overrun_axis] at part
    have turn : ((l.countEvent x dir).drain.axis x).turn = (s.axis x).turn := by
      rw [apart.axis]
      exact (congrArg Axis.turn part).trans rfl
    refine ⟨fun _ p => (apart.commits p).trans ?_, fun turned => absurd turn turned⟩
    rw [parts]
    exact State.hasCommit_congr (m.overrunParts_commits x dir) p x
  | some place =>
    obtain ⟨turn, position, rollover⟩ := place
    obtain ⟨rolls, -⟩ := Axis.advance_extended (lawful.axes.each x) moves
    let m := l.movedTo x dir turn position
    have parts : l.countEvent x dir = takeParts (m.movedParts x dir rollover) m := State.countEvent_moves (s := l) counting moves
    have part := (State.takeParts_part _ (State.movedParts_part m x dir rollover) m).axis
    rw [← parts] at part
    have axis : (l.countEvent x dir).drain.axis x = _ := apart.axis.trans part
    have moved : m.axis x = { (s.axis x).counted dir with turn := turn, position := position } := l.movedTo_axis x dir turn position
    have turned : ((l.countEvent x dir).drain.axis x).turn = turn := by
      rw [axis, moved]
    have commits (p : PortId) : (l.countEvent x dir).drain.hasCommit p x = if rollover then false else s.hasCommit p x := by
      rw [apart.commits, parts]
      exact m.movedParts_commits x dir rollover p
    rw [show ((l.countEvent x dir).drain.axis x).turn = turn from turned]
    cases rollover with
    | false =>
      have same : turn = (s.axis x).turn := by
        by_contra other
        exact absurd (rolls.mpr other) (by decide)
      exact ⟨fun _ p => commits p, fun other => absurd same other⟩
    | true =>
      refine ⟨fun same => absurd same (rolls.mp rfl), fun _ p => ⟨commits p, fun commit => ⟨fun i on held => ?_, fun none_due room => ?_⟩⟩⟩
      · have committed (used : s.slots[i].status ≠ .free) : (l.countEvent x dir).slots[i] = s.slots[i].committed.evaluated (m.axis x) := by
          rw [parts]
          exact State.movedParts_slot_committed (s := m) used on held commit
        refine ⟨fun retiring => ?_, fun w staged copy => ?_⟩
        · have slot := (committed (by rw [retiring]; decide)).trans (Slot.committed_retiring retiring _)
          rw [(after.apart .a nofun).slot i (by rw [slot]; rfl), slot]
          rfl
        · have slot := (committed (by rcases staged with h | h <;> rw [h] <;> decide)).trans (Slot.committed_staged staged copy _)
          rw [apart.slot i (by rw [slot]; exact on), slot]
          have inside : w.insideOn (m.axis x) = w.insideOn ((l.countEvent x dir).drain.axis x) := by
            rw [axis]
            rfl
          rw [inside]
      · have extended : ((l.countEvent x dir).drain.axis x).extended = (m.axis x).extended := by
          rw [axis]
          rfl
        rw [show ((l.countEvent x dir).drain.axis x).extended = (m.axis x).extended from extended] at none_due ⊢
        have quiet : m.dueEntries x dir = [] := by
          refine List.filter_eq_nil_iff.mpr fun c mem => ?_
          unfold CompareEntry.due
          rw [decide_eq_false (none_due c mem), Bool.false_and]
          exact Bool.false_ne_true
        have reported := State.movedParts_reported (s := m) (d := dir) quiet commit (lawful.commits p x commit).2 room
        rw [← parts] at reported
        obtain ⟨_, told⟩ := (l.countEvent x dir).drain_keeps.told
        exact told.holds reported

end Sys2Proof.Machine
end

section
/-! SUPPORT. The compare list after a count event, and what the cam engine and the FOLLOW moves leave (R53 to R60). -/

namespace Sys2Proof.Machine

variable {s t u : State} {x : AxisId} {d : AxisDir} {a b : Axis} {p : PortId} {g : GenId} {c e : CompareEntry}

/-! ### A list under firings, one after another (R54, R59) -/

/-- A compare list after the firings of entries, one after another (R59, R60). -/
def firedList (a : Axis) (due l : List CompareEntry) : List CompareEntry := due.foldl (fun l e => refile e (e.settle a).2 l) l

theorem State.compareEvent_list (s : State) (x : AxisId) (d : AxisDir) :
    (s.compareEvent x d).compareList x = firedList (s.axis x) (s.dueEntries x d) (s.compareList x) := by
  have fires (l : List CompareEntry) (t : State) (same : (t.axis x).mode = (s.axis x).mode ∧ (t.axis x).cycle = (s.axis x).cycle) :
      (l.foldl (fun t e => t.fire x d e) t).compareList x = firedList (s.axis x) l (t.compareList x) := by
    induction l generalizing t with
    | nil => rfl
    | cons e l ih =>
      have settles : e.settle (t.axis x) = e.settle (s.axis x) := by
        unfold CompareEntry.settle Axis.inRange
        rw [same.1, same.2]
      have fired := (t.fire_part x d e).axis
      rw [List.foldl_cons, ih (t.fire x d e) ⟨(congrArg Axis.mode fired).trans same.1, (congrArg Axis.cycle fired).trans same.2⟩,
        State.fire_compareList, if_pos rfl, settles]
      rfl
  exact fires (s.dueEntries x d) s ⟨rfl, rfl⟩

theorem CompareEntry.settle_once (removed : e.rep = none) (a : Axis) : e.settle a = (.removed, none) := by
  unfold CompareEntry.settle
  rw [removed]

/-- An entry that does not fire stays (R60). -/
theorem mem_firedList {due l : List CompareEntry} (mem : c ∈ l) (others : ∀ e ∈ due, c.id ≠ e.id) (a : Axis) : c ∈ firedList a due l := by
  unfold firedList
  induction due generalizing l with
  | nil => exact mem
  | cons e due ih => exact ih (mem_refile_of_ne _ mem (others e (.head _))) fun f hf => others f (.tail _ hf)

/-- An id that no entry of a list carries is not brought back by firings, but by an entry with a repeat. -/
theorem firedList_absent {due l : List CompareEntry} {id : Nat} (absent : ∀ f ∈ l, f.id ≠ id) (once : ∀ e ∈ due, e.id = id → e.rep = none)
    (a : Axis) : ∀ f ∈ firedList a due l, f.id ≠ id := by
  unfold firedList
  induction due generalizing l with
  | nil => exact absent
  | cons e due ih =>
    refine ih (fun f hf => ?_) fun f hf => once f (.tail _ hf)
    rcases mem_refile hf with hf | again
    · exact absent f hf
    · intro same
      have id := (e.settle_same _ again).1
      rw [CompareEntry.settle_once (once e (.head _) (id.symm.trans same))] at again
      cases again

/-- An entry that fires without a repeat is gone (R59). -/
theorem firedList_gone {due l : List CompareEntry} (mem : c ∈ due) (alone : ∀ e ∈ due, e.id = c.id → e.rep = none) (a : Axis) :
    ∀ f ∈ firedList a due l, f.id ≠ c.id := by
  induction due generalizing l with
  | nil => cases mem
  | cons e due ih =>
    rcases List.mem_cons.mp mem with rfl | mem
    · refine firedList_absent (l := refile c (c.settle a).2 l) (fun f hf => ?_) (fun f hf => alone f (.tail _ hf)) a
      rw [CompareEntry.settle_once (alone c (.head _) rfl)] at hf
      exact (mem_removeId.mp hf).2
    · exact ih (l := refile e (e.settle a).2 l) mem fun f hf => alone f (.tail _ hf)

/-! ### What the cam engine leaves of the channels (R43, R68) -/

/-- Two states between which no channel's overlay and pulse have changed. -/
def State.Overlaid (s t : State) : Prop := ∀ o, (t.channel o).overlay = (s.channel o).overlay ∧ (t.channel o).pulse = (s.channel o).pulse

theorem State.Overlaid.refl (s : State) : s.Overlaid s := fun _ => ⟨rfl, rfl⟩

theorem State.Overlaid.trans (h : s.Overlaid t) (k : t.Overlaid u) : s.Overlaid u := fun o =>
  ⟨(k o).1.trans (h o).1, (k o).2.trans (h o).2⟩

theorem State.Overlaid.of_channels (channels : t.channels = s.channels) : s.Overlaid t := fun o => by
  unfold State.channel
  rw [channels]
  exact ⟨rfl, rfl⟩

theorem State.recomposeAll_overlaid (s : State) (l : List OutputId) : s.Overlaid (s.recomposeAll l) := by
  unfold State.recomposeAll
  induction l generalizing s with
  | nil => exact .refl s
  | cons o l ih =>
    refine State.Overlaid.trans (fun q => ?_) (ih (s.recompose o))
    rw [State.recompose_channel]
    split <;> rename_i same
    · rw [same.1]
      exact ⟨rfl, rfl⟩
    · exact ⟨rfl, rfl⟩

theorem State.evaluateAxis_overlaid (s : State) (x : AxisId) : s.Overlaid (s.evaluateAxis x) :=
  (State.Overlaid.of_channels (s := s) rfl).trans (State.recomposeAll_overlaid (s.evaluateSlots x fun _ => true) (s.outputsOn x))

theorem State.applyCommit_overlaid (s : State) (p : PortId) (x : AxisId) (timing : CommitTiming) : s.Overlaid (s.applyCommit p x timing) := by
  rw [State.applyCommit_eq]
  refine State.Overlaid.trans ?_ (.of_channels (State.post_reach _ _ _).channels)
  exact (State.Overlaid.of_channels (s := s) rfl).trans (State.recomposeAll_overlaid _ _)

theorem State.camEvent_overlaid (s : State) (x : AxisId) (rollover : Bool) : s.Overlaid (s.camEvent x rollover) := by
  unfold State.camEvent
  refine State.Overlaid.trans ?_ (State.evaluateAxis_overlaid _ x)
  split
  · refine State.applyPending_all (State.Overlaid s) (fun t q k => k.trans ?_) (.refl s)
    unfold State.applyPendingOf
    split
    · exact (t.applyCommit_overlaid q x _).trans (.of_channels rfl)
    · exact .refl t
  · exact .refl s

end Sys2Proof.Machine
end

section
/-! SUPPORT. One entry that a count event of an axis brings due, among the other parts of the event (R53 to R60). -/

namespace Sys2Proof.Machine

variable {s t u m : State} {x : AxisId} {d : AxisDir} {a b : Axis} {p : PortId} {g h : GenId} {c e : CompareEntry} {rollover : Bool}

/-! ### The compare list after the event -/

theorem State.Unread.cam (h : State.Unread x m t) (rollover : Bool) :
    (t.camEvent x rollover).compareList x = m.compareList x ∧ (t.camEvent x rollover).axis x = m.axis x := by
  have reach := t.camEvent_reach x rollover
  exact ⟨(State.compareList_congr reach.compares x).trans h.list, (State.axis_congr reach.axes x).trans h.axis⟩

theorem State.movedParts_list (m : State) (x : AxisId) (d : AxisDir) (rollover : Bool) :
    (takeParts (m.movedParts x d rollover) m).compareList x = firedList (m.axis x) (m.dueEntries x d) (m.compareList x) := by
  have others (f : Bool × (State → State)) (hf : f ∈ [(rollover && m.anyCommit x, fun v : State => v.camEvent x rollover)] ++ m.followParts x d)
      (t : State) : (f.2 t).compareList x = t.compareList x ∧ (f.2 t).axis x = t.axis x := by
    rcases List.mem_cons.mp hf with rfl | hf
    · exact ⟨State.compareList_congr (t.camEvent_reach x rollover).compares x, State.axis_congr (t.camEvent_reach x rollover).axes x⟩
    · have move := State.followParts_stands m x d f hf t
      exact ⟨State.compareList_congr move.compares x, State.axis_congr move.axes x⟩
  refine takeParts_once (fun t => t.compareList x = m.compareList x ∧ t.axis x = m.axis x)
    (fun t => t.compareList x = firedList (m.axis x) (m.dueEntries x d) (m.compareList x))
    [(rollover && m.anyCommit x, fun v => v.camEvent x rollover)] (m.followParts x d) (_, fun v => v.compareEvent x d)
    (fun f hf t k => ⟨(others f hf t).1.trans k.1, (others f hf t).2.trans k.2⟩) (fun f hf t k => (others f hf t).1.trans k)
    (fun _ k => k) (fun _ k => k) (fun t k => ?_) ⟨rfl, rfl⟩
  have due : t.dueEntries x d = m.dueEntries x d := by
    unfold State.dueEntries
    rw [k.1, k.2]
  exact (t.compareEvent_list x d).trans (by rw [due, k.1, k.2])

/-! ### What a source event may do to a generator -/

/-- A FOLLOW move is that of a generator without halt, whose claim is not RELEASING. -/
def State.FollowersFree (s : State) : Prop :=
  ∀ g, (s.gen g).state = .following → (s.gen g).halt = false ∧ (s.claim (.generator g)).state ≠ .releasing

theorem State.Lawful.followersFree (h : s.Lawful) : s.FollowersFree := fun g following =>
  ⟨h.moving_unhalted (by rw [following]; decide) (by rw [following]; decide), fun k => by
    rcases h.gens.releasing_stops g k with e | e <;> (rw [following] at e; cases e)⟩

/-- Two records of a generator between which source events stand at most. -/
structure Generator.Followed (n k : Generator) : Prop where
  trigger : k.pendingTrigger = n.pendingTrigger
  halt : k.halt = n.halt
  state : k.state = n.state ∨ n.state = .following ∧ k.state = .idle

theorem Generator.Followed.refl (n : Generator) : n.Followed n := ⟨rfl, rfl, .inl rfl⟩

theorem Generator.Followed.trans {n k j : Generator} (h : n.Followed k) (l : k.Followed j) : n.Followed j := by
  refine ⟨l.trigger.trans h.trigger, l.halt.trans h.halt, ?_⟩
  rcases l.state with same | ⟨following, idle⟩
  · rw [same]
    exact h.state
  · rcases h.state with same | ⟨-, idle'⟩
    · exact .inr ⟨same.symm.trans following, idle⟩
    · rw [idle'] at following
      cases following

/-- A source event hands over no event of axis V: a move that it ends leaves no record behind. -/
theorem State.followEvent_vEvents (s : State) (x : AxisId) (d : AxisDir) (g : GenId) : (s.followEvent x d g).vEvents = s.vEvents := by
  cases now : (s.gen g).followsNow x with
  | false => rw [State.followEvent_of_not s d now]
  | true =>
    obtain ⟨state, k, num, den, limit, hk, kind⟩ := (Generator.followsNow_iff _ x).mp now
    rw [s.followEvent_of_follows d state hk kind]
    split
    · rfl
    · exact (State.endMove_vEvents _ g _ (by rw [State.flush_gen])).trans (s.flush_vEvents g)

/-- A source event at a generator changes no claim, hands over no event of axis V, and leaves the trigger that is pending (log 12). -/
theorem State.followEvent_follows (free : (s.gen g).state = .following → (s.gen g).halt = false ∧ (s.claim (.generator g)).state ≠ .releasing)
    (x : AxisId) (d : AxisDir) (h : GenId) :
    (s.gen h).Followed ((s.followEvent x d g).gen h) ∧ (∀ r, (s.followEvent x d g).claim r = s.claim r) := by
  cases now : (s.gen g).followsNow x with
  | false =>
    rw [State.followEvent_of_not s d now]
    exact ⟨.refl _, fun _ => rfl⟩
  | true =>
    obtain ⟨state, k, num, den, limit, hk, kind⟩ := (Generator.followsNow_iff _ x).mp now
    obtain ⟨halt, stands⟩ := free state
    obtain ⟨_, only⟩ := s.followEvent_only x d g
    have others (other : h ≠ g) : (s.gen h).Followed ((s.followEvent x d g).gen h) := by
      rw [only.others h other]
      exact .refl _
    have event := s.followEvent_of_follows d state hk kind
    split at event
    · rename_i count dir _
      refine ⟨?_, fun r => ?_⟩
      · by_cases same : h = g
        · subst same
          rw [event, State.modGen_gen_same]
          exact ⟨rfl, rfl, .inl rfl⟩
        · exact others same
      · rw [event]
        rfl
    · have gen := State.flush_endMove_gen hk halt stands .followOverspeed
      refine ⟨?_, fun r => ?_⟩
      · by_cases same : h = g
        · subst same
          rw [event, gen]
          exact ⟨rfl, rfl, .inr ⟨state, rfl⟩⟩
        · exact others same
      · by_cases same : r = .generator g
        · subst same
          exact only.claimsStand _ (.inr stands)
        · exact only.other_claims r same

/-! ### What the other parts leave for a due entry to find -/

/-- What stands of a state until its one due entry fires. -/
structure State.Unfired (x : AxisId) (m t : State) : Prop where
  axis : t.axis x = m.axis x
  list : t.compareList x = m.compareList x
  claims : ∀ r, t.claim r = m.claim r
  events : t.vEvents = m.vEvents
  now : t.now = m.now
  overlaid : m.Overlaid t
  gens : ∀ g, (m.gen g).Followed (t.gen g)

namespace State.Unfired

theorem refl (x : AxisId) (m : State) : State.Unfired x m m := ⟨rfl, rfl, fun _ => rfl, rfl, rfl, .refl m, fun _ => .refl _⟩

theorem chosen (k : State.Unfired x m t) : State.Unfired x m t.choose :=
  ⟨k.axis, k.list, k.claims, k.events, k.now, k.overlaid, k.gens⟩

theorem cam (k : State.Unfired x m t) (rollover : Bool) : State.Unfired x m (t.camEvent x rollover) := by
  have reach := t.camEvent_reach x rollover
  exact ⟨(State.axis_congr reach.axes x).trans k.axis, (State.compareList_congr reach.compares x).trans k.list,
    fun r => (State.claim_congr reach.claims r).trans (k.claims r), reach.vEvents.trans k.events, reach.now.trans k.now,
    k.overlaid.trans (t.camEvent_overlaid x rollover), fun g => by rw [State.gen_congr reach.gens]; exact k.gens g⟩

theorem free (k : State.Unfired x m t) (free : m.FollowersFree) : t.FollowersFree := by
  intro g following
  obtain ⟨-, halt, state⟩ := k.gens g
  rcases state with same | ⟨-, idle⟩
  · rw [halt, k.claims]
    exact free g (same.symm.trans following)
  · rw [following] at idle
    cases idle

theorem follow (k : State.Unfired x m t) (free : m.FollowersFree) (d : AxisDir) (g : GenId) : State.Unfired x m (t.followEvent x d g) := by
  obtain ⟨_, only⟩ := t.followEvent_only x d g
  have follows (h : GenId) := State.followEvent_follows (k.free free g) x d h
  exact ⟨(State.axis_congr only.move.axes x).trans k.axis, (State.compareList_congr only.move.compares x).trans k.list,
    fun r => ((follows g).2 r).trans (k.claims r), (t.followEvent_vEvents x d g).trans k.events, only.told.now.trans k.now,
    k.overlaid.trans (.of_channels only.move.channels), fun h => (k.gens h).trans (follows h).1⟩

theorem holds_eq (k : State.Unfired x m t) (p : PortId) (r : Resource) : t.holds p r = m.holds p r := by
  unfold State.holds State.holder
  rw [k.claims]

end State.Unfired

/-- What one due entry brings about, the other parts keeping what it leaves; they tell a port twelve notices at most before it. -/
theorem State.movedParts_fired (Q : State → Prop) (free : m.FollowersFree) (due : m.dueEntries x d = [c])
    (acts : ∀ t, State.Unfired x m t → State.Told (fun _ => True) 12 m t → Q (t.fire x d c)) (chosen : ∀ t, Q t → Q t.choose)
    (cam : ∀ t, Q t → Q (t.camEvent x rollover)) (follow : ∀ t g, Q t → Q (t.followEvent x d g)) :
    Q (takeParts (m.movedParts x d rollover) m) := by
  have told : othersTold (State.Unfired x m)
      ([(rollover && m.anyCommit x, fun v : State => v.camEvent x rollover)] ++ m.followParts x d) (3 + 9) :=
    othersTold_cons (fun t _ => t.camEvent_told x rollover) (m.followParts_told x d)
  refine takeParts_once_told (n := 3 + 9) (State.Unfired x m) Q
    [(rollover && m.anyCommit x, fun v => v.camEvent x rollover)] (m.followParts x d) (_, fun v => v.compareEvent x d) told
    (fun f hf t k => ?_) (fun f hf t k => ?_) (fun t k => k.chosen) chosen (fun t told k => ?_) (.refl x m)
  · rcases List.mem_cons.mp hf with rfl | hf
    · exact k.cam rollover
    · obtain ⟨g, -, rfl⟩ := List.mem_map.mp hf
      exact k.follow free d g
  · rcases List.mem_cons.mp hf with rfl | hf
    · exact cam t k
    · obtain ⟨g, -, rfl⟩ := List.mem_map.mp hf
      exact follow t g k
  · have same : t.dueEntries x d = [c] := by
      unfold State.dueEntries at due ⊢
      rw [k.list, k.axis, due]
    have fires : t.compareEvent x d = t.fire x d c := by
      unfold State.compareEvent
      rw [same]
      rfl
    change Q (t.compareEvent x d)
    rw [fires]
    exact acts t k told

/-! ### The action of the entry (R55 to R57) -/

theorem State.fire_channels (s : State) (x : AxisId) (d : AxisDir) (e : CompareEntry) : (s.fire x d e).channels = (s.fireAction x e).1.channels := by
  rw [State.fire_eq]
  exact (State.post_reach _ _ _).channels

theorem State.fire_gens (s : State) (x : AxisId) (d : AxisDir) (e : CompareEntry) : (s.fire x d e).gens = (s.fireAction x e).1.gens := by
  rw [State.fire_eq]
  exact (State.post_reach _ _ _).gens

theorem State.fire_vEvents (s : State) (x : AxisId) (d : AxisDir) (e : CompareEntry) : (s.fire x d e).vEvents = (s.fireAction x e).1.vEvents := by
  rw [State.fire_eq]
  exact (State.post_reach _ _ _).vEvents

theorem State.outAction_channel (s : State) (p : PortId) (o : OutputId) (f : Channel → Channel) :
    ((s.outAction p o f).1.channel o).overlay = (if s.holds p (.output o) then f (s.channel o) else s.channel o).overlay ∧
      ((s.outAction p o f).1.channel o).pulse = (if s.holds p (.output o) then f (s.channel o) else s.channel o).pulse := by
  unfold State.outAction
  by_cases held : s.holds p (.output o) = true
  · rw [if_pos held, if_pos held, State.arrive_channel, if_pos rfl]
    exact ⟨rfl, rfl⟩
  · rw [if_neg held, if_neg held]
    exact ⟨rfl, rfl⟩

/-- The output action of the one due entry at the channel of its output (R55, R73). -/
theorem State.movedParts_output (free : m.FollowersFree) (due : m.dueEntries x d = [c]) {o : OutputId} {f : Channel → Channel}
    {overlay : Overlay} {pulse : Option Nat} (action : ∀ t : State, t.fireAction x c = t.outAction c.owner o f)
    (sets : ∀ ch, (f ch).overlay = overlay ∧ (f ch).pulse = pulse) :
    (m.holds c.owner (.output o) = true →
      ((takeParts (m.movedParts x d rollover) m).channel o).overlay = overlay ∧
        ((takeParts (m.movedParts x d rollover) m).channel o).pulse = pulse) ∧
    (m.holds c.owner (.output o) = false →
      ((takeParts (m.movedParts x d rollover) m).channel o).overlay = (m.channel o).overlay ∧
        ((takeParts (m.movedParts x d rollover) m).channel o).pulse = (m.channel o).pulse) := by
  have at_end (l : Overlay) (w : Option Nat)
      (acts : ∀ t, State.Unfired x m t → ((t.fire x d c).channel o).overlay = l ∧ ((t.fire x d c).channel o).pulse = w) :
      ((takeParts (m.movedParts x d rollover) m).channel o).overlay = l ∧
        ((takeParts (m.movedParts x d rollover) m).channel o).pulse = w := by
    refine State.movedParts_fired (fun t => (t.channel o).overlay = l ∧ (t.channel o).pulse = w) free due (fun t k _ => acts t k)
      (fun _ k => k) (fun t k => ?_) fun t g k => ?_
    · obtain ⟨same, still⟩ := t.camEvent_overlaid x rollover o
      rw [same, still]
      exact k
    · obtain ⟨_, only⟩ := t.followEvent_only x d g
      obtain ⟨same, still⟩ := State.Overlaid.of_channels only.move.channels o
      rw [same, still]
      exact k
  have fires (t : State) : (t.fire x d c).channel o = (t.outAction c.owner o f).1.channel o := by
    rw [← action]
    unfold State.channel
    rw [t.fire_channels x d c]
  refine ⟨fun held => at_end _ _ fun t k => ?_, fun unheld => at_end _ _ fun t k => ?_⟩
  · have acts := t.outAction_channel c.owner o f
    rw [k.holds_eq, held, if_pos rfl] at acts
    rw [fires, acts.1, acts.2]
    exact sets _
  · have acts := t.outAction_channel c.owner o f
    rw [k.holds_eq, unheld, if_neg nofun] at acts
    rw [fires, acts.1, acts.2]
    exact k.overlaid o

/-- TRIGGER_GEN of the one due entry at a generator in IDLE or in a move that has started (R56, log 12). -/
theorem State.movedParts_triggered (free : m.FollowersFree) (due : m.dueEntries x d = [c]) (action : c.action = .triggerGen g)
    (held : m.holds c.owner (.generator g) = true) (armed : (m.gen g).state ≠ .armed) (stopping : (m.gen g).state ≠ .stopping)
    (halted : (m.gen g).state ≠ .halted) : ((takeParts (m.movedParts x d rollover) m).gen g).pendingTrigger = true := by
  have claimed : (m.claim (.generator g)).state ≠ .releasing := by
    rw [((m.holds_iff _ _).mp held).1]
    decide
  refine (State.movedParts_fired (fun t => (t.gen g).pendingTrigger = true ∧
      ((t.gen g).state = .following → (t.gen g).halt = false ∧ (t.claim (.generator g)).state ≠ .releasing)) free due
    (fun t k _ => ?_) (fun _ k => k) (fun t k => ?_) fun t h k => ?_).1
  · obtain ⟨-, -, state⟩ := k.gens g
    have other (st : GenState) (e : (m.gen g).state ≠ st) (idle : st ≠ .idle) : (t.gen g).state ≠ st := fun same => by
      rcases state with stands | ⟨-, rests⟩
      · exact e (stands.symm.trans same)
      · exact idle (same.symm.trans rests)
    have armed' := other .armed armed (by decide)
    have acts : (t.fireAction x c).1 = t.trigger g .compare := by
      unfold State.fireAction
      rw [action]
      dsimp only
      rw [k.holds_eq, if_pos held]
    have record := State.fire_triggered armed' x d c
    have claims := (t.fire_slots x d c).2.2 (.generator g) (.inr (by rw [k.claims]; exact claimed))
    refine ⟨?_, fun following => ?_⟩
    · rw [State.gen_congr (t.fire_gens x d c), acts,
        State.trigger_kept .compare armed' (other .stopping stopping (by decide)) (other .halted halted (by decide))]
      split <;> rename_i pending
      · rw [State.postGen_gen]
        exact pending
      · rw [State.modGen_gen_same]
    · rw [record.of Generator.halt fun _ => rfl, claims]
      exact k.free free g ((record.of Generator.state fun _ => rfl).symm.trans following)
  · have reach := t.camEvent_reach x rollover
    rw [State.gen_congr reach.gens, State.claim_congr reach.claims]
    exact k
  · obtain ⟨pending, free⟩ := k
    by_cases same : h = g
    · subst same
      obtain ⟨⟨trigger, halt, state⟩, claims⟩ := State.followEvent_follows free x d h
      refine ⟨trigger.trans pending, fun following => ?_⟩
      rcases state with stands | ⟨-, rests⟩
      · rw [halt, claims]
        exact free (stands.symm.trans following)
      · rw [following] at rests
        cases rests
    · obtain ⟨_, only⟩ := t.followEvent_only x d h
      rw [only.others g (Ne.symm same), only.other_claims (.generator g) fun e => same (Resource.generator.inj e).symm]
      exact ⟨pending, free⟩

/-- CAPTURE of the one due entry (R57). -/
theorem State.movedParts_logged (free : m.FollowersFree) (due : m.dueEntries x d = [c]) (action : c.action = .capture) :
    (takeParts (m.movedParts x d rollover) m).axis x = (m.axis x).logged .compare c.target m.now := by
  refine State.movedParts_fired (fun t => t.axis x = (m.axis x).logged .compare c.target m.now) free due (fun t k _ => ?_) (fun _ k => k)
    (fun t k => (State.axis_congr (t.camEvent_reach x rollover).axes x).trans k) fun t g k => ?_
  · rw [State.fire_axis, if_pos ⟨rfl, action⟩, k.axis, k.now]
  · obtain ⟨_, only⟩ := t.followEvent_only x d g
    exact (State.axis_congr only.move.axes x).trans k

/-- The action of an entry that starts no ARMED move hands over no event of axis V, and posts one notice at most. -/
theorem State.fireAction_quiet (starts : ∀ g, e.action = .triggerGen g → (s.gen g).state ≠ .armed) (x : AxisId) :
    (s.fireAction x e).1.vEvents = s.vEvents ∧ State.Told (fun _ => True) 1 s (s.fireAction x e).1 := by
  have out (p : PortId) (o : OutputId) (f : Channel → Channel) :
      (s.outAction p o f).1.vEvents = s.vEvents ∧ State.Told (fun _ => True) 1 s (s.outAction p o f).1 :=
    have reach := s.outAction_reach p o f
    ⟨reach.vEvents, reach.told _ _⟩
  unfold State.fireAction
  cases action : e.action with
  | notify => exact ⟨rfl, .refl _ _ _⟩
  | outHigh o => exact out _ o _
  | outLow o => exact out _ o _
  | outPulse o w => exact out _ o _
  | outClear o => exact out _ o _
  | capture =>
    exact ⟨(s.logCapture_reach x .compare e.target).vEvents, s.logCapture_told x .compare e.target trivial⟩
  | triggerGen g =>
    have armed := starts g action
    dsimp only
    split
    · by_cases lost : (s.gen g).state = .stopping ∨ (s.gen g).state = .halted
      · rw [State.trigger_lost .compare lost]
        exact ⟨State.postGen_vEvents _ _ _, State.postHolder_told _ _ trivial⟩
      · rw [State.trigger_kept .compare armed (fun k => lost (.inl k)) fun k => lost (.inr k)]
        split
        · exact ⟨State.postGen_vEvents _ _ _, State.postHolder_told _ _ trivial⟩
        · exact ⟨rfl, .of_ports _ _ rfl rfl⟩
    · exact ⟨rfl, .refl _ _ _⟩

theorem State.Unfired.starts (k : State.Unfired x m t) (starts : ∀ g, c.action = .triggerGen g → (m.gen g).state ≠ .armed) :
    ∀ g, c.action = .triggerGen g → (t.gen g).state ≠ .armed := fun g action armed => by
  rcases (k.gens g).state with same | ⟨-, idle⟩
  · exact starts g action (same.symm.trans armed)
  · rw [armed] at idle
    cases idle

/-- The one due entry hands over no event of axis V, where it starts no move. -/
theorem State.movedParts_events (free : m.FollowersFree) (due : m.dueEntries x d = [c])
    (starts : ∀ g, c.action = .triggerGen g → (m.gen g).state ≠ .armed) :
    (takeParts (m.movedParts x d rollover) m).vEvents = m.vEvents :=
  State.movedParts_fired (fun t => t.vEvents = m.vEvents) free due
    (fun t k _ => (t.fire_vEvents x d c).trans ((State.fireAction_quiet (k.starts starts) x).1.trans k.events)) (fun _ k => k)
    (fun t k => (t.camEvent_reach x rollover).vEvents.trans k) fun t g k => (t.followEvent_vEvents x d g).trans k

/-! ### The notice (R58) -/

/-- The result of an action, by the state it finds (R55 to R58). -/
theorem State.fireAction_result (s : State) (x : AxisId) (e : CompareEntry) :
    (s.fireAction x e).2 =
      match e.action with
      | .notify => .done
      | .outHigh o => if s.holds e.owner (.output o) then .done else .skippedNotOwner
      | .outLow o => if s.holds e.owner (.output o) then .done else .skippedNotOwner
      | .outPulse o _ => if s.holds e.owner (.output o) then .done else .skippedNotOwner
      | .outClear o => if s.holds e.owner (.output o) then .done else .skippedNotOwner
      | .triggerGen g => if s.holds e.owner (.generator g) then .done else .skippedNotOwner
      | .capture => if (s.axis x).log.length < 8 then .done else .logFull := by
  have out (o : OutputId) (f : Channel → Channel) :
      (s.outAction e.owner o f).2 = if s.holds e.owner (.output o) then .done else .skippedNotOwner := by
    unfold State.outAction
    split <;> rfl
  unfold State.fireAction
  cases e.action with
  | notify => rfl
  | outHigh o => exact out o _
  | outLow o => exact out o _
  | outPulse o w => exact out o _
  | outClear o => exact out o _
  | triggerGen g =>
    dsimp only
    split <;> rfl
  | capture =>
    dsimp only
    rw [State.logCapture_logged]
    exact if_congr decide_eq_true_iff rfl rfl

/-- COMPARE_FIRED of the one due entry, where it starts no move. -/
theorem State.movedParts_posted (free : m.FollowersFree) (due : m.dueEntries x d = [c])
    (starts : ∀ g, c.action = .triggerGen g → (m.gen g).state ≠ .armed) (isOpen : (m.session c.owner).isOpen = true)
    (room : (m.port c.owner).notices.items.length ≤ 8) :
    ((takeParts (m.movedParts x d rollover) m).port c.owner).Holds
      (c.firedNotice x (m.axis x) d (m.fireAction x c).2 (c.settle (m.axis x)).1 (c.settle (m.axis x)).2) := by
  refine State.movedParts_fired (fun t => (t.port c.owner).Holds
      (c.firedNotice x (m.axis x) d (m.fireAction x c).2 (c.settle (m.axis x)).1 (c.settle (m.axis x)).2)) free due
    (fun t k told => ?_) (fun _ k => k) (fun t k => ?_) fun t g k => ?_
  · have result : (t.fireAction x c).2 = (m.fireAction x c).2 := by
      rw [State.fireAction_result, State.fireAction_result, k.axis]
      simp only [k.holds_eq]
    have acted := (State.fireAction_quiet (k.starts starts) x).2
    have filed := State.setCompareList_told (t.fireAction x c).1 (fun _ => True) 0 x (refile c (c.settle (t.axis x)).2 (t.compareList x))
    have before := (told.trans acted).trans filed
    have length := before.length_le c.owner
    rw [State.fire_eq, ← k.axis, ← result]
    exact State.post_holds (by rw [before.session]; exact isOpen) (by omega) _
  · exact (t.camEvent_told x rollover).holds k
  · exact (t.followEvent_told x d g).holds k

end Sys2Proof.Machine
end

section
/-! SUPPORT. The statement of a count event at the pending commits and the compare list (R32, R53 to R60). -/

namespace Sys2Proof.Machine

variable {s t u m : State} {x : AxisId} {d : AxisDir} {a b : Axis} {p : PortId} {g h : GenId} {c e : CompareEntry} {rollover : Bool}

/-! ### When an entry is due, and what becomes of it (R53, R59) -/

theorem CompareEntry.due_iff (c : CompareEntry) (place : Int) (d : AxisDir) :
    c.due place d = true ↔ c.target = place ∧ (c.crossing = .either ∨ (c.crossing = .up ↔ d = .forward)) := by
  unfold CompareEntry.due
  rw [Bool.and_eq_true, decide_eq_true_eq]
  refine and_congr_right fun _ => ?_
  cases c.crossing <;> cases d <;> decide

theorem Axis.inRange_iff (a : Axis) (y : Int) :
    a.inRange y = true ↔
      match a.mode with
      | .linear => -2000000000 ≤ y ∧ y ≤ 2000000000
      | .rotary => -32768 * (a.cycle : Int) ≤ y ∧ y ≤ 32767 * (a.cycle : Int) + a.cycle - 1 := by
  unfold Axis.inRange
  cases a.mode with
  | linear => exact inCountRange_iff y
  | rotary => rw [Bool.and_eq_true, decide_eq_true_eq, decide_eq_true_eq]

theorem Axis.turnOf_eq (a : Axis) (y : Int) : a.turnOf y = match a.mode with | .linear => 0 | .rotary => y / a.cycle := by
  unfold Axis.turnOf
  rw [Int.fdiv_eq_ediv_of_nonneg _ (Int.natCast_nonneg _)]
  cases a.mode <;> rfl

theorem Axis.positionOf_eq (a : Axis) (y : Int) : a.positionOf y = match a.mode with | .linear => y | .rotary => y % a.cycle := by
  unfold Axis.positionOf
  rw [Int.fmod_eq_emod_of_nonneg _ (Int.natCast_nonneg _)]
  cases a.mode <;> rfl

theorem CompareEntry.settle_last {r : CompareRepeat} (rep : c.rep = some r) (last : r.remaining ≤ 1) (a : Axis) :
    c.settle a = (.repeatEnded, none) := by
  unfold CompareEntry.settle
  rw [rep]
  exact if_pos last

theorem CompareEntry.settle_outside {r : CompareRepeat} (rep : c.rep = some r) (more : 2 ≤ r.remaining)
    (outside : a.inRange (c.target + r.step) = false) : c.settle a = (.rangeEnded, none) := by
  unfold CompareEntry.settle
  rw [rep]
  dsimp only
  rw [if_neg (by omega), if_neg (Bool.eq_false_iff.mp outside)]

theorem CompareEntry.settle_rearmed {r : CompareRepeat} (rep : c.rep = some r) (more : 2 ≤ r.remaining)
    (inside : a.inRange (c.target + r.step) = true) :
    c.settle a =
      (.reArmed, some
        { c with
          target := c.target + r.step
          rep := some { step := r.step, remaining := if r.remaining < 65535 then r.remaining - 1 else r.remaining } }) := by
  have left : (if 65535 ≤ r.remaining then r.remaining else r.remaining - 1) =
      if r.remaining < 65535 then r.remaining - 1 else r.remaining := by
    split <;> split <;> omega
  unfold CompareEntry.settle
  rw [rep]
  dsimp only
  rw [if_neg (by omega), if_pos inside, left]

/-! ### A list with one due entry -/

theorem removeId_middle {low high : List CompareEntry} (ids : ((low ++ [c] ++ high).map CompareEntry.id).Nodup) :
    removeId c.id (low ++ [c] ++ high) = low ++ high := by
  have others (e : CompareEntry) (mem : e ∈ low ++ high) : e.id ≠ c.id := by
    intro same
    rw [List.append_assoc] at ids
    have perm := (List.perm_middle (a := c) (l₁ := low) (l₂ := high)).map CompareEntry.id
    have fresh := (List.nodup_cons.mp (perm.nodup_iff.mp ids)).1
    rw [← same] at fresh
    exact fresh (List.mem_map_of_mem mem)
  have keeps (l : List CompareEntry) (sub : ∀ e ∈ l, e ∈ low ++ high) : l.filter (fun e => decide (e.id ≠ c.id)) = l :=
    List.filter_eq_self.mpr fun e mem => decide_eq_true (others e (sub e mem))
  unfold removeId
  rw [List.filter_append, List.filter_append, keeps low fun e mem => List.mem_append_left _ mem,
    keeps high fun e mem => List.mem_append_right _ mem, List.filter_cons_of_neg (by simp), List.filter_nil, List.append_nil]

theorem State.dueEntries_middle {low high : List CompareEntry} (list : s.compareList x = low ++ [c] ++ high)
    (due : c.due (s.axis x).extended d = true) (others : ∀ e ∈ low ++ high, e.due (s.axis x).extended d = false) : s.dueEntries x d = [c] := by
  have empty (l : List CompareEntry) (sub : ∀ e ∈ l, e ∈ low ++ high) : l.filter (fun e => e.due (s.axis x).extended d) = [] :=
    List.filter_eq_nil_iff.mpr fun e mem => Bool.eq_false_iff.mp (others e (sub e mem))
  have one : [c].filter (fun e => e.due (s.axis x).extended d) = [c] := List.filter_eq_self.mpr fun e mem => List.mem_singleton.mp mem ▸ due
  unfold State.dueEntries
  rw [list, List.filter_append, List.filter_append, empty low fun e mem => List.mem_append_left _ mem,
    empty high fun e mem => List.mem_append_right _ mem, one, List.nil_append, List.append_nil]

/-- An entry taken out and put in again at another target, in target order behind its equals (R60). -/
theorem refile_again {low high : List CompareEntry} (ids : ((low ++ [c] ++ high).map CompareEntry.id).Nodup)
    (ordered : (low ++ [c] ++ high).Pairwise fun f h => f.target ≤ h.target) (again : CompareEntry) :
    ∃ l h, low ++ high = l ++ h ∧ (∀ f ∈ l, f.target ≤ again.target) ∧ (∀ f ∈ h, again.target < f.target) ∧
      refile c (some again) (low ++ [c] ++ high) = l ++ [again] ++ h := by
  have rest : (low ++ high).Pairwise fun f h => f.target ≤ h.target := by
    rw [List.append_assoc] at ordered
    exact ordered.sublist ((List.sublist_append_right _ _).append_left _)
  obtain ⟨l, h, same, inserted, below, above⟩ := insertEntry_split again rest
  refine ⟨l, h, same, below, above, ?_⟩
  unfold refile
  rw [removeId_middle ids]
  exact inserted

/-- Where the one due entry starts no ARMED move, axis V has no event to take after it (R56). -/
theorem State.movedParts_drained (free : m.FollowersFree) (due : m.dueEntries x d = [c])
    (starts : ∀ g, c.action = .triggerGen g → (m.gen g).state ≠ .armed) (settled : m.vEvents = []) :
    (takeParts (m.movedParts x d rollover) m).drain = takeParts (m.movedParts x d rollover) m :=
  State.drain_settled _ ((State.movedParts_events free due starts).trans settled)

/-- The axis's log after CAPTURE, by the room it finds (R57). -/
theorem Axis.logged_cases (a : Axis) (source : CaptureSource) (place : Int) (now : Word) :
    if a.log.length < 8 then
      (a.logged source place now).log = a.log ++ [{ source := source, position := place, velocity := a.velocity, time := now }]
    else (a.logged source place now).log = a.log ∧ (a.logged source place now).lost = min (a.lost + 1) 65535 := by
  by_cases room : a.log.length < 8
  · have logged : a.logged source place now = { a with log := a.log ++ [a.recordAt source place now] } := if_pos room
    rw [if_pos room, logged]
    rfl
  · have logged : a.logged source place now = { a with lost := count16 (a.lost + 1), lossReported := true } := if_neg room
    rw [if_neg room, logged]
    exact ⟨rfl, rfl⟩

/-- Settles O54: the commits of a rollover, the entries that fire, and the one due entry by its action. -/
theorem countEventReachesCommitsAndCompares : Obligations.CountEventReachesCommitsAndCompares := by
  refine ⟨fun s e phase1 phase2 d lawful event counting => ?_, fun s e phase1 phase2 d lawful event counting => ?_⟩
  · obtain ⟨t, run, same, turned⟩ := exec_encoderTransition_commits lawful event counting
    refine ⟨t, run, same, fun other p => ⟨(turned other p).1, fun commit => ⟨((turned other p).2 commit).1, fun none_due room => ?_⟩⟩⟩
    have reported := ((turned other p).2 commit).2 none_due room
    have count : s.commitCount p e.axis =
        (s.slots.toList.filter fun w =>
          decide (w.axis = e.axis) && s.holds p (.output w.output) &&
            decide (w.status = .staged ∨ w.status = .liveEdited ∨ w.status = .retiring)).length := by
      unfold State.commitCount
      refine congrArg List.length (List.filter_congr fun w _ => ?_)
      unfold State.ownWindow
      rw [SlotStatus.changes_eq]
      cases w.status <;> simp
    rw [count] at reported
    exact reported
  · intro a dir there due
    let x := e.axis
    let l := s.levelled e { phase1 := phase1, phase2 := phase2 }
    have apart : State.Apart x (l.countEvent x dir) (l.countEvent x dir).drain := (State.drain_beside _).apart x (Encoder.axis_ne_v e)
    refine ⟨_, exec_encoderTransition event, fun counts => ?_⟩
    cases moves : a.advance dir with
    | none =>
      have parts : l.countEvent x dir = takeParts ((l.overrun x dir).overrunParts x dir) (l.overrun x dir) :=
        State.countEvent_overruns (s := l) counting moves
      have part := (State.takeParts_part _ (State.overrunParts_part (l.overrun x dir) x dir) (l.overrun x dir)).axis
      rw [← parts, State.overrun_axis] at part
      have passed : ((l.countEvent x dir).drain.axis x).status = .overrange := (congrArg Axis.status (apart.axis.trans part)).trans rfl
      exact absurd (counts.symm.trans passed) (show AxisStatus.counting ≠ .overrange from nofun)
    | some place =>
      obtain ⟨turn, position, rollover⟩ := place
      obtain ⟨-, forward⟩ := Axis.advance_extended (lawful.axes.each x) moves
      let m := l.movedTo x dir turn position
      have parts : l.countEvent x dir = takeParts (m.movedParts x dir rollover) m := State.countEvent_moves (s := l) counting moves
      have moved : m.axis x = { a.counted dir with turn := turn, position := position } := l.movedTo_axis x dir turn position
      have extended : (m.axis x).extended = there := by
        rw [moved]
        exact forward.trans (congrArg (fun i => a.extended + i) dir.count_eq)
      have part := (State.takeParts_part _ (State.movedParts_part m x dir rollover) m).axis
      rw [← parts] at part
      have axis := apart.axis.trans part
      have list : (l.countEvent x dir).drain.compareList x = firedList (m.axis x) (m.dueEntries x dir) (s.compareList x) := by
        rw [apart.compares, parts]
        exact m.movedParts_list x dir rollover
      have ids := ((s.ids_differ_iff.mp lawful.pool.ids_differ).1 x)
      have due_mem {c : CompareEntry} (mem : c ∈ m.dueEntries x dir) : c ∈ s.compareList x ∧ c.target = there := by
        obtain ⟨on, is_due⟩ := List.mem_filter.mp mem
        exact ⟨on, extended ▸ ((c.due_iff _ dir).mp is_due).1⟩
      have due_eq (c : CompareEntry) : c.due (m.axis x).extended dir = true ↔ due c := by
        rw [extended]
        exact c.due_iff there dir
      refine ⟨?_, fun c mem is_due once => ?_, fun c mem off => ?_, fun c low high split is_due others => ?_⟩
      · rw [← extended, axis]
        rfl
      · rw [list]
        refine firedList_gone (List.mem_filter.mpr ⟨mem, (due_eq c).mpr is_due⟩) (fun f hf same => ?_) _
        rw [List.inj_on_of_nodup_map ids (due_mem hf).1 mem same]
        exact once
      · rw [list]
        refine mem_firedList mem (fun f hf same => off ?_) _
        rw [List.inj_on_of_nodup_map ids mem (due_mem hf).1 same]
        exact (due_mem hf).2
      · intro inRange holds sets fired result
        have middle : c ∈ s.compareList x := split ▸ List.mem_append_left _ (List.mem_append_right _ (.head _))
        have target : c.target = there := is_due.1
        have one : m.dueEntries x dir = [c] :=
          State.dueEntries_middle split ((due_eq c).mpr is_due) fun f hf => Bool.eq_false_iff.mpr fun k => others f hf ((due_eq f).mp k)
        have free : m.FollowersFree := lawful.followersFree
        have left : removeId c.id (s.compareList x) = low ++ high := by
          rw [split]
          exact removeId_middle (split ▸ ids)
        have refiled : (l.countEvent x dir).drain.compareList x = refile c (c.settle (m.axis x)).2 (s.compareList x) := by
          rw [list, one]
          rfl
        have undrained (starts : ∀ g, c.action = .triggerGen g → (s.gen g).state ≠ .armed) :
            (l.countEvent x dir).drain = takeParts (m.movedParts x dir rollover) m := by
          rw [parts]
          exact State.movedParts_drained free one starts lawful.settled.no_events
        have output {o : OutputId} {f : Channel → Channel} {overlay : Overlay} {pulse : Option Nat}
            (noTrigger : ∀ g, c.action ≠ .triggerGen g) (action : ∀ t : State, t.fireAction x c = t.outAction c.owner o f)
            (becomes : ∀ ch, (f ch).overlay = overlay ∧ (f ch).pulse = pulse) : sets o overlay pulse := by
          have acts := State.movedParts_output (rollover := rollover) free one action becomes
          rw [← undrained fun g k => absurd k (noTrigger g)] at acts
          exact acts
        have notice (again : Option CompareEntry) (disposition : Disposition) (settles : c.settle (m.axis x) = (disposition, again))
            (room : (s.port c.owner).notices.items.length ≤ 8) (starts : ∀ g, c.action = .triggerGen g → (s.gen g).state ≠ .armed) :
            ((l.countEvent x dir).drain.port c.owner).Holds (c.firedNotice x (m.axis x) dir result disposition again) := by
          have posted := State.movedParts_posted (rollover := rollover) free one starts (lawful.pool.owners_open x c middle) room
          rw [settles, State.fireAction_result, ← undrained starts] at posted
          have log : (m.axis x).log = a.log := by rw [moved]; rfl
          rw [log] at posted
          exact posted
        have removed (disposition : Disposition) (settles : c.settle (m.axis x) = (disposition, none)) :
            (l.countEvent x dir).drain.compareList x = low ++ high ∧ fired result disposition 0 0 0 := by
          refine ⟨?_, fun room starts => ?_⟩
          · rw [refiled, settles]
            exact left
          · have posted := notice none disposition settles room starts
            unfold CompareEntry.firedNotice at posted
            rw [target] at posted
            exact posted
        have range (y : Int) : (m.axis x).inRange y = true ↔ inRange y := by
          rw [Axis.inRange_iff, moved]
          rfl
        refine ⟨fun o action => ?_, fun o action => ?_, fun o w action => ?_, fun o action => ?_, fun g action held armed stopping halted => ?_,
          fun action => ?_, fun rep => removed _ (c.settle_once rep _), fun r rep => ⟨fun last => removed _ (CompareEntry.settle_last rep last _),
            fun more outside => removed _ (CompareEntry.settle_outside rep more ?_), fun more inside => ?_⟩⟩
        · exact output (by rw [action]; nofun) (fun t => by unfold State.fireAction; rw [action]) fun _ => ⟨rfl, rfl⟩
        · exact output (by rw [action]; nofun) (fun t => by unfold State.fireAction; rw [action]) fun _ => ⟨rfl, rfl⟩
        · exact output (by rw [action]; nofun) (fun t => by unfold State.fireAction; rw [action]) fun _ => ⟨rfl, rfl⟩
        · exact output (by rw [action]; nofun) (fun t => by unfold State.fireAction; rw [action]) fun _ => ⟨rfl, rfl⟩
        · rw [undrained fun h k => CompareAction.triggerGen.inj (action.symm.trans k) ▸ armed]
          exact State.movedParts_triggered free one action held armed stopping halted
        · have logged := State.movedParts_logged (rollover := rollover) free one action
          rw [← parts] at logged
          rw [apart.axis, logged, target]
          have cases' := (m.axis x).logged_cases .compare there s.now
          have log : (m.axis x).log = a.log := by rw [moved]; rfl
          have velocity : (m.axis x).velocity = a.velocity := by rw [moved]; rfl
          have lost : (m.axis x).lost = a.lost := by rw [moved]; rfl
          rw [log, velocity, lost] at cases'
          exact cases'
        · rw [target]
          exact Bool.eq_false_iff.mpr fun k => outside ((range _).mp k)
        · have settles := CompareEntry.settle_rearmed (a := m.axis x) rep more ((range _).mpr (target ▸ inside))
          rw [target] at settles
          refine ⟨?_, fun room starts => ?_⟩
          · rw [refiled, settles, split]
            exact refile_again (split ▸ ids) (split ▸ lawful.pool.ordered x) _
          · have posted := notice _ _ settles room starts
            unfold CompareEntry.firedNotice at posted
            dsimp only at posted
            rw [target, Axis.turnOf_eq, Axis.positionOf_eq, moved] at posted
            exact posted

end Sys2Proof.Machine
end

section
/-! SUPPORT. A change of halt in force at its receivers (R71, R108, R109, Tables 5.7 and 7.2). -/

namespace Sys2Proof.Machine

variable {s t u : State} {g h : GenId} {m : CurrentMove} {n : Generator} {p : PortId} {receivers : List HaltReceiver} {inForce b : Bool}

/-! ### The entry into halt at a generator (R108) -/

/-- A generator whose queue and trigger the entry into halt has flushed. -/
def Generator.haltFlushed (n : Generator) : Generator := { n with halt := true, queue := [], pendingTrigger := false }

/-- The state with a generator whose queue and trigger the entry into halt has flushed. -/
def State.haltFlushed (s : State) (g : GenId) : State := (s.modGen g fun n => { n with halt := true }).flushAll g

theorem State.haltFlushed_gen (s : State) (g : GenId) : (s.haltFlushed g).gen g = (s.gen g).haltFlushed := by
  unfold State.haltFlushed
  rw [State.flushAll_gen, State.modGen_gen_same]
  rfl

theorem State.haltFlushed_told (s : State) (g : GenId) : State.Told (fun _ => True) 1 s (s.haltFlushed g) :=
  ((s.modGen_only g _).trans (State.flushAll_only _ g)).told.weaken fun _ _ => trivial

theorem State.haltFlushed_holds (s : State) (g : GenId) (p : PortId) (r : Resource) : (s.haltFlushed g).holds p r = s.holds p r := by
  have claims : (s.haltFlushed g).claims = s.claims := State.flush_claims _ g
  unfold State.holds State.holder
  rw [State.claim_congr claims]

/-- The end of a move in halt, with no record waiting: HALTED, and one notice (R92, R108). -/
theorem State.endMove_halted (empty : (s.gen g).queue = []) (halt : (s.gen g).halt = true) (cause : EndCause) :
    s.endMove g cause = (s.closeMove g cause).modGen g fun n => { n with state := .halted } := by
  have closed : ((s.closeMove g cause).gen g).halt = true := by
    cases hm : (s.gen g).current with
    | none => rw [show s.closeMove g cause = s from State.closeMove_none _ _ _ hm]; exact halt
    | some m => rw [State.closeMove_gen _ _ _ hm]; exact halt
  unfold State.endMove
  rw [State.nextMove_empty _ g (by rw [State.closeMove_queue]; exact empty)]
  unfold State.settle
  rw [if_pos closed]

theorem State.endMove_halted_told (empty : (s.gen g).queue = []) (halt : (s.gen g).halt = true) (cause : EndCause) :
    State.Told (fun _ => True) 1 s (s.endMove g cause) := by
  rw [State.endMove_halted empty halt]
  exact ((s.closeMove_only g cause).trans (State.modGen_only _ g _)).told.weaken fun _ _ => trivial

/-- The entry into halt by the state it finds (Table 5.7), the move of a generator in motion at its floor or above it. -/
theorem State.haltEntry_cases (lawful : (s.gen g).Lawful b) :
    ((s.gen g).state = .idle ∧ s.haltEntry g = (s.haltFlushed g).modGen g fun n => { n with state := .halted }) ∨
    ((s.gen g).state = .stopping ∧ s.haltEntry g = (s.haltFlushed g).modGen g fun n => { n with stopRate := some .halt }) ∨
    ((s.gen g).state = .halted ∧ s.haltEntry g = s.haltFlushed g) ∨
    ∃ m, (s.gen g).current = some m ∧
      (((s.gen g).haltTaken = (s.gen g).haltFlushed.atStandstill .halted ∧
          (s.haltEntry g = (s.haltFlushed g).endMove g .halted ∨
            s.haltEntry g = ((s.haltFlushed g).modGen g fun n => n.braking .halt).endMove g .halted)) ∨
        ((s.gen g).haltTaken = (s.gen g).haltFlushed.braking .halt ∧
          s.haltEntry g = (s.haltFlushed g).modGen g fun n => n.braking .halt)) := by
  have moving (rest : (s.gen g).state.atRest = false) : ∃ m, (s.gen g).current = some m := by
    obtain ⟨m, hm, -⟩ := lawful.current_of_not_atRest rest
    exact ⟨m, hm⟩
  have ends (state : (s.gen g).state = .armed ∨ (s.gen g).state = .dwelling ∨ (s.gen g).state = .following) :
      ∃ m, (s.gen g).current = some m ∧ (s.gen g).haltTaken = (s.gen g).haltFlushed.atStandstill .halted ∧
        s.haltEntry g = (s.haltFlushed g).endMove g .halted := by
    obtain ⟨m, hm⟩ := moving (by rcases state with e | e | e <;> rw [e] <;> rfl)
    refine ⟨m, hm, ?_, ?_⟩
    · unfold Generator.haltTaken
      rcases state with e | e | e <;> rw [e] <;> rfl
    · unfold State.haltEntry
      rcases state with e | e | e <;> rw [e] <;> rfl
  have brakes (state : (s.gen g).state = .running ∨ (s.gen g).state = .searching) :
      ∃ m, (s.gen g).current = some m ∧
        (((s.gen g).haltTaken = (s.gen g).haltFlushed.atStandstill .halted ∧
          s.haltEntry g = ((s.haltFlushed g).modGen g fun n => n.braking .halt).endMove g .halted) ∨
        ((s.gen g).haltTaken = (s.gen g).haltFlushed.braking .halt ∧
          s.haltEntry g = (s.haltFlushed g).modGen g fun n => n.braking .halt)) := by
    obtain ⟨m, hm⟩ := moving (by rcases state with e | e <;> rw [e] <;> rfl)
    have gen := s.haltFlushed_gen g
    have current : ((s.haltFlushed g).gen g).current = some m := by rw [gen]; exact hm
    have entry : s.haltEntry g = State.thenNext ((s.haltFlushed g).brake g .halt) g := by
      unfold State.haltEntry
      rcases state with e | e <;> rw [e] <;> rfl
    have taken : (s.gen g).haltTaken =
        if m.record.kind.floor < (s.gen g).speed then (s.gen g).haltFlushed.braking .halt
        else (s.gen g).haltFlushed.atStandstill .halted := by
      have floor : ((s.gen g).current.any fun m => decide (m.record.kind.floor < (s.gen g).speed)) =
          decide (m.record.kind.floor < (s.gen g).speed) := by rw [hm]; rfl
      unfold Generator.haltTaken
      rw [floor]
      rcases state with e | e <;> rw [e] <;> exact if_congr decide_eq_true_iff rfl rfl
    refine ⟨m, hm, ?_⟩
    by_cases above : m.record.kind.floor < (s.gen g).speed
    · refine .inr ⟨by rw [taken, if_pos above], ?_⟩
      rw [entry, State.brake_slows current (by rw [gen]; exact above)]
      rfl
    · refine .inl ⟨by rw [taken, if_neg above], ?_⟩
      rw [entry, State.brake_ends current (by rw [gen]; exact Nat.not_lt.mp above)]
      rfl
  cases state : (s.gen g).state with
  | idle => exact .inl ⟨rfl, by unfold State.haltEntry; rw [state]; rfl⟩
  | stopping => exact .inr (.inl ⟨rfl, by unfold State.haltEntry; rw [state]; rfl⟩)
  | halted => exact .inr (.inr (.inl ⟨rfl, by unfold State.haltEntry; rw [state]; rfl⟩))
  | armed =>
    obtain ⟨m, hm, taken, entry⟩ := ends (.inl state)
    exact .inr (.inr (.inr ⟨m, hm, .inl ⟨taken, .inl entry⟩⟩))
  | dwelling =>
    obtain ⟨m, hm, taken, entry⟩ := ends (.inr (.inl state))
    exact .inr (.inr (.inr ⟨m, hm, .inl ⟨taken, .inl entry⟩⟩))
  | following =>
    obtain ⟨m, hm, taken, entry⟩ := ends (.inr (.inr state))
    exact .inr (.inr (.inr ⟨m, hm, .inl ⟨taken, .inl entry⟩⟩))
  | running =>
    obtain ⟨m, hm, k⟩ := brakes (.inl state)
    exact .inr (.inr (.inr ⟨m, hm, k.imp (fun ⟨taken, entry⟩ => ⟨taken, .inr entry⟩) id⟩))
  | searching =>
    obtain ⟨m, hm, k⟩ := brakes (.inr state)
    exact .inr (.inr (.inr ⟨m, hm, k.imp (fun ⟨taken, entry⟩ => ⟨taken, .inr entry⟩) id⟩))

/-- The record of a generator that has taken the entry into halt (R108, Table 5.7). -/
theorem State.haltEntry_gen (lawful : (s.gen g).Lawful b) : (s.haltEntry g).gen g = (s.gen g).haltTaken := by
  have gen := s.haltFlushed_gen g
  rcases State.haltEntry_cases lawful with ⟨state, entry⟩ | ⟨state, entry⟩ | ⟨state, entry⟩ | ⟨m, hm, ⟨taken, entry⟩ | ⟨taken, entry⟩⟩
  · rw [entry, State.modGen_gen_same, gen]
    unfold Generator.haltTaken Generator.haltFlushed
    rw [state]
  · rw [entry, State.modGen_gen_same, gen]
    unfold Generator.haltTaken Generator.haltFlushed
    rw [state]
  · rw [entry, gen]
    unfold Generator.haltTaken Generator.haltFlushed
    rw [state]
  · rcases entry with entry | entry
    · rw [entry, taken, State.endMove_gen (m := m) (by rw [gen]; exact hm) (by rw [gen]; rfl) (fun _ => .inl (by rw [gen]; rfl)), gen]
      rfl
    · have braking : ((s.haltFlushed g).modGen g fun n => n.braking .halt).gen g = (s.gen g).haltFlushed.braking .halt := by
        rw [State.modGen_gen_same, gen]
      rw [entry, taken, State.endMove_gen (m := m) (by rw [braking]; exact hm) (by rw [braking]; rfl)
        (fun _ => .inl (by rw [braking]; rfl)), braking]
      rfl
  · rw [entry, taken, State.modGen_gen_same, gen]

/-- The entry into halt posts QUEUE_FLUSHED and MOVE_ENDED at most. -/
theorem State.haltEntry_told (lawful : (s.gen g).Lawful b) : State.Told (fun _ => True) 2 s (s.haltEntry g) := by
  have gen := s.haltFlushed_gen g
  have flushed := s.haltFlushed_told g
  have set (f : Generator → Generator) : State.Told (fun _ => True) 0 (s.haltFlushed g) ((s.haltFlushed g).modGen g f) :=
    .of_ports _ _ rfl rfl
  rcases State.haltEntry_cases lawful with ⟨-, entry⟩ | ⟨-, entry⟩ | ⟨-, entry⟩ | ⟨m, hm, ⟨-, entry⟩ | ⟨-, entry⟩⟩
  · rw [entry]; exact (flushed.trans (set _)).mono (by decide)
  · rw [entry]; exact (flushed.trans (set _)).mono (by decide)
  · rw [entry]; exact flushed.mono (by decide)
  · rcases entry with entry | entry
    · rw [entry]
      exact flushed.trans (State.endMove_halted_told (by rw [gen]; rfl) (by rw [gen]; rfl) _)
    · have braking : ((s.haltFlushed g).modGen g fun n => n.braking .halt).gen g = (s.gen g).haltFlushed.braking .halt := by
        rw [State.modGen_gen_same, gen]
      rw [entry]
      exact (flushed.trans (set fun n => n.braking .halt)).trans
        (State.endMove_halted_told (by rw [braking]; rfl) (by rw [braking]; rfl) _)
  · rw [entry]; exact (flushed.trans (set _)).mono (by decide)

/-- A move that the entry into halt ends, with the notice of it in the holder's queue (R108). -/
theorem State.haltEntry_ended (lawful : (s.gen g).Lawful b) (hm : (s.gen g).current = some m) (halted : (s.gen g).haltTaken.state = .halted)
    (held : s.holds p (.generator g) = true) (isOpen : (s.session p).isOpen = true) (room : (s.port p).notices.items.length < 23) :
    ((s.haltEntry g).port p).Holds
      (.moveEnded g m.record.tag m.record.kind .halted (s.gen g).counter m.started (m.endSearch .halted)) := by
  have gen := s.haltFlushed_gen g
  have flushed := s.haltFlushed_told g
  have held' : (s.haltFlushed g).holds p (.generator g) = true := by rw [State.haltFlushed_holds]; exact held
  have length := flushed.length_le p
  have ended (v : State) (same : v.ports = (s.haltFlushed g).ports) (claims : v.claims = (s.haltFlushed g).claims)
      (current : (v.gen g).current = some m) (counter : (v.gen g).counter = (s.gen g).counter) :
      ((v.endMove g .halted).port p).Holds
        (.moveEnded g m.record.tag m.record.kind .halted (s.gen g).counter m.started (m.endSearch .halted)) := by
    have port : v.port p = (s.haltFlushed g).port p := State.port_congr same p
    rw [← counter]
    refine State.endMove_told current ?_ ?_ ?_ .halted
    · unfold State.holds State.holder at held' ⊢
      rw [State.claim_congr claims]
      exact held'
    · unfold State.session
      rw [port]
      exact (congrArg Session.isOpen (flushed.session p)).trans isOpen
    · rw [port]
      omega
  rcases State.haltEntry_cases lawful with ⟨state, -⟩ | ⟨state, -⟩ | ⟨state, -⟩ | ⟨m', hm', ⟨-, entry⟩ | ⟨taken, -⟩⟩
  · rw [(lawful.atRest_empty (by rw [state]; rfl)).1] at hm
    cases hm
  · unfold Generator.haltTaken at halted
    rw [state] at halted
    cases halted
  · rw [(lawful.atRest_empty (by rw [state]; rfl)).1] at hm
    cases hm
  · rcases entry with entry | entry
    · rw [entry]
      exact ended _ rfl rfl (by rw [gen]; exact hm) (by rw [gen]; rfl)
    · rw [entry]
      exact ended _ rfl rfl (by rw [State.modGen_gen_same, gen]; exact hm) (by rw [State.modGen_gen_same, gen]; rfl)
  · rw [taken] at halted
    exact absurd halted (show GenState.stopping ≠ .halted from nofun)

/-! ### The clear at a generator (R109) -/

/-- A generator that has taken a clear. -/
def Generator.clearTaken (n : Generator) : Generator := { n with halt := false, state := if n.state = .halted then .idle else n.state }

theorem State.haltClear_gen (lawful : (s.gen g).Lawful b) : (s.haltClear g).gen g = (s.gen g).clearTaken := by
  unfold State.haltClear Generator.clearTaken
  dsimp only
  by_cases halted : (s.gen g).state = .halted
  · rw [if_pos halted, if_pos halted, State.reportIdle_gen, State.modGen_gen_same, State.modGen_gen_same]
    split
    · rw [← lawful.stopped_no_trigger (.inl halted)]
    · rfl
  · rw [if_neg halted, if_neg halted, State.modGen_gen_same]

/-! ### The parts of a change at the generators -/

/-- What a generator comes to as it takes a change of halt in force (R108, R109). -/
def Generator.takesHalt (n : Generator) (inForce : Bool) : Generator := if inForce then n.haltTaken else n.clearTaken

theorem State.haltPart_gen (lawful : (s.gen g).Lawful b) (inForce : Bool) :
    (if inForce then s.haltEntry g else s.haltClear g).gen g = (s.gen g).takesHalt inForce := by
  cases inForce
  · exact State.haltClear_gen lawful
  · exact State.haltEntry_gen lawful

theorem State.haltPart_told (lawful : (s.gen g).Lawful b) (inForce : Bool) :
    State.Told (fun _ => True) 2 s (if inForce then s.haltEntry g else s.haltClear g) := by
  cases inForce
  · exact ((s.haltClear_only g).told.mono (by decide)).weaken fun _ _ => trivial
  · exact State.haltEntry_told lawful

end Sys2Proof.Machine
end

section
/-! SUPPORT. The parts of a change of halt in force together: what each receiver comes to, and the notices (R127, R128). -/

namespace Sys2Proof.Machine

variable {s t u : State} {g h : GenId} {m : CurrentMove} {n : Generator} {p : PortId} {receivers : List HaltReceiver} {inForce b : Bool}
  {P : State → Prop}

/-- Parts taken in any order tell a port no more than all of them do. -/
theorem takeParts_told {parts : List (Bool × (State → State))} {k : Nat} (told : othersTold P parts k)
    (keeps : ∀ f ∈ parts, ∀ t, P t → P (f.2 t)) (chose : ∀ t, P t → P t.choose) (start : P s) :
    State.Told (fun _ => True) k s (takeParts parts s) := by
  obtain ⟨order, extra, perm, choose, eq⟩ := takeParts_order parts s
  have part (f : State → State) (hf : f ∈ order) : (∃ i ∈ parts, f = i.2) ∨ f = State.choose := by
    rcases List.mem_append.mp (perm.subset hf) with m | m
    · obtain ⟨i, hi, rfl⟩ := List.mem_map.mp m
      exact .inl ⟨i, hi, rfl⟩
    · exact .inr (choose f m)
  have most : (order.map (toldMost P)).sum ≤ k := by
    have quiet : (extra.map (toldMost P)).sum = 0 := by
      rw [List.sum_eq_zero_iff]
      intro c hc
      obtain ⟨f, hf, rfl⟩ := List.mem_map.mp hc
      rw [choose f hf, toldMost_choose]
    rw [(perm.map (toldMost P)).sum_eq, List.map_append, List.sum_append, quiet, List.map_map]
    exact told.2
  rw [eq]
  refine (inTurn_told order (fun f hf => ?_) (fun f hf => ?_) s start).mono most
  · rcases part f hf with ⟨i, hi, rfl⟩ | rfl
    · exact keeps i hi
    · exact chose
  · rcases part f hf with ⟨i, hi, rfl⟩ | rfl
    · exact told.1 i hi
    · exact ⟨0, fun _ _ => .of_ports _ _ rfl rfl⟩

/-! ### The parts at the generators -/

/-- Every generator keeps its law, with halt in force there as it may be. -/
def State.GensFit (s : State) : Prop := ∀ g, ∃ b, s.GenFits b g

theorem State.Sound.gensFit {gone : Option PortId} (h : s.Sound gone) : s.GensFit := fun g => ⟨_, h.gens g⟩

theorem State.GensFit.lawful (h : s.GensFit) (g : GenId) : ∃ b, (s.gen g).Lawful b := by
  obtain ⟨b, fits⟩ := h g
  exact ⟨b, fits.lawful⟩

theorem State.GensFit.congr (h : s.GensFit) (gens : t.gens = s.gens) (claims : t.claims = s.claims) : t.GensFit := fun g => by
  obtain ⟨b, fits⟩ := h g
  exact ⟨b, fits.congr (State.gen_congr gens g) (State.claim_congr claims _)⟩

theorem State.GensFit.haltPart (h : s.GensFit) (g : GenId) (inForce : Bool) :
    (if inForce then s.haltEntry g else s.haltClear g).GensFit := fun i => by
  by_cases same : i = g
  · subst same
    obtain ⟨b, fits⟩ := h i
    exact ⟨_, s.haltPart_fits i fits⟩
  · obtain ⟨b, fits⟩ := h i
    obtain ⟨_, only⟩ := s.haltPart_only g inForce
    exact ⟨b, only.fits_other same fits⟩

/-- The generators among receivers. -/
def haltGens (receivers : List HaltReceiver) : List GenId := allGens.filter fun g => decide (HaltReceiver.generator g ∈ receivers)

/-- The parts of a change of halt in force at generators. -/
def haltPartsOf (u : State) (inForce : Bool) (l : List GenId) : List (Bool × (State → State)) :=
  l.map fun g => (u.haltVisible g, fun t => if inForce then t.haltEntry g else t.haltClear g)

theorem State.haltParts_eq (u : State) (receivers : List HaltReceiver) (inForce : Bool) :
    u.haltParts receivers inForce = haltPartsOf u inForce (haltGens receivers) := rfl

theorem mem_haltGens : g ∈ haltGens receivers ↔ HaltReceiver.generator g ∈ receivers := by
  unfold haltGens
  rw [List.mem_filter, decide_eq_true_eq]
  exact and_iff_right (mem_allGens g)

/-- The generators among receivers with one of them picked out. -/
theorem haltGens_split (mem : HaltReceiver.generator g ∈ receivers) :
    ∃ before after, haltGens receivers = before ++ g :: after ∧ ∀ i ∈ before ++ after, i ≠ g := by
  obtain ⟨before, after, split⟩ := List.append_of_mem (mem_haltGens.mpr mem)
  have nodup : (haltGens receivers).Nodup := List.Nodup.filter _ (by decide : allGens.Nodup)
  rw [split] at nodup
  refine ⟨before, after, split, fun i hi => ?_⟩
  rintro rfl
  exact (List.nodup_middle.mp nodup).notMem hi

theorem haltPartsOf_told (u : State) (inForce : Bool) (l : List GenId) (fits : ∀ t, P t → t.GensFit) :
    othersTold P (haltPartsOf u inForce l) (2 * l.length) :=
  othersTold_map _ (fun g t k => by
    obtain ⟨b, lawful⟩ := (fits t k).lawful g
    exact State.haltPart_told lawful inForce) l

/-- A part of a change at a generator that another generator does not notice. -/
theorem haltPartsOf_past {l : List GenId} (others : ∀ i ∈ l, i ≠ g) (u : State) (inForce : Bool) :
    ∀ f ∈ haltPartsOf u inForce l, State.Past g f.2 := fun f hf => by
  obtain ⟨i, hi, rfl⟩ := List.mem_map.mp hf
  exact .of_only (others i hi) fun t => t.haltPart_only i inForce

theorem State.Past.of_ports {f : State → State} (quiet : ∀ t, PortsOnly t (f t)) : State.Past g f :=
  ⟨fun t => (quiet t).gen g, fun t => .of_eq (quiet t).claims⟩

/-- A part that posts one notice at most, and reaches the ports alone. -/
def State.Posting (f : State → State) : Prop := ∀ t, PortsOnly t (f t) ∧ State.Told (fun _ => True) 1 t (f t)

theorem State.Posting.othersTold {pre : List (Bool × (State → State))} (quiet : ∀ f ∈ pre, State.Posting f.2) :
    othersTold P pre pre.length := by
  induction pre with
  | nil => exact ⟨nofun, le_refl _⟩
  | cons f pre ih =>
    have more := othersTold_cons (b := f.1) (P := P) (fun t _ => (quiet f (.head _) t).2) (ih fun f hf => quiet f (.tail _ hf))
    exact ⟨more.1, more.2.trans (by rw [List.length_cons]; omega)⟩

/-- What a generator comes to with the parts of a change, some others reaching the ports alone. -/
theorem haltParts_gen {pre : List (Bool × (State → State))} (quiet : ∀ f ∈ pre, State.Posting f.2) (u : State)
    (receivers : List HaltReceiver) (inForce : Bool) (lawful : ∃ b, (s.gen g).Lawful b) :
    (takeParts (pre ++ u.haltParts receivers inForce) s).gen g =
      if HaltReceiver.generator g ∈ receivers then (s.gen g).takesHalt inForce else s.gen g := by
  have ports (f : Bool × (State → State)) (hf : f ∈ pre) : State.Past g f.2 := .of_ports fun t => (quiet f hf t).1
  rw [State.haltParts_eq]
  split <;> rename_i mem
  · obtain ⟨before, after, split, others⟩ := haltGens_split mem
    obtain ⟨b, lawful⟩ := lawful
    unfold haltPartsOf
    rw [split, List.map_append, List.map_cons, ← List.append_assoc]
    refine State.takeParts_gen (fun f hf => ?_) fun t same _ => ?_
    · rw [List.append_assoc, ← List.map_append] at hf
      rcases List.mem_append.mp hf with hf | hf
      · exact ports f hf
      · exact haltPartsOf_past others u inForce f hf
    · rw [State.haltPart_gen (by rw [same]; exact lawful), same]
  · refine takeParts_all (fun t => t.gen g = s.gen g) _ (fun f hf t k => ?_) (fun _ k => k) rfl
    rcases List.mem_append.mp hf with hf | hf
    · exact ((ports f hf).gen t).trans k
    · refine ((haltPartsOf_past (fun i hi => ?_) u inForce f hf).gen t).trans k
      rintro rfl
      exact mem (mem_haltGens.mp hi)

/-- MOVE_ENDED of a move that the entry into halt ends (R108). -/
theorem haltParts_ended {pre : List (Bool × (State → State))} (quiet : ∀ f ∈ pre, State.Posting f.2) (u : State) (fits : s.GensFit)
    (mem : HaltReceiver.generator g ∈ receivers)
    (hm : (s.gen g).current = some m) (halted : (s.gen g).haltTaken.state = .halted) (held : s.holds p (.generator g) = true)
    (isOpen : (s.session p).isOpen = true) (room : (s.port p).notices.items.length + pre.length + 2 * (haltGens receivers).length < 25) :
    ((takeParts (pre ++ u.haltParts receivers true) s).port p).Holds
      (.moveEnded g m.record.tag m.record.kind .halted (s.gen g).counter m.started (m.endSearch .halted)) := by
  obtain ⟨before, after, split, others⟩ := haltGens_split mem
  have count : (haltGens receivers).length = (before ++ after).length + 1 := by
    rw [split, List.length_append, List.length_append, List.length_cons]
    omega
  rw [State.haltParts_eq]
  unfold haltPartsOf
  rw [split, List.map_append, List.map_cons, ← List.append_assoc]
  have regroup (f : Bool × (State → State)) (hf : f ∈ pre ++ haltPartsOf u true before ++ haltPartsOf u true after) :
      (f ∈ pre ∨ f ∈ haltPartsOf u true (before ++ after)) := by
    unfold haltPartsOf at hf ⊢
    rw [List.append_assoc, ← List.map_append] at hf
    exact List.mem_append.mp hf
  have keeps (f : Bool × (State → State)) (hf : f ∈ pre ++ haltPartsOf u true before ++ haltPartsOf u true after) (t : State)
      (c : t.GensFit ∧ t.gen g = s.gen g ∧ s.ClaimsStand t) :
      (f.2 t).GensFit ∧ (f.2 t).gen g = s.gen g ∧ s.ClaimsStand (f.2 t) := by
    obtain ⟨fits, same, claims⟩ := c
    have past : State.Past g f.2 ∧ (f.2 t).GensFit := by
      rcases regroup f hf with hf | hf
      · exact ⟨.of_ports fun t => (quiet f hf t).1, fits.congr (quiet f hf t).1.gens (quiet f hf t).1.claims⟩
      · refine ⟨haltPartsOf_past others u true f hf, ?_⟩
        obtain ⟨i, -, rfl⟩ := List.mem_map.mp hf
        exact fits.haltPart i true
    exact ⟨past.2, (past.1.gen t).trans same, claims.trans (past.1.claims t)⟩
  have toldAll : othersTold (fun t : State => t.GensFit ∧ t.gen g = s.gen g ∧ s.ClaimsStand t)
      (pre ++ haltPartsOf u true before ++ haltPartsOf u true after) (pre.length + 2 * (before ++ after).length) := by
    rw [List.append_assoc]
    unfold haltPartsOf
    rw [← List.map_append]
    exact othersTold_append (State.Posting.othersTold quiet) (haltPartsOf_told u true _ fun _ c => c.1)
  refine takeParts_once_told (fun t => t.GensFit ∧ t.gen g = s.gen g ∧ s.ClaimsStand t)
    (fun t => (t.port p).Holds (.moveEnded g m.record.tag m.record.kind .halted (s.gen g).counter m.started (m.endSearch .halted)))
    _ _ _ toldAll keeps (fun f hf t c => ?_) (fun _ c => c) (fun _ c => c) (fun t told c => ?_) ⟨fits, rfl, .of_eq rfl⟩
  · rcases regroup f hf with hf | hf
    · exact (quiet f hf t).2.holds c
    · obtain ⟨i, -, rfl⟩ := List.mem_map.mp hf
      obtain ⟨_, only⟩ := t.haltPart_only i true
      exact only.told.holds c
  · obtain ⟨fits, same, claims⟩ := c
    obtain ⟨b, lawful⟩ := fits.lawful g
    have length := told.length_le p
    have ended := State.haltEntry_ended (p := p) lawful (by rw [same]; exact hm) (by rw [same]; exact halted) (claims.holds held)
      (by rw [told.session]; exact isOpen) (by omega)
    rw [same] at ended
    exact ended

end Sys2Proof.Machine
end

section
/-! SUPPORT. A hand-over of halt in force that goes on, and a change of the halt state, at every receiver (R127 to R129). -/

namespace Sys2Proof.Machine

variable {s t u : State} {g h : GenId} {m : CurrentMove} {p : PortId} {receivers late : List HaltReceiver} {inForce : Bool}
  {r : HaltReceiver} {gone : Option PortId}

/-! ### What the parts leave, and what they make of a receiver -/

theorem haltParts_stands {pre : List (Bool × (State → State))} (quiet : ∀ f ∈ pre, State.Posting f.2) (u : State)
    (receivers : List HaltReceiver) (inForce : Bool) (s : State) :
    MoveOnly s { takeParts (pre ++ u.haltParts receivers inForce) s with choices := s.choices } := by
  refine takeParts_all (fun t => MoveOnly s { t with choices := s.choices }) _ (fun f hf t c => c.trans ?_) (fun t c => c) (.refl s)
  rcases List.mem_append.mp hf with hf | hf
  · have eq := (quiet f hf t).1.eq
    refine ⟨?_⟩
    rw [eq]
  · obtain ⟨g, -, rfl⟩ := List.mem_map.mp hf
    obtain ⟨n, only⟩ := t.haltPart_only g inForce
    have eq := only.move.eq
    refine ⟨?_⟩
    dsimp only at eq ⊢
    rw [eq]

theorem State.took_output {o : OutputId}
    (same : t.channel o = { (s.channel o).takeHalt inForce with line := ((s.channel o).takeHalt inForce).effective }) :
    HaltReceiver.Took (.output o) s t inForce := by
  have level : ((s.channel o).takeHalt inForce).effective =
      if inForce then (s.channel o).fallback
      else
        match (s.channel o).overlay, (s.channel o).mode with
        | .high, _ => .high
        | .low, _ => .low
        | .none, .cam => if (s.channel o).cam then .high else .low
        | .none, .manual => (s.channel o).manual := by
    unfold Channel.effective Channel.takeHalt
    cases (s.channel o).overlay <;> cases (s.channel o).mode <;> rfl
  unfold HaltReceiver.Took
  dsimp only
  rw [same, level]
  rfl

theorem State.took_generator (same : t.gen g = (s.gen g).takesHalt inForce) : HaltReceiver.Took (.generator g) s t inForce := same

/-- A state in which the receivers of a list have taken a change, the others standing. -/
def State.TakesHalt (s t : State) (receivers : List HaltReceiver) (inForce : Bool) : Prop :=
  ∀ r : HaltReceiver, if r ∈ receivers then r.Took s t inForce else r.Stood s t

/-- The channels and generators among receivers take a change, with parts that reach the ports alone (R127). -/
theorem haltParts_takes {pre : List (Bool × (State → State))} (quiet : ∀ f ∈ pre, State.Posting f.2) (fits : s.GensFit) (u : State)
    (receivers : List HaltReceiver) (inForce : Bool) :
    s.TakesHalt (takeParts (pre ++ u.haltParts receivers inForce) (s.channelsTakeHalt receivers inForce)) receivers inForce := by
  intro r
  cases r with
  | output o =>
    have stands := (haltParts_stands quiet u receivers inForce (s.channelsTakeHalt receivers inForce)).channels
    have channel : (takeParts (pre ++ u.haltParts receivers inForce) (s.channelsTakeHalt receivers inForce)).channel o =
        (s.channelsTakeHalt receivers inForce).channel o := by
      unfold State.channel
      rw [show (takeParts (pre ++ u.haltParts receivers inForce) (s.channelsTakeHalt receivers inForce)).channels = _ from stands]
    rw [State.channelsTakeHalt_channel] at channel
    split at channel <;> rename_i mem
    · rw [if_pos mem]
      exact State.took_output channel
    · rw [if_neg mem]
      exact channel
  | generator g =>
    have gen := haltParts_gen quiet (s := s.channelsTakeHalt receivers inForce) u receivers inForce (fits.lawful g)
    split at gen <;> rename_i mem
    · rw [if_pos mem]
      exact State.took_generator gen
    · rw [if_neg mem]
      exact gen

theorem State.TakesHalt.of_eq (k : s.TakesHalt t receivers inForce) (channels : u.channels = t.channels) (gens : u.gens = t.gens) :
    s.TakesHalt u receivers inForce := fun r => by
  have stands := k r
  cases r with
  | output o =>
    have channel : u.channel o = t.channel o := by unfold State.channel; rw [channels]
    unfold HaltReceiver.Took HaltReceiver.Stood at stands ⊢
    dsimp only at stands ⊢
    rw [channel]
    exact stands
  | generator g =>
    unfold HaltReceiver.Took HaltReceiver.Stood at stands ⊢
    dsimp only at stands ⊢
    rw [State.gen_congr gens]
    exact stands

/-- Parts of a change tell a port one notice for each that posts, and two for each generator. -/
theorem haltParts_told {pre : List (Bool × (State → State))} (quiet : ∀ f ∈ pre, State.Posting f.2) (fits : s.GensFit) (u : State)
    (receivers : List HaltReceiver) (inForce : Bool) :
    State.Told (fun _ => True) (pre.length + 2 * (haltGens receivers).length) s (takeParts (pre ++ u.haltParts receivers inForce) s) := by
  refine takeParts_told (P := State.GensFit) (othersTold_append (State.Posting.othersTold quiet)
    (haltPartsOf_told u inForce _ fun _ c => c)) (fun f hf t c => ?_) (fun _ c => c.congr rfl rfl) fits
  rcases List.mem_append.mp hf with hf | hf
  · exact c.congr (quiet f hf t).1.gens (quiet f hf t).1.claims
  · obtain ⟨g, -, rfl⟩ := List.mem_map.mp hf
    exact c.haltPart g inForce

/-! ### A hand-over that goes on -/

theorem State.handOnTaken_parts (s : State) (late : List HaltReceiver) :
    s.handOnTaken late = takeParts ([] ++ (s.handOnChannels late).haltParts (s.firstOf late) s.halt.inForce) (s.handOnChannels late) := rfl

theorem State.handOnTaken_told (fits : s.GensFit) (late : List HaltReceiver) :
    State.Told (fun _ => True) (2 * (haltGens (s.firstOf late)).length) s (s.handOnTaken late) := by
  have channels : State.Told (fun _ => True) 0 s (s.handOnChannels late) := .of_ports _ _ rfl rfl
  have taken := haltParts_told (pre := []) (s := s.handOnChannels late) (List.forall_mem_nil _) (fits.congr rfl rfl) (s.handOnChannels late)
    (s.firstOf late) s.halt.inForce
  exact (channels.trans taken).mono (by rw [List.length_nil]; omega)

theorem State.handOnTaken_takes (fits : s.GensFit) (late : List HaltReceiver) :
    s.TakesHalt (s.handOnTaken late) (s.firstOf late) s.halt.inForce :=
  haltParts_takes (s := { s with handing := s.laterOf late }) (List.forall_mem_nil _) (fits.congr rfl rfl) (s.handOnChannels late) (s.firstOf late)
    s.halt.inForce

/-- The response to a Clear Halt leaves everything but the ports and its own waiting (R129). -/
theorem State.answerClear_eq (s : State) : s.answerClear = { s with clearing := none, ports := s.answerClear.ports } := by
  unfold State.answerClear
  split <;> rename_i waits
  · rw [← waits]
  · split <;> rfl

theorem State.answerClear_none (h : s.clearing = none) : s.answerClear = s := by
  unfold State.answerClear
  rw [h]

theorem State.answerClear_answers {k : Intake} {rest : List Intake} (waits : s.clearing = some p) (head : (s.port p).intake = k :: rest) :
    (s.answerClear.port p).Answers k.seq [0x71, 0x00, 0x00] := by
  unfold State.answerClear
  rw [waits]
  dsimp only
  rw [head]
  dsimp only
  unfold State.respond
  rw [State.modPort_port, if_pos rfl]
  split
  · exact .inl rfl
  · exact .inr rfl

theorem State.answerClear_notices (s : State) (q : PortId) :
    (s.answerClear.port q).notices = (s.port q).notices ∧ s.answerClear.session q = s.session q := by
  unfold State.answerClear
  split
  · exact ⟨rfl, rfl⟩
  · split
    · exact ⟨rfl, rfl⟩
    · unfold State.respond State.session
      rw [State.modPort_port]
      split
      · rename_i same
        subst same
        split <;> exact ⟨rfl, rfl⟩
      · exact ⟨rfl, rfl⟩

/-- What a hand-over that goes on brings about, its late receivers standing (R127, R129). -/
structure State.HandsOn (s t : State) (late : List HaltReceiver) : Prop where
  takes : s.TakesHalt t (s.firstOf late) s.halt.inForce
  handing : t.handing = s.laterOf late
  reach : HandOverOnly s t
  session : ∀ q, t.session q = s.session q
  told : ∀ q k, (s.port q).Holds k → (t.port q).Holds k
  room : ∀ q, (t.port q).notices.items.length ≤ (s.port q).notices.items.length + 2 * (haltGens (s.firstOf late)).length
  going : s.laterOf late ≠ [] → t.clearing = s.clearing
  ended : s.laterOf late = [] → t.clearing = none ∧
    ∀ (q : PortId) (k : Intake) (rest : List Intake), s.clearing = some q → (s.port q).intake = k :: rest →
      (t.port q).Answers k.seq [0x71, 0x00, 0x00]

theorem State.handOn_handsOn (fits : s.GensFit) (late : List HaltReceiver) : s.HandsOn (s.handOn late) late := by
  have taken := State.handOnTaken_takes fits late
  have told := State.handOnTaken_told fits late
  have eq := s.handOn_eq late
  have reach := State.handOn_reach (s := s) late
  rw [s.handOnTaken_handing] at eq
  split at eq <;> rename_i over'
  · have stands := (s.handOnTaken late).answerClear_eq
    have notices := (s.handOnTaken late).answerClear_notices
    refine ⟨?_, s.handOn_handing late, reach, fun q => ?_, fun q k held => ?_, fun q => ?_, fun going => absurd over' going,
      fun _ => ⟨?_, fun q k rest waits head => ?_⟩⟩
    · rw [eq]
      exact taken.of_eq ((congrArg State.channels stands).trans rfl) ((congrArg State.gens stands).trans rfl)
    · rw [eq, (notices q).2]
      exact told.session q
    · obtain ⟨n, mem, kind⟩ := told.holds held
      rw [eq]
      exact ⟨n, by rw [(notices q).1]; exact mem, kind⟩
    · rw [eq, (notices q).1]
      exact told.length_le q
    · rw [eq]
      exact State.answerClear_clearing _
    · rw [eq]
      exact State.answerClear_answers ((s.handOnTaken_clearing late).trans waits) ((told.port q).intake.trans head)
  · refine ⟨by rw [eq]; exact taken, s.handOn_handing late, reach, fun q => by rw [eq]; exact told.session q,
      fun q k held => by rw [eq]; exact told.holds held, fun q => by rw [eq]; exact told.length_le q,
      fun _ => by rw [eq]; exact s.handOnTaken_clearing late, fun ended => absurd ended over'⟩

end Sys2Proof.Machine
end

section
/-! SUPPORT. A change of halt in force, and the events of the HALT line (R126 to R129). -/

namespace Sys2Proof.Machine

variable {s t u : State} {g : GenId} {m : CurrentMove} {p : PortId} {late : List HaltReceiver} {r : HaltReceiver} {new : HaltState}
  {cause : HaltCause} {station : Nat} {gone : Option PortId}

/-! ### A hand-over that goes on, by its ways -/

theorem State.firstOf_nil (empty : s.handing = []) (late : List HaltReceiver) : s.firstOf late = [] := by
  unfold State.firstOf
  rw [empty]
  rfl

/-- Where no receiver waits, no Clear Halt does, and nothing has still to be handed on. -/
theorem State.HandsOn.still (empty : s.handing = []) (none_waits : s.clearing = none) : s.HandsOn s [] where
  takes := by
    rw [State.firstOf_nil empty]
    intro r
    rw [if_neg List.not_mem_nil]
    cases r <;> rfl
  handing := by rw [s.laterOf_nil, empty]
  reach := .refl s
  session := fun _ => rfl
  told := fun _ _ held => held
  room := fun _ => Nat.le_add_right _ _
  going := fun _ => rfl
  ended := fun _ => ⟨none_waits, fun q _ _ waits => by rw [none_waits] at waits; cases waits⟩

theorem State.completeHandOver_handsOn (fits : s.GensFit) (none_waits : s.handing = [] → s.clearing = none) :
    s.HandsOn s.completeHandOver [] := by
  unfold State.completeHandOver
  split <;> rename_i empty
  · exact .still empty (none_waits empty)
  · exact State.handOn_handsOn fits []

/-- A hand-over that goes on to its end, with no Clear Halt waiting. -/
theorem State.completeHandOver_taken (some_wait : s.handing ≠ []) (none_waits : s.clearing = none) :
    s.completeHandOver = s.handOnTaken [] := by
  unfold State.completeHandOver
  rw [if_neg some_wait, State.handOn_eq, State.handOnTaken_handing, State.laterOf_nil, if_pos rfl]
  exact State.answerClear_none ((s.handOnTaken_clearing []).trans none_waits)

/-- The receivers that are late as a hand-over goes on in time: some of those that wait, never all (log 19). -/
def State.lateAgain (s : State) : List HaltReceiver :=
  let late := s.handing.filter fun r => decide (r ∈ lateReceivers (Config.freeOrder s.choices))
  if late = s.handing then [] else late

theorem State.continueHandOver_handsOn (fits : s.GensFit) (none_waits : s.handing = [] → s.clearing = none) :
    ∃ late, s.HandsOn s.continueHandOver late ∧ (s.handing ≠ [] → (s.laterOf late).length < s.handing.length) := by
  unfold State.continueHandOver
  split <;> rename_i empty
  · exact ⟨[], .still empty (none_waits empty), fun some_wait => absurd empty some_wait⟩
  · refine ⟨s.lateAgain, ?_, fun _ => ?_⟩
    · have goes := State.handOn_handsOn (s := { s with choices := s.choices + 1 }) (fits.congr rfl rfl) s.lateAgain
      exact ⟨goes.takes, goes.handing, HandOverOnly.trans ⟨rfl⟩ goes.reach, goes.session, goes.told, goes.room, goes.going, goes.ended⟩
    · unfold State.laterOf
      refine List.length_filter_lt_length_iff_exists.mpr ?_
      by_contra all
      push Not at all
      have sub (r : HaltReceiver) (mem : r ∈ s.handing) : r ∈ s.lateAgain := by simpa using all r mem
      unfold State.lateAgain at sub
      dsimp only at sub
      split at sub <;> rename_i every
      · obtain ⟨r, mem⟩ := List.exists_mem_of_ne_nil _ empty
        exact absurd (sub r mem) List.not_mem_nil
      · exact every (List.filter_eq_self.mpr fun r mem => (List.mem_filter.mp (sub r mem)).2)

/-! ### A change of halt in force -/

/-- The notice of a change as a part of it (R128). -/
theorem haltChanged_posting (new old : HaltState) (cause : HaltCause) (station : Nat) :
    ∀ f ∈ [(true, fun u : State => u.broadcast (fun w => w.haltChanged) (.haltChanged new old cause station))], State.Posting f.2 :=
  fun f hf t => by
    rw [List.mem_singleton.mp hf]
    exact ⟨State.broadcast_reach _ _ _, State.broadcast_told _ _ trivial⟩

theorem State.haltChange_parts (differs : s.halt.inForce ≠ new.inForce) (cause : HaltCause) (station : Nat) :
    s.haltChange new cause station =
      takeParts
        ([(true, fun u : State => u.broadcast (fun w => w.haltChanged) (.haltChanged new s.halt cause station))] ++
          (s.changeChannels new).haltParts (firstReceivers (Config.freeOrder s.choices)) new.inForce)
        (s.changeChannels new) := by
  rw [State.haltChange_eq, if_neg differs]
  rfl

/-- How many generators take a change with it, and how many later (R127). -/
theorem haltGens_count (mask : Nat) : (haltGens (firstReceivers mask)).length + (haltGens (lateReceivers mask)).length = 3 := by
  have all := List.length_eq_length_filter_add (l := allGens) fun g => decide (HaltReceiver.generator g ∈ firstReceivers mask)
  have later : haltGens (lateReceivers mask) = allGens.filter fun g => !decide (HaltReceiver.generator g ∈ firstReceivers mask) := by
    unfold haltGens
    refine List.filter_congr fun g _ => ?_
    rw [decide_eq_decide.mpr (mem_firstReceivers mask (.generator g)), decide_not, Bool.not_not]
  rw [later]
  exact all.symm

/-- The parts of a change keep every generator lawful, and the claims but those that a generator gives back. -/
theorem haltParts_keep {pre : List (Bool × (State → State))} (quiet : ∀ f ∈ pre, State.Posting f.2) (fits : s.GensFit) (u : State)
    (receivers : List HaltReceiver) (inForce : Bool) :
    (takeParts (pre ++ u.haltParts receivers inForce) s).GensFit ∧ s.ClaimsStand (takeParts (pre ++ u.haltParts receivers inForce) s) := by
  refine takeParts_all (fun t => t.GensFit ∧ s.ClaimsStand t) _ (fun f hf t c => ?_) (fun _ c => ⟨c.1.congr rfl rfl, c.2.trans (.of_eq rfl)⟩)
    ⟨fits, .of_eq rfl⟩
  rcases List.mem_append.mp hf with hf | hf
  · have ports := (quiet f hf t).1
    exact ⟨c.1.congr ports.gens ports.claims, c.2.trans (.of_eq ports.claims)⟩
  · obtain ⟨g, -, rfl⟩ := List.mem_map.mp hf
    obtain ⟨_, only⟩ := t.haltPart_only g inForce
    exact ⟨c.1.haltPart g inForce, c.2.trans only.claimsStand⟩

/-- What a change of halt in force brings about at once: some receivers take it, the others have still to (R127, R128). -/
structure State.ChangesHalt (s t : State) (new : HaltState) (cause : HaltCause) (station : Nat) : Prop where
  takes : ∀ r : HaltReceiver, if r ∈ t.handing then r.Stood s t else r.Took s t new.inForce
  halt : t.halt = new
  clearing : t.clearing = s.clearing
  told : State.Told (fun _ => True) (1 + 2 * (3 - (haltGens t.handing).length)) s t
  three : (haltGens t.handing).length ≤ 3
  reach : HandOverOnly { s with halt := new } t
  fits : t.GensFit
  claims : s.ClaimsStand t
  posted : ∀ q, (s.session q).isOpen = true → (s.session q).subs.haltChanged = true → (s.port q).notices.items.length ≤ 16 →
    (t.port q).Holds (.haltChanged new s.halt cause station)

theorem State.haltChange_changes (fits : s.GensFit) (differs : s.halt.inForce ≠ new.inForce) (cause : HaltCause) (station : Nat) :
    s.ChangesHalt (s.haltChange new cause station) new cause station := by
  let first := firstReceivers (Config.freeOrder s.choices)
  have posting := haltChanged_posting new s.halt cause station
  have parts := State.haltChange_parts differs cause station
  have stands := haltParts_stands posting (s.changeChannels new) first new.inForce (s.changeChannels new)
  have handing : (s.haltChange new cause station).handing = lateReceivers (Config.freeOrder s.choices) := by
    rw [parts]
    exact stands.handing
  have count : (haltGens first).length + (haltGens (lateReceivers (Config.freeOrder s.choices))).length = 3 := haltGens_count _
  have fits' : (s.changeChannels new).GensFit := fits.congr rfl rfl
  have keep := haltParts_keep posting fits' (s.changeChannels new) first new.inForce
  rw [← parts] at keep
  refine ⟨fun r => ?_, (congrArg State.halt (State.haltChange_reach s new cause station).eq).trans rfl, ?_, ?_, ?_,
    State.haltChange_reach s new cause station, keep.1, .trans (.of_eq rfl) keep.2, fun q isOpen subscribed room => ?_⟩
  · have takes := haltParts_takes (s := { s with halt := new, handing := lateReceivers (Config.freeOrder s.choices), choices := s.choices + 1 })
      posting (fits.congr rfl rfl) (s.changeChannels new) first new.inForce r
    rw [handing, parts]
    by_cases mem : r ∈ first
    · rw [if_pos mem] at takes
      rw [if_neg ((mem_firstReceivers _ r).mp mem)]
      exact takes
    · rw [if_neg mem] at takes
      rw [if_pos (not_not.mp fun away => mem ((mem_firstReceivers _ r).mpr away))]
      exact takes
  · rw [parts]
    exact stands.clearing
  · have channels : State.Told (fun _ => True) 0 s (s.changeChannels new) := .of_ports _ _ rfl rfl
    have told := channels.trans (haltParts_told posting fits' (s.changeChannels new) first new.inForce)
    rw [handing]
    rw [parts]
    exact told.mono (by rw [List.length_singleton]; omega)
  · rw [handing]
    omega
  · have told : othersTold State.GensFit ([] ++ (s.changeChannels new).haltParts first new.inForce) (2 * (haltGens first).length) :=
      haltPartsOf_told _ _ _ fun _ c => c
    rw [parts]
    refine takeParts_once_told State.GensFit (fun t => (t.port q).Holds (.haltChanged new s.halt cause station)) [] _ _ told
      (fun f hf t c => ?_) (fun f hf t c => ?_) (fun _ c => c.congr rfl rfl) (fun _ c => c) (fun t before _ => ?_) fits'
    · obtain ⟨g, -, rfl⟩ := List.mem_map.mp hf
      exact c.haltPart g new.inForce
    · obtain ⟨g, -, rfl⟩ := List.mem_map.mp hf
      obtain ⟨_, only⟩ := t.haltPart_only g new.inForce
      exact only.told.holds c
    · have length := before.length_le q
      have same : (s.changeChannels new).port q = s.port q := rfl
      have session : t.session q = s.session q := before.session q
      rw [same] at length
      exact State.broadcast_holds (by rw [session]; exact isOpen) (by rw [session]; exact subscribed) (by omega) _

/-- MOVE_ENDED of a move that an entry into halt ends, once every receiver has taken it (R108, R127). -/
theorem State.haltChange_ended (fits : s.GensFit) (clear : s.halt = .clear) (none_waits : s.clearing = none) (cause : HaltCause)
    (station : Nat) (hm : (s.gen g).current = some m) (halted : (s.gen g).haltTaken.state = .halted)
    (held : s.holds p (.generator g) = true) (isOpen : (s.session p).isOpen = true) (room : (s.port p).notices.items.length ≤ 16) :
    (((s.haltChange .active cause station).completeHandOver).port p).Holds
      (.moveEnded g m.record.tag m.record.kind .halted (s.gen g).counter m.started (m.endSearch .halted)) := by
  have differs : s.halt.inForce ≠ HaltState.active.inForce := by
    rw [clear]
    nofun
  have changes := State.haltChange_changes fits differs cause station
  generalize change : s.haltChange .active cause station = t at changes
  have session := changes.told.session p
  have waits : t.clearing = none := changes.clearing.trans none_waits
  by_cases late : HaltReceiver.generator g ∈ t.handing
  · have stood := changes.takes (.generator g)
    rw [if_pos late] at stood
    have gen : t.gen g = s.gen g := stood
    have length := changes.told.length_le p
    have ended := haltParts_ended (pre := []) (s := t.handOnChannels []) (p := p) (m := m) (List.forall_mem_nil _) (t.handOnChannels [])
      (changes.fits.congr rfl rfl) ((t.mem_firstOf [] _).mpr ⟨late, List.not_mem_nil⟩) ((congrArg Generator.current gen).trans hm)
      ((congrArg (fun n => n.haltTaken.state) gen).trans halted) (changes.claims.holds held)
      ((congrArg Session.isOpen session).trans isOpen) ?_
    · have inForce : t.halt.inForce = true := by rw [changes.halt]; rfl
      rw [State.completeHandOver_taken (List.ne_nil_of_mem late) waits, State.handOnTaken_parts, inForce]
      rw [show (t.handOnChannels []).gen g = s.gen g from gen] at ended
      exact ended
    · have same : (t.handOnChannels []).port p = t.port p := rfl
      have first : t.firstOf [] = t.handing := List.filter_eq_self.mpr fun r _ => decide_eq_true List.not_mem_nil
      have three := changes.three
      rw [same, first, List.length_nil]
      omega
  · refine (State.completeHandOver_handsOn changes.fits fun _ => waits).told p _ ?_
    rw [← change]
    rw [State.haltChange_parts differs]
    have handing : t.handing = lateReceivers (Config.freeOrder s.choices) := by
      rw [← change, State.haltChange_parts differs]
      exact (haltParts_stands (haltChanged_posting _ _ _ _) _ _ _ _).handing
    rw [handing] at late
    have count := haltGens_count (Config.freeOrder s.choices)
    refine haltParts_ended (s := s.changeChannels .active) (haltChanged_posting _ _ _ _) _ (fits.congr rfl rfl)
      ((mem_firstReceivers _ _).mpr late) hm halted held isOpen ?_
    have same : (s.changeChannels .active).port p = s.port p := rfl
    rw [same, List.length_singleton]
    omega

end Sys2Proof.Machine
end

section
/-! SUPPORT. The statement of the HALT line's events (R126 to R129). -/

namespace Sys2Proof.Machine

variable {s t u : State} {g : GenId} {m : CurrentMove} {p : PortId} {late : List HaltReceiver} {r : HaltReceiver}

theorem State.Lawful.none_waits (h : s.Lawful) (empty : s.handing = []) : s.clearing = none := by
  by_contra some_waits
  obtain ⟨p, waits⟩ := Option.ne_none_iff_exists'.mp some_waits
  exact (h.handOver.clear_waits p waits).2.1 empty

theorem State.Lawful.completes (h : s.Lawful) : s.HandsOn s.completeHandOver [] :=
  State.completeHandOver_handsOn h.sound.gensFit h.none_waits

theorem State.HandsOn.done (h : s.HandsOn t []) : t.clearing = none := (h.ended s.laterOf_nil).1

/-- What a hand-over or a change of the halt state does not reach. -/
theorem HandOverOnly.stands (h : HandOverOnly s t) :
    t.halt = s.halt ∧ t.lines = s.lines ∧ t.axes = s.axes ∧ t.slots = s.slots ∧ t.compares = s.compares ∧ t.commits = s.commits ∧
      t.now = s.now ∧ t.pending = s.pending := by
  rw [h.eq]
  exact ⟨rfl, rfl, rfl, rfl, rfl, rfl, rfl, rfl⟩

theorem State.Lawful.latched_none (h : s.Lawful) (latched : s.halt = .latched) : s.handing = [] := by
  by_contra some_wait
  exact h.handOver.not_latched some_wait latched

theorem State.completeHandOver_none (empty : s.handing = []) : s.completeHandOver = s := by
  unfold State.completeHandOver
  rw [if_pos empty]

/-- A change of the halt state that changes no halt in force is its notice alone (R126, R128). -/
theorem State.haltChange_same {new : HaltState} (same : s.halt.inForce = new.inForce) (cause : HaltCause) (station : Nat) :
    s.haltChange new cause station =
      State.broadcast { s with halt := new } (fun w => w.haltChanged) (.haltChanged new s.halt cause station) := by
  rw [State.haltChange_eq, if_pos same]

/-- A change of the halt state leaves the sessions, and the Clear Halt that waits. -/
theorem State.haltChange_sessions (fits : s.GensFit) (new : HaltState) (cause : HaltCause) (station : Nat) :
    (s.haltChange new cause station).clearing = s.clearing ∧ ∀ q, (s.haltChange new cause station).session q = s.session q := by
  by_cases same : s.halt.inForce = new.inForce
  · have told : State.Told (fun _ => True) 1 { s with halt := new } (s.haltChange new cause station) := by
      rw [State.haltChange_same same]
      exact State.broadcast_told _ _ trivial
    refine ⟨?_, told.session⟩
    rw [State.haltChange_same same]
    exact (State.broadcast_reach _ _ _).clearing
  · have changes := State.haltChange_changes fits same cause station
    exact ⟨changes.clearing, changes.told.session⟩

/-- A change of the halt state at the HALT line, every receiver having taken the one before, leaves the rest of the part. -/
theorem State.Lawful.lineChange (lawful : s.Lawful) (l : InputLines) (new : HaltState) (cause : HaltCause) :
    let t := State.haltChange { s.completeHandOver with lines := l } new cause 0
    t.halt = new ∧ t.lines = l ∧ t.axes = s.axes ∧ t.slots = s.slots ∧ t.compares = s.compares ∧ t.clearing = none ∧
      ∀ q, t.session q = s.session q := by
  intro t
  have before := lawful.completes
  have reach := State.haltChange_reach { s.completeHandOver with lines := l } new cause 0
  obtain ⟨halt, lines, axes, slots, compares, -, -, -⟩ := reach.stands
  obtain ⟨-, -, axes', slots', compares', -, -, -⟩ := before.reach.stands
  obtain ⟨clearing, session⟩ := State.haltChange_sessions (s := { s.completeHandOver with lines := l })
    (lawful.sound.completeHandOver.gensFit.congr rfl rfl) new cause 0
  exact ⟨halt, lines, axes.trans axes', slots.trans slots', compares.trans compares', clearing.trans before.done,
    fun q => (session q).trans (before.session q)⟩

/-- The notice of a change that changes no halt in force (R128). -/
theorem State.haltChange_same_posted {new : HaltState} {q : PortId} (same : s.halt.inForce = new.inForce) (cause : HaltCause) (station : Nat)
    (isOpen : (s.session q).isOpen = true) (subscribed : (s.session q).subs.haltChanged = true)
    (room : (s.port q).notices.items.length < 24) :
    ((s.haltChange new cause station).port q).Holds (.haltChanged new s.halt cause station) := by
  rw [State.haltChange_same same]
  exact State.broadcast_holds (s := { s with halt := new }) isOpen subscribed room _

/-- A hand-over that goes on, in the terms of the statement (R127, R129). -/
theorem State.HandsOn.receivers (k : s.HandsOn t late) (r : HaltReceiver) :
    if r ∈ s.handing ∧ r ∉ t.handing then r.Took s t (decide (s.halt ≠ .clear)) else r.Stood s t := by
  have first : r ∈ s.firstOf late ↔ r ∈ s.handing ∧ r ∉ t.handing := by
    rw [State.mem_firstOf, k.handing, State.mem_laterOf]
    exact and_congr_right fun mem => not_congr (iff_and_self.mpr fun _ => mem)
  have takes := k.takes r
  rw [State.inForce_ne] at takes
  by_cases mem : r ∈ s.firstOf late
  · rw [if_pos mem] at takes
    rw [if_pos (first.mp mem)]
    exact takes
  · rw [if_neg mem] at takes
    rw [if_neg fun k => mem (first.mpr k)]
    exact takes

/-- Settles O30: the assertion from CLEAR and from LATCHED, the release, and a hand-over that goes on. -/
theorem haltLineEventsReachEveryReceiver : Obligations.HaltLineEventsReachEveryReceiver := by
  refine ⟨fun s lawful calm => ?_, fun s lawful active => ?_, fun s lawful => ?_⟩
  · intro b
    have before := lawful.completes
    have sound : b.Sound none := lawful.sound.completeHandOver
    let w : State := { b with lines := { b.lines with haltAsserted := true } }
    have fits : w.GensFit := sound.gensFit.congr rfl rfl
    have now : b.halt = s.halt := s.completeHandOver_halt
    have rest := lawful.lineChange { b.lines with haltAsserted := true } .active .lineAsserted
    obtain ⟨halt, lines, axes, slots, compares, clearing, session⟩ := rest
    have stand : ({ b.lines with haltAsserted := true } : InputLines) = { s.lines with haltAsserted := true } :=
      congrArg (fun l : InputLines => { l with haltAsserted := true }) s.completeHandOver_lines
    have run : exec .haltAssertion s = .next (w.haltChange .active .lineAsserted 0) := by
      rw [Instr.exec_fieldEvent rfl]
      unfold State.haltAsserted
      cases state : s.halt with
      | clear => rfl
      | latched => rfl
      | active => exact absurd state calm
    refine ⟨_, run, halt, lines.trans stand, fun clear r => ?_, fun g m p clear hm halted held room => ?_, fun latched => ?_, axes, slots, compares,
      clearing, session, fun p isOpen subscribed room => ?_⟩
    · exact (State.haltChange_changes (s := w) fits (by rw [show w.halt = .clear from now.trans clear]; nofun) _ _).takes r
    · have isOpen : (b.session p).isOpen = true :=
        sound.claimsLawful.owners_open _ p ((b.holds_iff p _).mp held).2
      obtain ⟨n, mem, kind⟩ := State.haltChange_ended (s := w) fits (now.trans clear) before.done .lineAsserted 0 hm halted held isOpen room
      exact ⟨n, mem, _, kind⟩
    · have same : b = s := State.completeHandOver_none (lawful.latched_none latched)
      have channels : b.channels = s.channels := congrArg State.channels same
      have gens : b.gens = s.gens := congrArg State.gens same
      have none_left : b.handing = [] := s.completeHandOver_handing
      have reach := State.broadcast_reach { w with halt := .active } (fun u => u.haltChanged) (.haltChanged .active w.halt .lineAsserted 0)
      rw [State.haltChange_same (s := w) (by rw [show w.halt = .latched from now.trans latched]; rfl)]
      exact ⟨reach.handing.trans none_left, reach.channels.trans channels, reach.gens.trans gens⟩
    · have session' : w.session p = s.session p := before.session p
      rw [← now]
      by_cases same : w.halt.inForce = HaltState.active.inForce
      · exact State.haltChange_same_posted same _ _ (by rw [session']; exact isOpen) (by rw [session']; exact subscribed)
          (lt_of_le_of_lt room (by decide))
      · exact (State.haltChange_changes fits same _ _).posted p (by rw [session']; exact isOpen) (by rw [session']; exact subscribed) room
  · intro b
    have before := lawful.completes
    let w : State := { b with lines := { b.lines with haltAsserted := false } }
    have now : w.halt = .active := s.completeHandOver_halt.trans active
    have same : w.halt.inForce = HaltState.latched.inForce := by rw [now]; rfl
    have rest := lawful.lineChange { b.lines with haltAsserted := false } .latched .lineReleased
    obtain ⟨halt, lines, axes, slots, compares, -, session⟩ := rest
    have stand : ({ b.lines with haltAsserted := false } : InputLines) = { s.lines with haltAsserted := false } :=
      congrArg (fun l : InputLines => { l with haltAsserted := false }) s.completeHandOver_lines
    have run : exec .haltRelease s = .next (w.haltChange .latched .lineReleased 0) := by
      rw [Instr.exec_fieldEvent rfl]
      unfold State.haltReleased
      rw [active]
    have reach := State.broadcast_reach { w with halt := .latched } (fun u => u.haltChanged) (.haltChanged .latched w.halt .lineReleased 0)
    have changed := State.haltChange_same (s := w) same .lineReleased 0
    rw [← changed] at reach
    refine ⟨_, run, halt, lines.trans stand, reach.handing.trans s.completeHandOver_handing, reach.channels, reach.gens, axes, slots, compares,
      reach.claims, session, fun p isOpen subscribed room => ?_⟩
    have session' : w.session p = s.session p := before.session p
    have posted := State.haltChange_same_posted (s := w) (q := p) same .lineReleased 0 (by rw [session']; exact isOpen)
      (by rw [session']; exact subscribed) room
    rw [now] at posted
    exact posted
  · intro handsOn
    have goes (b : State) (late : List HaltReceiver) (k : s.HandsOn b late) (still : s.handing = [] → b = s) : handsOn b := by
      obtain ⟨halt, lines, axes, slots, compares, commits, now, pending⟩ := k.reach.stands
      refine ⟨still, fun r mem => ?_, k.receivers, halt, lines, axes, slots, compares, commits, now, pending, k.session, ?_⟩
      · rw [k.handing] at mem
        exact ((s.mem_laterOf late r).mp mem).1
      · rw [k.handing]
        split <;> rename_i left
        · exact k.ended left
        · exact k.going left
    obtain ⟨late, again, fewer⟩ := State.continueHandOver_handsOn lawful.sound.gensFit lawful.none_waits
    refine ⟨goes _ _ lawful.completes State.completeHandOver_none, s.completeHandOver_handing, goes _ _ again fun empty => ?_,
      fun some_wait => ?_, fun empty => ?_⟩
    · unfold State.continueHandOver
      rw [if_pos empty]
    · rw [again.handing]
      exact fewer some_wait
    · unfold step
      rw [empty]

end Sys2Proof.Machine
end

section
/-! SUPPORT. The statement of Clear Halt (R127 to R129). -/

namespace Sys2Proof.Machine

variable {s t u v : State} {p q : PortId} {seq : Byte} {r : HaltReceiver} {inForce : Bool}

/-- A state in which a Clear Halt's response, in the cache, waits for the hand-over of its change (R129). -/
def State.clearAwaits (s : State) (p : PortId) (seq : Byte) (body : List Byte) : State :=
  State.modPort { s with clearing := some p } p fun q => { q with cache := some { seq := seq, body := body } }

theorem State.clearAwaits_port_same (s : State) (p : PortId) (seq : Byte) (body : List Byte) :
    (s.clearAwaits p seq body).port p = { s.port p with cache := some { seq := seq, body := body } } :=
  State.port_modPort_same _ _ _

theorem State.clearAwaits_notices (s : State) (p q : PortId) (seq : Byte) (body : List Byte) :
    ((s.clearAwaits p seq body).port q).notices = (s.port q).notices := by
  unfold State.clearAwaits
  rw [State.modPort_port]
  split
  · subst q; rfl
  · rfl

/-- A Clear Halt taken: its block's part, with the response at once or with the hand-over of its change (R129). -/
theorem exec_clearHalt (h : s.ServesSession p seq) {status : Status} {results : List Byte}
    (part : clearHaltRequest p (s.received p seq .clearHalt) = (u, { status := status, results := results })) (events : u.vEvents = []) :
    exec (.clearHalt p seq) s =
      .next
        (if status = .done ∧ u.handing ≠ [] then
          u.clearAwaits p seq (0x71 :: status.code :: results)
        else u.answered p seq (0x71 :: status.code :: results)) := by
  have check : (s.received p seq .clearHalt).commonCheck p .clearHalt = none :=
    State.commonCheck_listed (by rw [State.received_isOpen]; exact h.session_open) rfl
  have performed : (s.received p seq .clearHalt).perform p .clearHalt = (u, { status := status, results := results }) := part
  have awaits : u.awaitsHandOver .clearHalt status = decide (status = .done ∧ u.handing ≠ []) := by
    unfold State.awaitsHandOver
    rw [decide_eq_true rfl, Bool.true_and, Bool.decide_and]
    cases u.handing <;> rfl
  rw [Instr.exec_asRequest (c := .clearHalt p seq) rfl, State.arrival_serves h.toServes, State.takeRequest_eq, State.answer_passed check,
    performed]
  dsimp only
  rw [State.drain_settled _ events, awaits]
  by_cases waits : status = .done ∧ u.handing ≠ []
  · rw [if_pos waits, decide_eq_true waits]
    rfl
  · rw [if_neg waits, decide_eq_false waits]
    rfl

theorem HaltReceiver.Stood.took (stood : r.Stood s t) (took : r.Took t u inForce) : r.Took s u inForce := by
  cases r with
  | output o =>
    have same : t.channel o = s.channel o := stood
    unfold HaltReceiver.Took at took ⊢
    dsimp only at took ⊢
    rw [← same]
    exact took
  | generator g =>
    have same : t.gen g = s.gen g := stood
    unfold HaltReceiver.Took at took ⊢
    dsimp only at took ⊢
    rw [← same]
    exact took

/-- Settles O60: the refusal in ACTIVE, the answer in CLEAR, and the clear of a LATCHED halt with its response. -/
theorem clearHaltEndsALatchedHalt : Obligations.ClearHaltEndsALatchedHalt := by
  intro s p seq h lawful b
  let u := s.received p seq .clearHalt
  have now : b.halt = s.halt := u.completeHandOver_halt
  have empty : b.handing = [] := u.completeHandOver_handing
  have events : b.vEvents = [] := (State.completeHandOver_hushed u).events.trans h.settled
  have part : clearHaltRequest p u =
      match b.halt with
      | .active => (b, { status := .halted, results := [HaltState.code .active] })
      | .latched => (b.haltChange .clear .cleared (b.station p), .done [HaltState.code .clear])
      | .clear => (b, .done [HaltState.code .clear]) := by
    unfold clearHaltRequest
    rfl
  refine ⟨fun none_wait => State.completeHandOver_none (s := u) none_wait, fun active => ?_, fun clear => ?_, fun latched => ?_⟩
  · rw [now, active] at part
    have run := exec_clearHalt h part events
    rw [if_neg fun k => absurd k.1 (show Status.halted ≠ .done from nofun)] at run
    exact run
  · rw [now, clear] at part
    have run := exec_clearHalt h part events
    rw [if_neg fun k => k.2 empty] at run
    exact run
  · have same : b = u := State.completeHandOver_none (s := u) (lawful.latched_none latched)
    let w := u.haltChange .clear .cleared (u.station p)
    rw [now, latched, same] at part
    have before : u.halt = .latched := latched
    have changes : u.ChangesHalt w .clear .cleared (u.station p) :=
      State.haltChange_changes (s := u) (lawful.sound.gensFit.congr rfl rfl) (by rw [before]; nofun) _ _
    have run := exec_clearHalt h part ((State.haltChange_hushed u .clear .cleared (u.station p)).events.trans h.settled)
    obtain ⟨-, -, axes, slots, compares, -, -, -⟩ := changes.reach.stands
    have takes (r : HaltReceiver) : if r ∈ w.handing then r.Stood s w else r.Took s w false := changes.takes r
    have station : u.station p = (s.session p).station := by
      unfold State.station State.session
      rw [State.received_port_same]
      exact Session.restartLease_station _
    have posted (q : PortId) (isOpen : (s.session q).isOpen = true) (subscribed : (s.session q).subs.haltChanged = true)
        (room : (s.port q).notices.items.length ≤ 16) : (w.port q).Holds (.haltChanged .clear .latched .cleared (s.session p).station) := by
      have told := changes.posted q (by rw [State.received_isOpen]; exact isOpen) (by rw [State.received_subs]; exact subscribed)
        (by rw [State.received_notices]; exact room)
      rw [before, station] at told
      exact told
    by_cases all : w.handing = []
    · rw [if_neg fun k => k.2 all] at run
      refine ⟨_, run, changes.halt, takes, axes, slots, compares, State.answered_cache _ _ _ _, ?_, fun q isOpen subscribed room => ?_⟩
      · rw [show (w.answered p seq _).handing = w.handing from rfl, if_pos all]
        refine ⟨changes.clearing.trans (lawful.none_waits (lawful.latched_none latched)), ?_⟩
        rw [State.answered_port_same]
        unfold Port.handed
        split
        · exact .inl rfl
        · exact .inr rfl
      · rw [State.answered_notices]
        exact posted q isOpen subscribed room
    · rw [if_pos ⟨rfl, all⟩] at run
      refine ⟨_, run, changes.halt, takes, axes, slots, compares, ?_, ?_, fun q isOpen subscribed room => ?_⟩
      · rw [State.clearAwaits_port_same]
        rfl
      · let t := w.clearAwaits p seq [0x71, 0x00, 0x00]
        have fits : t.GensFit := changes.fits.congr rfl rfl
        have ends : t.HandsOn t.completeHandOver [] := State.completeHandOver_handsOn fits fun none_left => absurd none_left all
        have port : t.port p = { w.port p with cache := some { seq := seq, body := [0x71, 0x00, 0x00] } } := w.clearAwaits_port_same p seq _
        have told := changes.told.port p
        have link := (lawful.links p).no_head_no_response h.first
        have received := State.received_port_same s p seq .clearHalt
        have waiting : (u.port p).waiting = none := by rw [received]; exact link.1
        have tx : (u.port p).tx = (s.port p).tx := by rw [received]
        have intake : (t.port p).intake = [{ seq := seq, request := .clearHalt }] := by
          rw [port]
          exact told.intake.trans (by rw [received])
        rw [show (w.clearAwaits p seq _).handing = w.handing from rfl, if_neg all]
        refine ⟨rfl, ?_, fun f sends => ?_, (ends.ended t.laterOf_nil).2 p _ _ rfl intake, fun r mem => ?_⟩
        · rw [State.clearAwaits_port_same]
          exact told.waiting.trans waiting
        · rw [State.clearAwaits_port_same] at sends
          rcases told.tx with same | ⟨-, -, m, same⟩
          · exact link.2 f (tx.symm.trans (same.symm.trans sends))
          · rw [← Option.some.inj (same.symm.trans sends)]
            rfl
        · have took := ends.takes r
          rw [if_pos ((t.mem_firstOf [] r).mpr ⟨mem, List.not_mem_nil⟩), show t.halt = .clear from changes.halt] at took
          have stood := takes r
          rw [if_pos mem] at stood
          exact HaltReceiver.Stood.took (t := t) stood took
      · rw [show ((w.clearAwaits p seq _).port q).notices = (w.port q).notices from w.clearAwaits_notices p q seq _]
        exact posted q isOpen subscribed room

end Sys2Proof.Machine
end

section
/-! SUPPORT. What the end of a session makes of each resource, and of each claim (R21, R44, R81, R110, R140 to R143). -/

namespace Sys2Proof.Machine

variable {s t u : State} {p q : PortId} {g : GenId} {m : CurrentMove} {r : Resource} {station : Nat} {b : Bool} {done : List Resource}

/-! ### A generator that loses its owner (R110, R143) -/

/-- A generator whose queue and trigger a stop has flushed. -/
def Generator.flushed (n : Generator) : Generator := { n with queue := [], pendingTrigger := false }

/-- The claim of a generator whose move has ended with no record waiting (R143). -/
theorem State.endMove_claim (hm : (s.gen g).current = some m) (empty : (s.gen g).queue = []) (halt : (s.gen g).halt = false)
    (releasing : (s.claim (.generator g)).state = .releasing) (cause : EndCause) :
    (s.endMove g cause).claim (.generator g) = (s.claim (.generator g)).passed := by
  have closed := s.closeMove_gen g cause hm
  have claim : (s.closeMove g cause).claim (.generator g) = s.claim (.generator g) := State.closeMove_claim _ _ _ _
  unfold State.endMove
  rw [State.nextMove_empty _ g (by rw [State.closeMove_queue]; exact empty)]
  unfold State.settle
  rw [if_neg (by rw [closed]; exact Bool.eq_false_iff.mp halt), State.reportIdle_claim, State.modGen_claim, claim, if_pos releasing]

/-- What a generator and its claim come to as the owner is lost: one left in IDLE hands its claim on (R110, R143). -/
def State.LosesOwner (s t : State) (g : GenId) : Prop :=
  t.gen g = (s.gen g).ownerLost ∧
    t.claim (.generator g) =
      if (s.gen g).ownerLost.state = .idle then (s.claim (.generator g)).passed else s.claim (.generator g)

theorem State.LosesOwner.of_moving (stays : (s.gen g).ownerLost.state ≠ .idle) (gen : t.gen g = (s.gen g).ownerLost)
    (claim : t.claim (.generator g) = s.claim (.generator g)) : s.LosesOwner t g :=
  ⟨gen, claim.trans (if_neg stays).symm⟩

/-- The owner-loss stop (R110): the record, and the claim, handed on where the generator is in IDLE (R143). -/
theorem State.rampStop_lost (lawful : (s.gen g).Lawful b) (busy : (s.gen g).state ≠ .idle)
    (releasing : (s.claim (.generator g)).state = .releasing) :
    s.LosesOwner (s.rampStop g) g := by
  have gen : (s.flushAll g).gen g = (s.gen g).flushed := State.flushAll_gen _ _
  have claim : (s.flushAll g).claim (.generator g) = s.claim (.generator g) := State.flushAll_claim _ _ _
  have unhalted (moving : (s.gen g).state ≠ .stopping) (runs : (s.gen g).state ≠ .halted) : (s.gen g).halt = false :=
    Bool.eq_false_iff.mpr fun k => (lawful.halt_stops k).elim runs moving
  have moves (rest : (s.gen g).state.atRest = false) : ∃ m, (s.gen g).current = some m := by
    obtain ⟨m, hm, -⟩ := lawful.current_of_not_atRest rest
    exact ⟨m, hm⟩
  have ended (v : State) {m : CurrentMove} (hm : (v.gen g).current = some m) (empty : (v.gen g).queue = [])
      (trigger : (v.gen g).pendingTrigger = false)
      (halt : (v.gen g).halt = false) (same : v.claim (.generator g) = s.claim (.generator g)) (cause : EndCause)
      (rests : (s.gen g).ownerLost = (v.gen g).atStandstill .idle) :
      s.LosesOwner (v.endMove g cause) g := by
    have idle : (s.gen g).ownerLost.state = .idle := by rw [rests]; rfl
    refine ⟨?_, ?_⟩
    · rw [State.endMove_gen hm empty (fun _ => .inr trigger), rests, halt]
      rfl
    · rw [State.endMove_claim hm empty halt (by rw [same]; exact releasing), if_pos idle, same]
  have ends (state : (s.gen g).state = .armed ∨ (s.gen g).state = .dwelling ∨ (s.gen g).state = .following) : s.LosesOwner (s.rampStop g) g := by
    obtain ⟨m, hm⟩ := moves (by rcases state with e | e | e <;> rw [e] <;> rfl)
    have halt := unhalted (by rcases state with e | e | e <;> rw [e] <;> decide) (by rcases state with e | e | e <;> rw [e] <;> decide)
    rw [State.rampStop_ends state]
    refine ended _ (m := m) (by rw [gen]; exact hm) (by rw [gen]; rfl) (by rw [gen]; rfl) (by rw [gen]; exact halt) claim _ ?_
    rw [gen]
    unfold Generator.ownerLost
    rcases state with e | e | e <;> rw [e] <;> rfl
  have brakes (state : (s.gen g).state = .running ∨ (s.gen g).state = .searching) : s.LosesOwner (s.rampStop g) g := by
    obtain ⟨m, hm⟩ := moves (by rcases state with e | e <;> rw [e] <;> rfl)
    have halt := unhalted (by rcases state with e | e <;> rw [e] <;> decide) (by rcases state with e | e <;> rw [e] <;> decide)
    have current : ((s.flushAll g).gen g).current = some m := by rw [gen]; exact hm
    have lost : (s.gen g).ownerLost =
        if m.record.kind.floor < (s.gen g).speed then (s.gen g).flushed.braking .stop else (s.gen g).flushed.atStandstill .idle := by
      have floor : ((s.gen g).current.any fun m => decide (m.record.kind.floor < (s.gen g).speed)) =
          decide (m.record.kind.floor < (s.gen g).speed) := by rw [hm]; rfl
      unfold Generator.ownerLost
      rw [floor]
      rcases state with e | e <;> rw [e] <;> exact if_congr decide_eq_true_iff rfl rfl
    rw [State.rampStop_brakes state]
    by_cases above : m.record.kind.floor < (s.gen g).speed
    · rw [if_pos above] at lost
      rw [State.brake_slows current (by rw [gen]; exact above)]
      refine .of_moving (by rw [lost]; nofun) ?_ ((State.modGen_claim (s.flushAll g) g (fun n => n.braking .stop) _).trans claim)
      change ((s.flushAll g).modGen g fun n => n.braking .stop).gen g = _
      rw [State.modGen_gen_same, gen, lost]
    · rw [if_neg above] at lost
      have braking : ((s.flushAll g).modGen g fun n => n.braking .stop).gen g = (s.gen g).flushed.braking .stop := by
        rw [State.modGen_gen_same, gen]
      rw [State.brake_ends current (by rw [gen]; exact Nat.not_lt.mp above)]
      refine ended _ (m := m) (by rw [braking]; exact hm) (by rw [braking]; rfl) (by rw [braking]; rfl) (by rw [braking]; exact halt)
        ((State.modGen_claim _ _ _ _).trans claim) _ ?_
      rw [braking, lost]
      rfl
  have still (state : (s.gen g).state = .stopping ∨ (s.gen g).state = .halted) : s.LosesOwner (s.rampStop g) g := by
    have lost : (s.gen g).ownerLost = s.gen g := by
      unfold Generator.ownerLost
      rcases state with e | e <;> rw [e]
    rw [State.rampStop_still (.inr state)]
    exact .of_moving (by rw [lost]; exact busy) lost.symm rfl
  cases state : (s.gen g).state with
  | idle => exact absurd state busy
  | armed => exact ends (.inl state)
  | dwelling => exact ends (.inr (.inl state))
  | following => exact ends (.inr (.inr state))
  | running => exact brakes (.inl state)
  | searching => exact brakes (.inr state)
  | stopping => exact still (.inl state)
  | halted => exact still (.inr state)

end Sys2Proof.Machine
end

section
/-! SUPPORT. The claims of an ending session fall one by one (R142, R143). -/

namespace Sys2Proof.Machine

variable {s t u : State} {p : PortId} {g : GenId} {q r : Resource} {station : Nat} {done : List Resource} {P Q : State → Prop}

/-! ### One claim of the ending session -/

/-- What a resource's holder acts on stands: a channel, a generator or an axis. -/
def State.StandsAt (s t : State) : Resource → Prop
  | .output o => t.channel o = s.channel o
  | .generator g => t.gen g = s.gen g
  | .axis x => t.axis x = s.axis x

theorem State.StandsAt.of_eq (channels : t.channels = s.channels) (gens : t.gens = s.gens) (axes : t.axes = s.axes) (r : Resource) :
    s.StandsAt t r := by
  cases r with
  | output o => exact State.channel_congr channels o
  | generator g => exact State.gen_congr gens g
  | axis x => exact State.axis_congr axes x

theorem State.StandsAt.trans (h : s.StandsAt t r) (k : t.StandsAt u r) : s.StandsAt u r := by
  cases r <;> exact Eq.trans k h

theorem State.cleanup_other (other : q ≠ r) : s.StandsAt (s.cleanup q) r := by
  cases r with
  | output o => exact State.cleanup_channel_other s other
  | generator g => exact (s.cleanup_gen q g).trans (if_neg other)
  | axis x => exact (s.cleanup_axis q x).trans (if_neg other)

theorem State.passOn_stands (s : State) (q r : Resource) (station : Nat) : (s.cleanup q).StandsAt (s.passOn q station) r :=
  have reach := (s.cleanup q).handOver_reach q station .sessionEnded
  .of_eq reach.channels reach.gens reach.axes r

theorem State.loseOwner_only (s : State) (g : GenId) (station : Nat) :
    ∃ n, GenOnly g n (s.setClaim (.generator g)
      { state := .releasing, owner := none, former := station, waiters := (s.claim (.generator g)).waiters }) (s.loseOwner g station) :=
  State.rampStop_only _ g

/-- The end of a claim stands apart from every other resource (R139, R142). -/
theorem State.endClaim_other (other : q ≠ r) (p : PortId) (station : Nat) :
    s.StandsAt (State.endClaim p station s q) r ∧ (State.endClaim p station s q).claim r = s.claim r := by
  refine ⟨?_, ?_⟩
  · have passed : s.StandsAt (s.passOn q station) r := (State.cleanup_other other).trans (s.passOn_stands q r station)
    unfold State.endClaim
    split
    · split
      · exact passed
      · exact passed
      · rename_i g _
        split
        · exact passed
        · obtain ⟨_, only⟩ := s.loseOwner_only g station
          cases r with
          | output o => exact State.channel_congr only.move.channels o
          | axis x => exact State.axis_congr only.move.axes x
          | generator h => exact only.others h fun e => other (congrArg Resource.generator e.symm)
    · exact .of_eq rfl rfl rfl r
  · rcases State.endClaim_claim p station s q r with ⟨-, same⟩ | ⟨same, -⟩
    · exact same
    · exact absurd same.symm other

/-- What a resource comes to as the session that held it ends (R21, R44, R81, R110). -/
def State.GivenAt (p : PortId) (s t : State) : Resource → Prop
  | .output o => t.channel o = if s.holds p (.output o) then (s.channel o).cleaned else s.channel o
  | .generator g => t.gen g = if s.holds p (.generator g) then (s.gen g).ownerLost else s.gen g
  | .axis x => t.axis x = if s.holds p (.axis x) then (s.axis x).cleanup else s.axis x

theorem State.GivenAt.of_stands (h : s.GivenAt p t r) (k : t.StandsAt u r) : s.GivenAt p u r := by
  cases r <;> exact Eq.trans k h

theorem State.endClaim_unheld (unheld : s.holds p r = false) (station : Nat) : State.endClaim p station s r = s := by
  unfold State.endClaim
  rw [if_neg (by rw [unheld]; nofun)]

theorem Generator.ownerLost_idle {n : Generator} (idle : n.state = .idle) : n.ownerLost = { n with pendingTrigger := false } := by
  cases n
  cases idle
  rfl

/-- A claim of the ending session at its resource (R140, R142, R143). -/
theorem State.endClaim_given (sound : s.Sound (some p)) (r : Resource) (station : Nat) :
    s.GivenAt p (State.endClaim p station s r) r ∧
      (State.endClaim p station s r).claim r = if s.holds p r then s.claimGivenBack r station else s.claim r := by
  by_cases held : s.holds p r = true
  · have passed : (s.passOn r station).claim r = (s.claim r).passed := by
      unfold State.passOn
      rw [State.handOver_claim, if_pos rfl, State.cleanup_claim]
    rw [if_pos held]
    unfold State.endClaim
    rw [if_pos held]
    cases r with
    | output o =>
      have channel : (s.passOn (.output o) station).channel o = (s.channel o).cleaned :=
        Eq.trans (s.passOn_stands (.output o) (.output o) station) (State.cleanup_channel_same sound.windows.cam.agrees o)
      exact ⟨channel.trans (if_pos held).symm, passed⟩
    | axis x =>
      have axis : (s.passOn (.axis x) station).axis x = (s.axis x).cleanup :=
        Eq.trans (s.passOn_stands (.axis x) (.axis x) station) ((s.cleanup_axis (.axis x) x).trans (if_pos rfl))
      exact ⟨axis.trans (if_pos held).symm, passed⟩
    | generator g =>
      unfold State.GivenAt State.claimGivenBack
      dsimp only
      rw [if_pos held]
      by_cases idle : (s.gen g).state = .idle
      · have lost := Generator.ownerLost_idle idle
        rw [if_pos idle, lost, if_pos idle]
        exact ⟨Eq.trans (s.passOn_stands (.generator g) (.generator g) station) ((s.cleanup_gen (.generator g) g).trans (if_pos rfl)), passed⟩
      · rw [if_neg idle]
        let v := s.setClaim (.generator g)
          { state := .releasing, owner := none, former := station, waiters := (s.claim (.generator g)).waiters }
        have claim : v.claim (.generator g) =
            { state := .releasing, owner := none, former := station, waiters := (s.claim (.generator g)).waiters } :=
          State.setClaim_claim_same _ _ _
        obtain ⟨gen, claims⟩ := State.rampStop_lost (s := v) (g := g) (sound.gens g).lawful idle (by rw [claim])
        rw [claim] at claims
        exact ⟨gen, claims⟩
  · have unheld : s.holds p r = false := Bool.eq_false_iff.mpr held
    rw [State.endClaim_unheld unheld, if_neg held]
    refine ⟨?_, rfl⟩
    cases r <;> exact (if_neg held).symm

/-- The windows of an output go with its claim (R44). -/
theorem State.endClaim_slot (p : PortId) (station : Nat) (s : State) (r : Resource) (i : Fin 48) :
    (State.endClaim p station s r).slots[i] =
      if r = .output s.slots[i].output ∧ s.holds p r = true then Slot.free else s.slots[i] := by
  by_cases held : s.holds p r = true
  · have passed (r : Resource) : (s.passOn r station).slots[i] = if r = .output s.slots[i].output then Slot.free else s.slots[i] := by
      unfold State.passOn
      rw [((s.cleanup r).handOver_reach r station .sessionEnded).slots, State.cleanup_slot]
    unfold State.endClaim
    rw [if_pos held]
    cases r with
    | output o =>
      refine (passed _).trans (if_congr ?_ rfl rfl)
      exact (and_iff_left held).symm
    | axis x => exact (passed _).trans ((if_neg nofun).trans (if_neg fun k => absurd k.1 nofun).symm)
    | generator g =>
      dsimp only
      split
      · exact (passed _).trans ((if_neg nofun).trans (if_neg fun k => absurd k.1 nofun).symm)
      · obtain ⟨_, only⟩ := s.loseOwner_only g station
        have slots : (s.loseOwner g station).slots[i] = s.slots[i] := congrArg (fun v : Vector Slot 48 => v[i]) only.move.slots
        exact slots.trans (if_neg fun k => absurd k.1 nofun).symm
  · rw [State.endClaim_unheld (Bool.eq_false_iff.mpr held), if_neg fun k => held k.2]

end Sys2Proof.Machine
end

section
/-! SUPPORT. The end of a session leaves nothing of it, and gives back what it held (R142 to R144, R157 to R159). -/

namespace Sys2Proof.Machine

variable {s t u v w : State} {p q : PortId} {g : GenId} {r : Resource} {station : Nat} {done : List Resource} {P Q : State → Prop}
  {cause : SessionCause}

/-! ### The claims one after another -/

theorem allResources_once : allResources.Nodup := by decide

theorem endClaims_keep {l : List Resource} (keeps : ∀ r ∈ l, ∀ t, P t → P (State.endClaim p station t r)) (start : P s) :
    P (l.foldl (State.endClaim p station) s) := by
  induction l generalizing s with
  | nil => exact start
  | cons r l ih => exact ih (fun q hq => keeps q (.tail _ hq)) (keeps r (.head _) s start)

/-- What the end of a claim brings about, those of the others keeping what it finds and what it leaves. -/
theorem endClaims_once (r : Resource) (before : ∀ q, q ≠ r → ∀ t, P t → P (State.endClaim p station t q))
    (acts : ∀ t, P t → Q (State.endClaim p station t r)) (after : ∀ q, q ≠ r → ∀ t, Q t → Q (State.endClaim p station t q)) (start : P s) :
    Q (allResources.foldl (State.endClaim p station) s) := by
  obtain ⟨k, l, split⟩ := List.append_of_mem (mem_allResources r)
  have once := allResources_once
  rw [split] at once
  have apart (q : Resource) (mem : q ∈ k ++ l) : q ≠ r := by
    rintro rfl
    exact (List.nodup_middle.mp once).notMem mem
  rw [split, List.foldl_append, List.foldl_cons]
  refine endClaims_keep (fun q hq => after q (apart q (List.mem_append_right _ hq))) (acts _ ?_)
  exact endClaims_keep (fun q hq => before q (apart q (List.mem_append_left _ hq))) start

theorem State.GivenAt.of_before (stands : s.StandsAt v r) (claim : v.claim r = s.claim r) (h : v.GivenAt p t r) : s.GivenAt p t r := by
  have held : v.holds p r = s.holds p r := by
    unfold State.holds State.holder
    rw [claim]
  cases r <;> unfold State.GivenAt at h ⊢ <;> unfold State.StandsAt at stands <;> dsimp only at h stands ⊢ <;> rw [h, held, stands]

theorem State.claimGivenBack_congr (stands : s.StandsAt v r) (claim : v.claim r = s.claim r) (station : Nat) :
    v.claimGivenBack r station = s.claimGivenBack r station := by
  unfold State.claimGivenBack
  cases r with
  | output o => dsimp only; rw [claim]
  | axis x => dsimp only; rw [claim]
  | generator g =>
    dsimp only
    rw [claim, show v.gen g = s.gen g from stands]

/-- Every resource, with its claim, as the claims of an ending session have fallen (R142). -/
theorem State.Ending.given_back (h : s.Ending p []) (station : Nat) (r : Resource) :
    s.GivenAt p (allResources.foldl (State.endClaim p station) s) r ∧
      (allResources.foldl (State.endClaim p station) s).claim r =
        if s.holds p r then s.claimGivenBack r station else s.claim r := by
  refine endClaims_once (P := fun v => (∃ done, v.Ending p done) ∧ s.StandsAt v r ∧ v.claim r = s.claim r)
    (Q := fun v => s.GivenAt p v r ∧ v.claim r = if s.holds p r then s.claimGivenBack r station else s.claim r) r
    (fun q other v k => ?_) (fun v k => ?_) (fun q other v k => ?_) ⟨⟨_, h⟩, .of_eq rfl rfl rfl r, rfl⟩
  · obtain ⟨⟨done, ending⟩, stands, claim⟩ := k
    obtain ⟨still, same⟩ := State.endClaim_other (s := v) other p station
    exact ⟨⟨_, ending.endClaim station q⟩, stands.trans still, same.trans claim⟩
  · obtain ⟨⟨done, ending⟩, stands, claim⟩ := k
    obtain ⟨given, same⟩ := State.endClaim_given ending.sound r station
    have held : v.holds p r = s.holds p r := by
      unfold State.holds State.holder
      rw [claim]
    rw [held, State.claimGivenBack_congr stands claim, claim] at same
    exact ⟨given.of_before stands claim, same⟩
  · obtain ⟨given, claim⟩ := k
    obtain ⟨still, same⟩ := State.endClaim_other (s := v) other p station
    exact ⟨given.of_stands still, same.trans claim⟩

/-- The windows as the claims of an ending session have fallen (R44). -/
theorem endClaims_slot (s : State) (i : Fin 48) :
    (s.holds p (.output s.slots[i].output) = true →
      (allResources.foldl (State.endClaim p station) s).slots[i].status = .free) ∧
    (s.holds p (.output s.slots[i].output) = false → (allResources.foldl (State.endClaim p station) s).slots[i] = s.slots[i]) := by
  have keeps (v : State) (q : Resource) (other : q ≠ .output s.slots[i].output) (slot : v.slots[i] = s.slots[i]) :
      (State.endClaim p station v q).slots[i] = s.slots[i] := by
    rw [State.endClaim_slot, slot, if_neg fun k => other k.1]
  refine ⟨fun held => ?_, fun unheld => ?_⟩
  · refine endClaims_once
      (P := fun v => v.slots[i] = s.slots[i] ∧ v.claim (.output s.slots[i].output) = s.claim (.output s.slots[i].output))
      (Q := fun v => v.slots[i].status = .free) (.output s.slots[i].output) (fun q other v k => ⟨keeps v q other k.1, ?_⟩) (fun v k => ?_)
      (fun q _ v k => ?_) ⟨rfl, rfl⟩
    · exact (State.endClaim_other other p station).2.trans k.2
    · have held' : v.holds p (.output s.slots[i].output) = true := by
        rw [State.holds_iff, k.2]
        exact (State.holds_iff _ _ _).mp held
      rw [State.endClaim_slot, k.1, if_pos ⟨rfl, held'⟩]
      rfl
    · rw [State.endClaim_slot]
      split
      · rfl
      · exact k
  · refine endClaims_once
      (P := fun v => v.slots[i] = s.slots[i] ∧ v.claim (.output s.slots[i].output) = s.claim (.output s.slots[i].output))
      (Q := fun v => v.slots[i] = s.slots[i]) (.output s.slots[i].output) (fun q other v k => ⟨keeps v q other k.1, ?_⟩) (fun v k => ?_)
      (fun q other v k => keeps v q other k) ⟨rfl, rfl⟩
    · exact (State.endClaim_other other p station).2.trans k.2
    · have unheld' : v.holds p (.output s.slots[i].output) = false := by
        unfold State.holds State.holder at unheld ⊢
        rw [k.2]
        exact unheld
      rw [State.endClaim_unheld unheld']
      exact k.1

/-- The end of a claim leaves commits and compare lists, and tells the ports notices alone. -/
theorem State.endClaim_leaves (p : PortId) (station : Nat) (s : State) (r : Resource) :
    (State.endClaim p station s r).commits = s.commits ∧ (State.endClaim p station s r).compares = s.compares ∧
      ∃ n, State.Told (fun _ => True) n s (State.endClaim p station s r) := by
  have passed (r : Resource) : (s.passOn r station).commits = s.commits ∧ (s.passOn r station).compares = s.compares ∧
      ∃ n, State.Told (fun _ => True) n s (s.passOn r station) := by
    have reach := (s.cleanup r).handOver_reach r station .sessionEnded
    have cleaned : State.Told (fun _ => True) 0 s (s.cleanup r) := .of_ports _ _ (s.cleanup_reach r).now (s.cleanup_ports r)
    exact ⟨reach.commits.trans (s.cleanup_commits r), reach.compares.trans (s.cleanup_compares r), _,
      cleaned.trans (State.handOver_told _ r station .sessionEnded trivial trivial)⟩
  unfold State.endClaim
  split
  · split
    · exact passed _
    · exact passed _
    · split
      · exact passed _
      · rename_i g _ _
        obtain ⟨n, only⟩ := s.loseOwner_only g station
        have set := State.setClaim_told (fun _ => True) 0 s (.generator g)
          { state := .releasing, owner := none, former := station, waiters := (s.claim (.generator g)).waiters }
        exact ⟨only.move.commits, only.move.compares, _, set.trans (only.told.weaken fun _ _ => trivial)⟩
  · exact ⟨rfl, rfl, 0, .refl _ _ _⟩

theorem endClaims_leave (p : PortId) (station : Nat) (s : State) :
    (allResources.foldl (State.endClaim p station) s).commits = s.commits ∧
      (allResources.foldl (State.endClaim p station) s).compares = s.compares ∧
      ∃ n, State.Told (fun _ => True) n s (allResources.foldl (State.endClaim p station) s) := by
  refine endClaims_keep (P := fun v => v.commits = s.commits ∧ v.compares = s.compares ∧ ∃ n, State.Told (fun _ => True) n s v)
    (fun r _ v k => ?_) ⟨rfl, rfl, 0, .refl _ _ _⟩
  obtain ⟨commits, compares, n, told⟩ := k
  obtain ⟨commits', compares', n', told'⟩ := State.endClaim_leaves p station v r
  exact ⟨commits'.trans commits, compares'.trans compares, _, told.trans told'⟩

/-- A port without a session is told nothing (R164). -/
theorem Port.Told.closed {K : NoticeKind → Prop} {now : Word} {n : Nat} {a b : Port} (h : Port.Told K now n a b)
    (closed : a.session.isOpen = false) : b = a := by
  induction h with
  | same => rfl
  | @more _ _ b k _ _ ih =>
    have same := ih closed
    subst same
    unfold Port.tell
    rw [if_neg (by rw [closed]; nofun)]

end Sys2Proof.Machine
end

section
/-! SUPPORT. The statement of the session's end (R157 to R159). -/

namespace Sys2Proof.Machine

variable {s t u v w : State} {p q : PortId} {g : GenId} {r : Resource} {cause : SessionCause}

/-! ### The end of a session, part by part -/

theorem State.endSession_slots (s : State) (i : Fin 48) :
    (s.holds p (.output s.slots[i].output) = true → (s.endSession p cause).slots[i].status = .free) ∧
      (s.holds p (.output s.slots[i].output) = false → (s.endSession p cause).slots[i] = s.slots[i]) := by
  have reach := s.sessionGone_reach p cause
  have slots : (s.sessionGone p cause).slots = s.slots := (congrArg State.slots reach).trans rfl
  have slot : (s.sessionGone p cause).slots[i] = s.slots[i] := by rw [slots]
  have falls := endClaims_slot (p := p) (station := s.station p) (s.sessionGone p cause) i
  have held : (s.sessionGone p cause).holds p (.output (s.sessionGone p cause).slots[i].output) = s.holds p (.output s.slots[i].output) := by
    rw [slot]
    unfold State.holds State.holder
    rw [State.sessionGone_claim]
    rfl
  rw [held, ← State.endSession_eq] at falls
  exact ⟨falls.1, fun unheld => (falls.2 unheld).trans slot⟩

/-- Every resource after the end of a session that held it, with its claim (R142, R143). -/
theorem State.Sound.endSession_given (h : s.Sound none) (p : PortId) (cause : SessionCause) (r : Resource) :
    s.GivenAt p (s.endSession p cause) r ∧
      (s.endSession p cause).claim r =
        if s.holds p r then s.claimGivenBack r (s.session p).station
        else { s.claim r with waiters := (s.claim r).waiters.filter fun q => decide (q ≠ p) } := by
  let v := s.sessionGone p cause
  obtain ⟨given, claim⟩ := (h.sessionGone p cause).given_back (s.station p) r
  rw [← State.endSession_eq] at given claim
  have reach := s.sessionGone_reach p cause
  have stands : s.StandsAt v r :=
    .of_eq ((congrArg State.channels reach).trans rfl) ((congrArg State.gens reach).trans rfl) ((congrArg State.axes reach).trans rfl) r
  have held : v.holds p r = s.holds p r := by
    unfold State.holds State.holder
    rw [s.sessionGone_claim p cause r]
    rfl
  refine ⟨?_, ?_⟩
  · cases r <;> unfold State.GivenAt at given ⊢ <;> unfold State.StandsAt at stands <;> dsimp only at given stands ⊢ <;>
      rw [given, held, stands]
  · rw [claim, held]
    by_cases mine : s.holds p r = true
    · have owner := ((s.holds_iff p r).mp mine).2
      have same : v.claim r = s.claim r := by
        have all : (s.claim r).waiters.filter (fun q => decide (q ≠ p)) = (s.claim r).waiters :=
          List.filter_eq_self.mpr fun q waits => decide_eq_true fun e =>
            (h.claims.each r).owner_not_waiting p owner (e ▸ waits)
        rw [s.sessionGone_claim p cause r]
        unfold Claim.dropWaiter
        rw [all]
      rw [if_pos mine, if_pos mine]
      exact State.claimGivenBack_congr stands same _
    · rw [if_neg mine, if_neg mine]
      exact s.sessionGone_claim p cause r

/-- The port of an ended session (R157, R158, R173, R183). -/
theorem State.endSession_port (s : State) (p : PortId) (cause : SessionCause) : (s.endSession p cause).port p = (s.port p).ended := by
  have gone := (s.sessionGone_told p cause).port p
  have start : (s.modPort p Port.ended).port p = (s.port p).ended := State.port_modPort_same _ _ _
  rw [start] at gone
  obtain ⟨-, -, n, told⟩ := endClaims_leave p (s.station p) (s.sessionGone p cause)
  have same := gone.closed rfl
  have after := told.port p
  rw [same, ← State.endSession_eq] at after
  exact after.closed rfl

theorem State.endSession_session (s : State) (p : PortId) (cause : SessionCause) (other : q ≠ p) :
    (s.endSession p cause).session q = s.session q := by
  obtain ⟨-, -, n, told⟩ := endClaims_leave p (s.station p) (s.sessionGone p cause)
  rw [State.endSession_eq, told.session, State.sessionGone_session, if_neg other]

/-- SESSION_ENDED reaches every other session that has subscribed to it (R159). -/
theorem State.endSession_posted (s : State) (p : PortId) (cause : SessionCause) (other : q ≠ p) (isOpen : (s.session q).isOpen = true)
    (subscribed : (s.session q).subs.sessionEnded = true) (room : (s.port q).notices.items.length < 24) :
    ((s.endSession p cause).port q).Holds (.sessionEnded (s.session p).station p cause) := by
  have port : (s.modPort p Port.ended).port q = s.port q := State.modPort_port_other s p q _ other
  obtain ⟨-, -, n, told⟩ := endClaims_leave p (s.station p) (s.sessionGone p cause)
  rw [State.endSession_eq]
  refine told.holds ?_
  exact State.broadcast_holds (s := s.modPort p Port.ended) (wants := fun u => u.sessionEnded)
    (by unfold State.session; rw [port]; exact isOpen) (by unfold State.session; rw [port]; exact subscribed) (by rw [port]; exact room) _

/-- What the end of a session comes to, from the state before to the state after (R142, R157 to R159). -/
structure State.SessionEnds (s t : State) (p : PortId) (cause : SessionCause) : Prop where
  nothing : t.NothingOf p
  gave : s.GaveBack t p
  sessions : ∀ q, q ≠ p → t.session q = s.session q
  halt : t.halt = s.halt
  lists : ∀ x, t.compareList x = (s.compareList x).filter fun e => decide (e.owner ≠ p)
  commits : ∀ q x, q ≠ p → t.hasCommit q x = s.hasCommit q x
  ids : t.nextCompareId = s.nextCompareId
  posted : ∀ q, q ≠ p → (s.session q).isOpen = true → (s.session q).subs.sessionEnded = true →
    (s.port q).notices.items.length < 24 → (t.port q).Holds (.sessionEnded (s.session p).station p cause)

theorem State.Sound.endSession_ends (h : s.Sound none) (p : PortId) (cause : SessionCause) :
    s.SessionEnds (s.endSession p cause) p cause := by
  have after := h.endSession p cause
  have port := s.endSession_port p cause
  obtain ⟨commits, compares, -⟩ := endClaims_leave p (s.station p) (s.sessionGone p cause)
  rw [← State.endSession_eq] at commits compares
  have closed : (s.endSession p cause).session p = Session.closed := congrArg Port.session port
  have list (x : AxisId) : (s.endSession p cause).compareList x = (s.compareList x).filter fun e => decide (e.owner ≠ p) := by
    rw [State.compareList_congr compares, State.compareList_congr (s.sessionGone_compares p cause), State.removeEntries_compareList]
    exact List.filter_congr fun e _ => decide_not.symm
  have commit (q : PortId) (x : AxisId) : (s.endSession p cause).hasCommit q x = if q = p then false else s.hasCommit q x := by
    rw [State.hasCommit_congr commits]
    exact s.sessionGone_hasCommit p q x cause
  have given := h.endSession_given p cause
  have shut (q : PortId) (isOpen : ((s.endSession p cause).session q).isOpen = true) : q ≠ p := by
    rintro rfl
    rw [closed] at isOpen
    cases isOpen
  refine
    { nothing :=
        ⟨closed, congrArg Port.notices port, congrArg Port.cache port, fun x => (commit p x).trans (if_pos rfl), fun x e mem => ?_,
          fun r owner => shut p (after.claimsLawful.owners_open r p owner) rfl,
          fun r waits => shut p (after.claimsLawful.waiters_open r p waits) rfl⟩
      gave := ⟨fun i _ held => (s.endSession_slots i).1 held, fun i unheld => (s.endSession_slots i).2 unheld,
        fun o => (given (.output o)).1, fun x => (given (.axis x)).1, fun g => (given (.generator g)).1, fun r => (given r).2⟩
      sessions := fun q other => s.endSession_session p cause other
      halt := (s.endSession_reach p cause).halt
      lists := list
      commits := fun q x other => (commit q x).trans (if_neg other)
      ids := (s.endSession_reach p cause).nextCompareId
      posted := fun q other isOpen subscribed room => s.endSession_posted p cause other isOpen subscribed room }
  rw [list] at mem
  exact of_decide_eq_true (List.mem_filter.mp mem).2

/-- The end of a session on a port whose transport alone has changed before it (R153, R179). -/
theorem State.SessionEnds.of_transport {f : Port → Port} {c : Option PortId} (session : ∀ q : Port, (f q).session = q.session)
    (h : (State.modPort { s with clearing := c } p f).SessionEnds t p cause) : s.SessionEnds t p cause := by
  let w := State.modPort { s with clearing := c } p f
  have same (q : PortId) : w.session q = s.session q := by
    unfold State.session
    rw [State.modPort_port]
    split
    · rename_i e
      subst e
      exact session _
    · rfl
  have port (q : PortId) (other : q ≠ p) : w.port q = s.port q := State.modPort_port_other _ p q f other
  have claims := h.gave.claims
  rw [same] at claims
  refine ⟨h.nothing, ⟨h.gave.windows, h.gave.other_windows, h.gave.outputs, h.gave.axes, h.gave.generators, claims⟩,
    fun q other => (h.sessions q other).trans (same q), h.halt, h.lists, h.commits, h.ids, fun q other isOpen subscribed room => ?_⟩
  have posted := h.posted q other
  rw [same, same, port q other] at posted
  exact posted isOpen subscribed room

/-- The end of the response to Close Session, with no request held behind it (R153, R181). -/
theorem State.frameEnds_closing {k : Intake} {bytes : List Byte} (isOpen : (s.session p).isOpen = true) (intake : (s.port p).intake = [k])
    (tx : (s.port p).tx = some { kind := .response true, bytes := bytes }) :
    s.frameEnds p = ((s.modPort p fun q => { q with intake := q.intake.tail }).idleTx p).endSession p .closed := by
  let u := (s.modPort p fun q => { q with intake := q.intake.tail }).idleTx p
  have port : u.port p = { s.port p with intake := (s.port p).intake.tail, tx := none } := by
    unfold u State.idleTx
    rw [State.port_modPort_same, State.port_modPort_same]
  have open' : (u.session p).isOpen = true := by
    unfold State.session
    rw [port]
    exact isOpen
  have empty : ((u.endSession p .closed).port p).intake = [] := by
    rw [State.endSession_port, port, intake]
    rfl
  unfold State.frameEnds
  rw [tx]
  change (if (u.session p).isOpen then u.endSession p .closed else u).serveHead p = u.endSession p .closed
  rw [if_pos open']
  unfold State.serveHead
  rw [empty]

/-- Settles O31: a lapse, a break, and the end of the response to Close Session, each by the end of the session. -/
theorem sessionEndLeavesNothing : Obligations.SessionEndLeavesNothing := by
  intro s p lawful isOpen ended
  have sound := lawful.sound
  have ends {t : State} {cause : SessionCause} (k : s.SessionEnds t p cause) : ended t cause :=
    ⟨k.nothing, k.gave, k.sessions, k.halt, k.lists, k.commits, k.ids, k.posted⟩
  refine ⟨fun lapsed => ?_, fun mark => ?_, fun h bytes intake tx => ?_⟩
  · have run : exec (.leaseExpiry p) s = .next (s.endSession p .lapsed) := by
      rw [Instr.exec_fieldEvent rfl]
      unfold State.leaseExpires
      rw [if_pos ⟨isOpen, lapsed⟩]
    exact ⟨_, run, ends (sound.endSession_ends p .lapsed)⟩
  · let w := State.modPort { s with clearing := if s.clearing = some p then none else s.clearing } p Port.broken
    have run : exec (.linkBreak p) s = .next (w.endSession p .brk) := by
      change Host.Outcome.next (s.breakLink p) = _
      unfold State.breakLink
      rw [if_neg (by rw [mark]; nofun), if_pos isOpen]
    have broken : w.Sound none := (sound.clearingAt _).transport p Port.broken (fun _ => rfl) fun _ => rfl
    exact ⟨_, run, ends (State.SessionEnds.of_transport (f := Port.broken) (fun _ => rfl) (broken.endSession_ends p .brk))⟩
  · have run : exec (.frameEnd p) s = .next (s.frameEnds p) := rfl
    have freed : (s.modPort p fun q => { q with intake := q.intake.tail }).Sound none :=
      sound.transport p (fun q => { q with intake := q.intake.tail }) (fun _ => rfl) fun _ => rfl
    rw [State.frameEnds_closing isOpen intake tx] at run
    have idle := (freed.idleTx p).endSession_ends p .closed
    have freedEnds := State.SessionEnds.of_transport (s := s.modPort p fun q => { q with intake := q.intake.tail })
      (f := fun q => { q with tx := none }) (fun _ => rfl) idle
    exact ⟨_, run, ends (State.SessionEnds.of_transport (f := fun q => { q with intake := q.intake.tail }) (fun _ => rfl) freedEnds)⟩

end Sys2Proof.Machine
end
